-- ==== Sys2Proof/Word.lean ====
section
/-! DEFINITION. The words of the device, the numbers of its objects (Table 0-4), and fixed-length tables. -/

namespace Sys2Proof

/-- A 32-bit word of the window or of master memory (R171). -/
abbrev Word := BitVec 32
/-- A 16-bit sequence or landing index (00, Wrapping indices). -/
abbrev Half := BitVec 16
/-- A byte, a generation, a tag or an event index. -/
abbrev Byte := BitVec 8

/-- Port 0 to 3 (Table 0-4). -/
abbrev PortId := Fin 4
/-- Channel 0 to 63 (Table 0-4). -/
abbrev ChannelId := Fin 64
/-- Producer or consumer slot 0 to 15 (Table 0-4). -/
abbrev SlotId := Fin 16
/-- Vector 0 to 3 (Table 0-4). -/
abbrev VectorId := Fin 4
/-- Segment 0 to 2047 (R1). -/
abbrev SegmentId := Fin 2048
/-- Message record 0 to 1023 (R4). -/
abbrev RecordId := Fin 1024

/-- A fixed number of like things. -/
abbrev Table (α : Type) (n : Nat) := Vector α n

/-- Entry `i` of a table. -/
def Table.read {α : Type} {n : Nat} (t : Table α n) (i : Fin n) : α := t[i.val]

/-- The table with entry `i` replaced. -/
def Table.write {α : Type} {n : Nat} (t : Table α n) (i : Fin n) (a : α) : Table α n :=
  Vector.set t i.val a i.isLt

/-- The table whose entry `i` is `f i`. -/
def Table.build {α : Type} {n : Nat} (f : Fin n → α) : Table α n := Vector.ofFn f

/-- The table that holds `a` everywhere. -/
def Table.fill {α : Type} (n : Nat) (a : α) : Table α n := Vector.replicate n a

/-- The numbers `i, i + 1, …`, `k` of them, as numbers below `n`. -/
def ascending (n : Nat) [NeZero n] : Nat → Nat → List (Fin n)
  | _, 0 => []
  | i, k + 1 => Fin.ofNat n i :: ascending n (i + 1) k

/-- The 64 channels in ascending order. -/
def allChannels : List ChannelId := ascending 64 0 64
/-- The 16 slots in ascending order. -/
def allSlots : List SlotId := ascending 16 0 16
/-- The four ports in ascending order. -/
def allPorts : List PortId := ascending 4 0 4
/-- The four vectors in ascending order. -/
def allVectors : List VectorId := ascending 4 0 4

end Sys2Proof
end

