-- ==== Sys2Proof/Config.lean ====
section
/-! DEFINITION. What the device fixes (marks, depths, limits), and the one free value of the model. -/

namespace Sys2Proof.Config

/-- The urgent reserve, 64 segments (R9, Table 1-3). -/
def urgentReserve : Nat := 64
/-- The low mark, 192 segments (R14, Table 1-3). -/
def lowMark : Nat := 192
/-- The recover mark, 384 segments (R15, Table 1-3). -/
def recoverMark : Nat := 384
/-- The backlog is 32 events deep (R127). -/
def backlogDepth : Nat := 32
/-- The event ring holds 64 records (R129). -/
def eventRingSize : Nat := 64
/-- The write timeout, 64 µs (R75). -/
def writeTimeout : Nat := 64
/-- The greatest pending count of a coalescer (R133). -/
def pendingMax : Nat := 65535

/-- FREE VALUE (log 5, DESIGN CHOICE): how many bytes of the payload a copy had written when a port reset abandoned it.
R69 says only that its segments "may hold some bytes of the abandoned payload". -/
opaque abandonedCopyBytes : Nat → Nat

end Sys2Proof.Config
end

