-- ==== Sys2Proof/Syntax.lean ====
section
/-! DEFINITION. The commands: one constructor for each row of spec/opcode_table.json. -/

namespace Sys2Proof

/-- The size of a window access (R170). -/
inductive AccessSize where
  | byte
  | halfword
  | word
deriving DecidableEq, Repr

/-- The fourteen commands of Table 10-1. -/
inductive Command where
  | offer
  | accept
  | decline
  | close
  | post
  | land
  | confirm
  | query
  | readCounters
  | setVector
  | attach
  | detach
  | armRetain
  | disarmRetain
deriving DecidableEq, Repr

/-- An answer of the link of a port: the number of the job whose write it answers tells it from an answer to a write of a job that has ended (R75; log 26). -/
structure LinkAnswer where
  port : PortId
  job : Nat
deriving DecidableEq, Repr

/-- An answer ERROR. `taken`: the port state machine takes the failure in the same step; otherwise it is handed over and taken later (R85 step 3, R157;
log 27). -/
structure LinkError where
  port : PortId
  job : Nat
  taken : Bool
deriving DecidableEq, Repr

/-- An expiry of the write timeout of a port; `taken` as for an answer ERROR. -/
structure LinkTimeout where
  port : PortId
  taken : Bool
deriving DecidableEq, Repr

/-- A command to the block: a window write by a master, an answer of a link, a change of a reset pin, or a step of the device's own
that spec/opcode_table.json lists. The fourteen slot commands are writes of the command word by the master of port `p` with
that kind and that NOTIFY flag; their arguments are the argument words that State holds (R161, R172). -/
inductive Instr where
  | offer (p : PortId) (notify : Bool)
  | accept (p : PortId) (notify : Bool)
  | decline (p : PortId) (notify : Bool)
  | close (p : PortId) (notify : Bool)
  | post (p : PortId) (notify : Bool)
  | land (p : PortId) (notify : Bool)
  | confirm (p : PortId) (notify : Bool)
  | query (p : PortId) (notify : Bool)
  | readCounters (p : PortId) (notify : Bool)
  | setVector (p : PortId) (notify : Bool)
  | attach (p : PortId) (notify : Bool)
  | detach (p : PortId) (notify : Bool)
  | armRetain (p : PortId) (notify : Bool)
  | disarmRetain (p : PortId) (notify : Bool)
  | badCommand (p : PortId) (kind : Byte) (notify : Bool)
  | cmdOverrun (p : PortId) (kind : Byte) (notify : Bool)
  | composeBufferWrite (p : PortId) (index : Fin 256) (value : Word)
  | creditWrite (p : PortId) (slot : SlotId) (value : Word)
  | eventReadIndexWrite (p : PortId) (value : Word)
  | rearm (p : PortId) (vector : VectorId) (value : Word)
  | windowWrite (p : PortId) (size : AccessSize) (offset : BitVec 13) (value : Word)
  | deviceReset
  | deviceResetRelease
  | portReset (p : PortId)
  | portResetRelease (p : PortId)
  | quiesceEnd (p : PortId)
  | detachmentOnEntry (p : PortId) (channel : ChannelId)
  | requeue (p : PortId) (channel : ChannelId)
  | poolHoldRequest (channel : ChannelId)
  | poolRetest (channel : ChannelId)
  | offerTimerExpiry (channel : ChannelId)
  | holdTimerExpiry (channel : ChannelId)
  | coalescingDelayExpiry (p : PortId) (vector : VectorId)
  | writeTimeout (e : LinkTimeout)
  | copyCompletion (p : PortId)
  | landingJobStart (p : PortId)
  | flushJobStart (p : PortId)
  | signalJobStart (p : PortId)
  | linkWriteOk (a : LinkAnswer)
  | landingCompletion (a : LinkAnswer)
  | flushCompletion (a : LinkAnswer)
  | signalCompletion (a : LinkAnswer)
  | linkWriteError (e : LinkError)
deriving DecidableEq, Repr

end Sys2Proof
end

