-- ==== Sys2Proof/Decode.lean ====
section
/-! DEFINITION. Bit fields, the codes of the command kinds, the port window map (Table 11-1), and the table words (no row of the
opcode table gives bits). -/

namespace Sys2Proof

/-- Bits `hi:lo` of a word, as a number (R171). -/
def bits (w : Word) (hi lo : Nat) : Nat := (w.toNat >>> lo) % 2 ^ (hi + 1 - lo)

/-- Bit `i` of a word. -/
def bit (w : Word) (i : Nat) : Bool := w.getLsbD i

/-- A field `(value, hi, lo)` of a word being written: the value in bits `hi:lo` (R171). -/
abbrev Field := Nat × Nat × Nat

/-- The word of `n` bits that holds the given fields; bits not listed are zero (R171). The fields of one word do not overlap. -/
def pack (n : Nat) (fields : List Field) : BitVec n :=
  BitVec.ofNat n (fields.foldl (fun a f => a + (f.1 % 2 ^ (f.2.1 + 1 - f.2.2)) <<< f.2.2) 0)

/-- A flag as the number of its bit. -/
def flag (b : Bool) : Nat := if b then 1 else 0

/-- The command a kind names; none for a kind that is none of the fourteen (11, Command kinds; R162). -/
def commandOfKind : Nat → Option Command
  | 1 => some .offer
  | 2 => some .accept
  | 3 => some .decline
  | 4 => some .close
  | 5 => some .post
  | 6 => some .land
  | 7 => some .confirm
  | 8 => some .query
  | 9 => some .readCounters
  | 10 => some .setVector
  | 11 => some .attach
  | 12 => some .detach
  | 13 => some .armRetain
  | 14 => some .disarmRetain
  | _ => none

/-- The kind that names a command (11, Command kinds). -/
def kindOf : Command → Byte
  | .offer => 1
  | .accept => 2
  | .decline => 3
  | .close => 4
  | .post => 5
  | .land => 6
  | .confirm => 7
  | .query => 8
  | .readCounters => 9
  | .setVector => 10
  | .attach => 11
  | .detach => 12
  | .armRetain => 13
  | .disarmRetain => 14

/-- What a window offset names (Table 11-1). -/
inductive WindowTarget where
  | compose (k : Fin 256)
  | command
  | status
  | result (k : Fin 4)
  | argument (k : Fin 8)
  | credit (s : SlotId)
  | eventRead
  | rearm (v : VectorId)
  | portStatus
  | faultAddress
  | portNumber
  | unmapped
deriving DecidableEq, Repr

/-- The word at byte offset `4 * k` of the window (Table 11-1; offset 0x0400 is word 256). -/
def windowWordTarget (k : Nat) : WindowTarget :=
  if h : k < 256 then .compose ⟨k, h⟩
  else if k = 256 then .command
  else if k = 257 then .status
  else if h : 258 ≤ k ∧ k < 262 then .result ⟨k - 258, by omega⟩
  else if h : 264 ≤ k ∧ k < 272 then .argument ⟨k - 264, by omega⟩
  else if h : 320 ≤ k ∧ k < 336 then .credit ⟨k - 320, by omega⟩
  else if k = 336 then .eventRead
  else if h : 340 ≤ k ∧ k < 344 then .rearm ⟨k - 340, by omega⟩
  else if k = 352 then .portStatus
  else if k = 353 then .faultAddress
  else if k = 354 then .portNumber
  else .unmapped

/-- What an access names: an aligned word access its word; every other access counts as unmapped (R170). -/
def windowTarget (size : AccessSize) (offset : BitVec 13) : WindowTarget :=
  match size with
  | .word => if offset.toNat % 4 = 0 then windowWordTarget (offset.toNat / 4) else .unmapped
  | .halfword => .unmapped
  | .byte => .unmapped

/-- No row of spec/opcode_table.json gives bits: no word spells a command. -/
def decodeTableWord (_nbits _w : Nat) : Option Instr := none

end Sys2Proof
end

