-- ==== Sys2Proof/Machine/State.lean ====
section
/-! DEFINITION. The state of the device: everything the spec gives it, as plain data, and its value after device reset. -/

namespace Sys2Proof.Machine

/-- A byte memory: (address, byte) pairs, addresses strictly rising, no zero byte listed; an unlisted address reads 0 (the reset
contents of R1 and R55). -/
abbrev Memory := List Host.Cell

/-! ## Segment Pool Manager -/

/-- The place of a message record in the life of its message (R7). -/
inductive RecordState where
  | filling
  | queued
  | landing
  | unconfirmed
deriving DecidableEq, Repr

/-- A message record in use (Table 1-1). -/
structure Record where
  channel : ChannelId
  generation : Byte
  sequence : Half
  length : Nat
  userTag : Half
  source : PortId
  urgent : Bool
  replay : Bool
  chain : List SegmentId
  state : RecordState
deriving DecidableEq, Repr

/-- The pool state (R14, R15). -/
inductive PoolLevel where
  | normal
  | low
deriving DecidableEq, Repr

/-- The Segment Pool Manager: segment store (byte address 64 * segment + offset), free lists, record table, pool state (R1 to R17).
The free count is the length of the segment free list (R3). -/
structure Pool where
  segments : Memory
  segFree : List SegmentId
  recFree : List RecordId
  records : Table (Option Record) 1024
  level : PoolLevel
deriving DecidableEq, Repr

/-! ## Channel Controller -/

/-- A running timer: its interval in µs, and the ticks of the timebase counted after the first tick at or after its start; none before that tick
(R177). -/
structure Timer where
  limit : Nat
  count : Option Nat
deriving DecidableEq, Repr

/-- A port and one of its slots (R24). -/
structure Party where
  port : PortId
  slot : SlotId
deriving DecidableEq, Repr

/-- The two ports of an offer and its timer (R35, R36). -/
structure Offer where
  offeror : PortId
  peer : PortId
  timer : Timer
deriving DecidableEq, Repr

/-- The state of an entry in use; FREE is an entry with no use (R18). The offer is present in OFFERED only. -/
inductive Stage where
  | offered (offer : Offer)
  | opened
  | closing
  | ending
  | orphaned
deriving DecidableEq, Repr

/-- The class of a channel; the confirm window is present on a CONFIRMED channel only (R23). -/
inductive ChannelClass where
  | plain
  | confirmed (window : Nat)
deriving DecidableEq, Repr

/-- The terms of a channel (R23). -/
structure Terms where
  cls : ChannelClass
  priority : Fin 4
  maxLength : Nat
  quota : Nat
  holdMark : Nat
  releaseMark : Nat
  holdInterval : Nat
deriving DecidableEq, Repr

/-- Why a channel is held (R110). -/
inductive HoldReason where
  | quota
  | pool
deriving DecidableEq, Repr

/-- The reason and the timer of a HELD channel (R110). -/
structure Hold where
  reason : HoldReason
  timer : Timer
deriving DecidableEq, Repr

/-- A landing ring; the slot size is in units of 64 bytes (R26). -/
structure Ring where
  armed : Bool
  base : Word
  slotCount : Nat
  slotUnits : Nat
  writeIndex : Half
  readIndex : Half
deriving DecidableEq, Repr

/-- The seven counters of an entry (R32, Table 2-6). -/
structure Counters where
  postsAccepted : Word
  refusedHold : Word
  refusedOther : Word
  landed : Word
  replayed : Word
  holdsEntered : Word
  renewals : Word
deriving DecidableEq, Repr

/-- The fields of an entry that is not FREE (Table 2-1). `hold` is none while the channel is FLOWING. -/
structure Use where
  stage : Stage
  producer : Option Party
  consumer : Option Party
  terms : Terms
  held : Nat
  queue : List RecordId
  unconfirmed : List RecordId
  nextSequence : Half
  fill : Bool
  ring : Option Ring
  hold : Option Hold
deriving DecidableEq, Repr

/-- A Channel Table entry; `use` is none when the entry is FREE (R18). -/
structure Entry where
  generation : Byte
  counters : Counters
  use : Option Use
deriving DecidableEq, Repr

/-! ## Port Interface Unit -/

/-- The port state (R144). -/
inductive PortState where
  | detached
  | attached
  | quiescing
  | retained
  | faulted
deriving DecidableEq, Repr

/-- The mode of a detach (R147). -/
inductive DetachMode where
  | flush
  | retain
deriving DecidableEq, Repr

/-- The status codes of Table 10-6. -/
inductive Status where
  | done
  | badCommand
  | badState
  | badArg
  | badChannel
  | noChannel
  | slotInUse
  | peerAbsent
  | late
  | ringTooSmall
  | tooLong
  | held
  | quota
  | noRecords
  | noSegments
  | closed
  | noConsumer
  | confirmRange
deriving DecidableEq, Repr

/-- The command slot of a port (R160 to R165). `latched` is the argument words as the command last taken latched them. -/
structure CommandSlot where
  busy : Bool
  arguments : Table Word 8
  latched : Table Word 8
  kind : Byte
  notify : Bool
  status : Byte
  responseKind : Byte
  completions : Byte
  results : Table Word 4
  overrun : Bool
deriving DecidableEq, Repr

/-- A Port Interface Unit. `leaveMode` is the mode of a detach decided and not yet made (QUIESCING, or a FAULTED port whose reset is asserted,
R156). `faultHanded` is a failure that the Port Writer has handed over and the port state machine has not yet taken (R85 step 3, R157,
Table 5-6). `copy` is the record of the copy in flight: the compose buffer is LOCKED exactly while there is one (R56). -/
structure Piu where
  state : PortState
  leaveMode : Option DetachMode
  faultHanded : Bool
  retainArmed : Bool
  retainedLast : Bool
  resetPin : Bool
  slot : CommandSlot
  compose : Memory
  clobbered : Bool
  copy : Option RecordId
  credit : Table Half 16
  eventRead : Byte
deriving DecidableEq, Repr

/-! ## Port Writer -/

/-- One write on the link: a target address in master memory and the word written (R75). -/
structure LinkWrite where
  address : Word
  data : Word
deriving DecidableEq, Repr

/-- What a job carries (R79, R135, R138). -/
inductive JobKind where
  | landing (channel : ChannelId) (generation : Byte) (record : RecordId) (index : Half)
  | flush (count : Nat) (tag : Byte) (vectors : List VectorId)
  | signal (vector : VectorId)
deriving DecidableEq, Repr

/-- The job in a Port Writer's job slot: the writes not yet answered OK, the first of them in flight, and the write timeout of that one (R75). -/
structure Job where
  kind : JobKind
  writes : List LinkWrite
  timeout : Timer
deriving DecidableEq, Repr

/-- The state of a Port Writer (R74). -/
inductive WriterState where
  | stopped
  | idle
  | busy (job : Job)
deriving DecidableEq, Repr

/-- The kind of a fault record (R89). -/
inductive FaultKind where
  | noFault
  | busError
  | timeout
deriving DecidableEq, Repr

/-- A Port Writer and its fault record (R74, R89). `jobs` is how many jobs it has put on its link: the number of the one in flight, by which an answer
names the job whose write it answers (R75; the model's own field, log 26). -/
structure Writer where
  state : WriterState
  faultKind : FaultKind
  faultAddress : Word
  jobs : Nat
deriving DecidableEq, Repr

/-! ## Notice Unit -/

/-- The fourteen kinds of event (Table 8-1). -/
inductive EventKind where
  | offerReceived
  | offerDeclined
  | offerExpired
  | offerWithdrawn
  | channelOpen
  | peerClosed
  | channelFreed
  | orphaned
  | consumerAway
  | consumerBack
  | hold
  | resume
  | creditRange
  | commandDone
deriving DecidableEq, Repr

/-- An event (R125). -/
structure Event where
  kind : EventKind
  qualifier : Byte
  channel : Byte
  detail : Half
  sequence : Half
deriving DecidableEq, Repr

/-- A consumer-slot word of the summary image (R131). -/
structure ConsumerWord where
  bound : Bool
  channel : ChannelId
  writeIndex : Half
deriving DecidableEq, Repr

/-- A producer-slot word of the summary image (R131). -/
structure ProducerWord where
  bound : Bool
  hold : Bool
  channel : ChannelId
  lastConfirmed : Half
deriving DecidableEq, Repr

/-- The state of a vector (R133). -/
inductive VectorState where
  | off
  | armed
  | signalled
deriving DecidableEq, Repr

/-- The target of a vector; none until SET_VECTOR or ATTACH gives one (R133, R142). -/
inductive VectorTarget where
  | noTarget
  | line
  | message (address data : Word)
deriving DecidableEq, Repr

/-- A coalescer (R133). -/
structure Coalescer where
  state : VectorState
  target : VectorTarget
  threshold : Nat
  delay : Nat
  pending : Nat
  timer : Option Timer
  fired : Bool
  due : Bool
  owed : Bool
deriving DecidableEq, Repr

/-- The granted vector count G: 1, 2 or 4 (R145). -/
inductive Grant where
  | one
  | two
  | four
deriving DecidableEq, Repr

/-- A Notice Unit (R125 to R143). `irq` is the port's PnIRQ output (R139). -/
structure Nu where
  noticeBase : Word
  grant : Grant
  backlog : List Event
  nextSequence : Half
  eventWrite : Byte
  tag : Byte
  lost : Byte
  eventsLost : Bool
  consumerWords : Table ConsumerWord 16
  producerWords : Table ProducerWord 16
  vectors : Table Coalescer 4
  flushRequest : Bool
  irq : Bool
deriving DecidableEq, Repr

/-! ## The device -/

/-- The blocks of one port, and the CHC's requests of this port's detachment (`flushOwed`) and of its retain or fault (`requeueOwed`) that
are not yet taken on an entry (R148, R157). -/
structure Port where
  piu : Piu
  writer : Writer
  nu : Nu
  flushOwed : List ChannelId
  requeueOwed : List ChannelId
deriving DecidableEq, Repr

/-- The whole device. `holdOwed` and `retestOwed` are the pool hold requests and pool retests not yet taken on an entry (R112, R116).
`onTick` is the phase of the timebase: on a tick, or between two (R177). `pending` (the commands that wait, first in first out) and `freeIndex`
(the next argument of a free value) are the model's own fields (log 19). -/
structure State where
  pending : List Instr
  resetPin : Bool
  ports : Table Port 4
  entries : Table Entry 64
  pool : Pool
  roundRobin : Table (Table ChannelId 4) 4
  holdOwed : List ChannelId
  retestOwed : List ChannelId
  onTick : Bool
  freeIndex : Nat
deriving DecidableEq, Repr

/-- The device never stops with a fault of its own: every access is answered (R170), every command it turns away has a status code
(Table 10-6), and a failure on a link is state (R85, R157). No meaning raises one; there is none to raise. -/
inductive Fault where
deriving DecidableEq, Repr

/-- Why the model gives a command no meaning. -/
inductive Refusal where
  /-- raised by an arm of exec whose command has no meaning yet; safe (the model stops where the device goes on). No arm raises it. -/
  | notModelled (mnemonic : String)
deriving DecidableEq, Repr

/-! ## Reset values -/

/-- All counters zero (R32). -/
def Counters.zero : Counters := ⟨0, 0, 0, 0, 0, 0, 0⟩

/-- A FREE entry of generation 0 (R33). -/
def Entry.reset : Entry := ⟨0, Counters.zero, none⟩

/-- The pool after device reset (Table 1-4). -/
def Pool.reset : Pool where
  segments := []
  segFree := ascending 2048 0 2048
  recFree := ascending 1024 0 1024
  records := Table.fill 1024 none
  level := .normal

/-- The command slot after device reset and after port reset (Table 10-5). The latched arguments are DESIGN CHOICE 0 (log 6). -/
def CommandSlot.reset : CommandSlot where
  busy := false
  arguments := Table.fill 8 0
  latched := Table.fill 8 0
  kind := 0
  notify := false
  status := 0
  responseKind := 0
  completions := 0
  results := Table.fill 4 0
  overrun := false

/-- The PIU after device reset, with PnRST_n deasserted (log 7, DESIGN CHOICE). -/
def Piu.reset : Piu where
  state := .detached
  leaveMode := none
  faultHanded := false
  retainArmed := false
  retainedLast := false
  resetPin := false
  slot := CommandSlot.reset
  compose := []
  clobbered := false
  copy := none
  credit := Table.fill 16 0
  eventRead := 0

/-- The Port Writer after device reset (Table 5-3). -/
def Writer.reset : Writer := ⟨.stopped, .noFault, 0, 0⟩

/-- A coalescer after device reset: Table 8-2; threshold, delay and target are DESIGN CHOICE 1, 64 and none (log 6). -/
def Coalescer.reset : Coalescer where
  state := .off
  target := .noTarget
  threshold := 1
  delay := 64
  pending := 0
  timer := none
  fired := false
  due := false
  owed := false

/-- The Notice Unit after device reset: Table 8-2; notice base and grant are DESIGN CHOICE 0 and 1 (log 6). -/
def Nu.reset : Nu where
  noticeBase := 0
  grant := .one
  backlog := []
  nextSequence := 0
  eventWrite := 0
  tag := 0
  lost := 0
  eventsLost := false
  consumerWords := Table.fill 16 ⟨false, 0, 0⟩
  producerWords := Table.fill 16 ⟨false, false, 0, 0⟩
  vectors := Table.fill 4 Coalescer.reset
  flushRequest := false
  irq := false

/-- The blocks of a port after device reset. -/
def Port.reset : Port := ⟨Piu.reset, Writer.reset, Nu.reset, [], []⟩

/-- The device right after device reset, with RESET_n and every PnRST_n deasserted (log 7, DESIGN CHOICE) and no command waiting. -/
def State.reset : State where
  pending := []
  resetPin := false
  ports := Table.fill 4 Port.reset
  entries := Table.fill 64 Entry.reset
  pool := Pool.reset
  roundRobin := Table.fill 4 (Table.fill 4 63)
  holdOwed := []
  retestOwed := []
  onTick := false
  freeIndex := 0

end Sys2Proof.Machine
end

