-- ==== Sys2Proof/Machine/Ops.lean ====
section
/-! DEFINITION. Named operations over the byte memories and over the parts of the state. -/

namespace Sys2Proof.Machine

/-! ## Byte memory -/

/-- The byte at an address; an unlisted address reads 0 (R1, R55). -/
def Memory.read : Memory → Nat → Byte
  | [], _ => 0
  | (k, v) :: m, a => if k = a then v else Memory.read m a

/-- The memory with one byte written, in canonical form again. -/
def Memory.write : Memory → Nat → Byte → Memory
  | [], a, b => if b = 0 then [] else [(a, b)]
  | (k, v) :: m, a, b =>
    if a < k then (if b = 0 then (k, v) :: m else (a, b) :: (k, v) :: m)
    else if a = k then (if b = 0 then m else (a, b) :: m)
    else (k, v) :: Memory.write m a b

/-- The canonical form: addresses strictly rising, no zero byte listed. -/
abbrev Memory.wf (m : Memory) : Prop := m.Pairwise (fun c d => c.1 < d.1) ∧ ∀ c ∈ m, c.2 ≠ 0

/-- The word at byte address `a`, little-endian (R171). -/
def Memory.readWord (m : Memory) (a : Nat) : Word :=
  m.read (a + 3) ++ m.read (a + 2) ++ m.read (a + 1) ++ m.read a

/-- The memory with the word at byte address `a` written, little-endian (R171). -/
def Memory.writeWord (m : Memory) (a : Nat) (w : Word) : Memory :=
  (((m.write a (w.extractLsb' 0 8)).write (a + 1) (w.extractLsb' 8 8)).write (a + 2) (w.extractLsb' 16 8)).write (a + 3)
    (w.extractLsb' 24 8)

/-- The address in the segment store of payload byte `i` of a message with this chain (R6). -/
def segmentAddress (chain : List SegmentId) (i : Nat) : Nat := 64 * (chain.getD (i / 64) 0).val + i % 64

/-- The segment store after `n` bytes of the compose buffer were copied into the segments of a chain, in chain order (R64). -/
def copyBytes (buffer : Memory) (chain : List SegmentId) : Nat → Memory → Memory
  | 0, m => m
  | n + 1, m => (copyBytes buffer chain n m).write (segmentAddress chain n) (buffer.read n)

/-! ## The parts of the state -/

/-- The blocks of a port. -/
def State.port (s : State) (p : PortId) : Port := s.ports.read p

/-- The state with the blocks of a port replaced. -/
def State.setPort (s : State) (p : PortId) (b : Port) : State := { s with ports := s.ports.write p b }

/-- The state with the blocks of a port changed. -/
def State.modPort (s : State) (p : PortId) (f : Port → Port) : State := s.setPort p (f (s.port p))

/-- A change of the Port Interface Unit of a port. -/
def State.modPiu (s : State) (p : PortId) (f : Piu → Piu) : State :=
  s.modPort p fun b => { b with piu := f b.piu }

/-- A change of the Port Writer of a port. -/
def State.modWriter (s : State) (p : PortId) (f : Writer → Writer) : State :=
  s.modPort p fun b => { b with writer := f b.writer }

/-- A change of the Notice Unit of a port. -/
def State.modNu (s : State) (p : PortId) (f : Nu → Nu) : State :=
  s.modPort p fun b => { b with nu := f b.nu }

/-- The Port Interface Unit of a port. -/
def State.piu (s : State) (p : PortId) : Piu := (s.port p).piu

/-- The Notice Unit of a port. -/
def State.nu (s : State) (p : PortId) : Nu := (s.port p).nu

/-- The Port Writer of a port. -/
def State.writer (s : State) (p : PortId) : Writer := (s.port p).writer

/-- A Channel Table entry. -/
def State.entry (s : State) (c : ChannelId) : Entry := s.entries.read c

/-- The state with a Channel Table entry replaced. -/
def State.setEntry (s : State) (c : ChannelId) (e : Entry) : State := { s with entries := s.entries.write c e }

/-- The fields of an entry that is not FREE. -/
def State.use (s : State) (c : ChannelId) : Option Use := (s.entry c).use

/-- A change of the fields of an entry that is not FREE; a FREE entry has none and stays as it is. -/
def State.modUse (s : State) (c : ChannelId) (f : Use → Use) : State :=
  s.setEntry c { s.entry c with use := (s.entry c).use.map f }

/-- A change of the counters of an entry. -/
def State.modCounters (s : State) (c : ChannelId) (f : Counters → Counters) : State :=
  s.setEntry c { s.entry c with counters := f (s.entry c).counters }

/-- The state with the pool replaced. On the pool's entry into LOW every entry is owed a pool hold request (R112), on its return
to NORMAL every entry is owed a retest (R116). -/
def State.setPool (s : State) (pool : Pool) : State :=
  { s with
    pool := pool
    holdOwed := if s.pool.level = .normal ∧ pool.level = .low then s.holdOwed ++ allChannels else s.holdOwed
    retestOwed := if s.pool.level = .low ∧ pool.level = .normal then s.retestOwed ++ allChannels else s.retestOwed }

/-- The record a record number names, when it is in use. -/
def State.record (s : State) (r : RecordId) : Option Record := s.pool.records.read r

/-- The state of a record in use changed; pool lists, level and segments stay. -/
def State.modRecord (s : State) (r : RecordId) (f : Record → Record) : State :=
  { s with pool := { s.pool with records := s.pool.records.write r ((s.pool.records.read r).map f) } }

/-- A timer that starts: its interval is counted from the first tick at or after now (R177). -/
def Timer.start (n : Nat) : Timer := ⟨n, none⟩

/-- The tick at which a timer expires has come: the Nth after the first tick at or after its start (R177). -/
def Timer.expired (t : Timer) : Bool := t.count.any fun k => t.limit ≤ k

/-- The next use of a free value has a fresh argument (log 5, log 19). -/
def State.countFreeValue (s : State) : State := { s with freeIndex := s.freeIndex + 1 }

/-- The landing round-robin pointer of port `p` and priority `k` names channel `c` (R33, R77). -/
def State.pointAt (s : State) (p : PortId) (k : Fin 4) (c : ChannelId) : State :=
  { s with roundRobin := s.roundRobin.write p ((s.roundRobin.read p).write k c) }

/-- The entry takes its pool hold request (R112). -/
def State.takeHoldOwed (s : State) (c : ChannelId) : State := { s with holdOwed := s.holdOwed.erase c }

/-- The entry takes its pool retest (R116). -/
def State.takeRetestOwed (s : State) (c : ChannelId) : State := { s with retestOwed := s.retestOwed.erase c }

end Sys2Proof.Machine
end

