-- ==== Sys2Proof/Machine/Operands.lean ====
section
/-! DEFINITION. The arguments of the commands (Table 11-2), read from the latched argument words (R161). -/

namespace Sys2Proof.Machine

/-- The segment count of a message of this length: divided by 64 and rounded up (00, Message sizes). -/
def segmentCount (length : Nat) : Nat := (length + 63) / 64

/-- The role a port takes on a channel. -/
inductive Role where
  | producer
  | consumer
deriving DecidableEq, Repr

/-- The ring fields of OFFER, ACCEPT and LAND (Table 11-2, words 5 and 6). -/
structure RingArgs where
  base : Word
  slotCount : Nat
  slotUnits : Nat
deriving DecidableEq, Repr

/-- The arguments of OFFER, each as its field holds it. -/
structure OfferArgs where
  peer : Nat
  role : Nat
  cls : Nat
  priority : Nat
  maxLength : Nat
  quota : Nat
  holdMark : Nat
  releaseMark : Nat
  holdInterval : Nat
  window : Nat
  timeout : Nat
  slot : Nat
  ring : RingArgs
deriving DecidableEq, Repr

/-- Words 5 and 6 of OFFER, ACCEPT and LAND. -/
def ringArgs (w : Table Word 8) : RingArgs := ⟨w.read 5, bits (w.read 6) 15 0, bits (w.read 6) 23 16⟩

/-- The arguments of OFFER (Table 11-2). -/
def offerArgs (w : Table Word 8) : OfferArgs where
  peer := bits (w.read 0) 7 0
  role := bits (w.read 0) 15 8
  cls := bits (w.read 0) 23 16
  priority := bits (w.read 0) 31 24
  maxLength := bits (w.read 1) 15 0
  quota := bits (w.read 1) 31 16
  holdMark := bits (w.read 2) 15 0
  releaseMark := bits (w.read 2) 31 16
  holdInterval := bits (w.read 3) 15 0
  window := bits (w.read 3) 23 16
  timeout := bits (w.read 3) 31 24
  slot := bits (w.read 4) 7 0
  ring := ringArgs w

/-- The channel field, word 0 bits 7:0, of every command that names a channel. -/
def channelArg (w : Table Word 8) : Nat := bits (w.read 0) 7 0

/-- The generation field, word 0 bits 15:8, of ACCEPT, DECLINE, CLOSE and LAND. -/
def generationArg (w : Table Word 8) : Byte := BitVec.ofNat 8 (bits (w.read 0) 15 8)

/-- The slot field of ACCEPT. -/
def acceptSlotArg (w : Table Word 8) : Nat := bits (w.read 0) 23 16

/-- The urgent flag of POST. -/
def urgentArg (w : Table Word 8) : Bool := bit (w.read 0) 8

/-- The user tag of POST. -/
def userTagArg (w : Table Word 8) : Half := BitVec.ofNat 16 (bits (w.read 0) 31 16)

/-- The length of POST. -/
def lengthArg (w : Table Word 8) : Nat := bits (w.read 1) 15 0

/-- The sequence of CONFIRM. -/
def sequenceArg (w : Table Word 8) : Half := BitVec.ofNat 16 (bits (w.read 0) 31 16)

/-- The page of QUERY and the group of READ_COUNTERS. -/
def pageArg (w : Table Word 8) : Nat := bits (w.read 0) 15 8

/-- The clear flag of READ_COUNTERS. -/
def clearArg (w : Table Word 8) : Bool := bit (w.read 0) 16

/-- The arguments of SET_VECTOR. -/
structure VectorArgs where
  vector : Nat
  mode : Nat
  threshold : Nat
  delay : Nat
  address : Word
  data : Word
deriving DecidableEq, Repr

/-- The arguments of SET_VECTOR (Table 11-2). -/
def vectorArgs (w : Table Word 8) : VectorArgs where
  vector := bits (w.read 0) 7 0
  mode := bits (w.read 0) 15 8
  threshold := bits (w.read 0) 23 16
  delay := bits (w.read 1) 15 0
  address := w.read 2
  data := w.read 3

/-- The granted count that ATTACH asks for: 1, 2 or 4 (R145). -/
def grantOf : Nat → Option Grant
  | 1 => some .one
  | 2 => some .two
  | 4 => some .four
  | _ => none

/-- G as a number. -/
def Grant.count : Grant → Nat
  | .one => 1
  | .two => 2
  | .four => 4

/-- The mode of DETACH (Table 11-2). -/
def detachModeOf : Nat → Option DetachMode
  | 0 => some .flush
  | 1 => some .retain
  | _ => none

/-- A channel number above 63 names no channel. -/
def channelOf (n : Nat) : Option ChannelId := if h : n < 64 then some ⟨n, h⟩ else none

/-- A slot number above 15 names no slot. -/
def slotOf (n : Nat) : Option SlotId := if h : n < 16 then some ⟨n, h⟩ else none

/-- A slot count is a power of two from 4 to 1024 (R26). -/
def slotCountOk (n : Nat) : Bool := [4, 8, 16, 32, 64, 128, 256, 512, 1024].contains n

/-- The ranges of a landing ring's arguments: base a multiple of 64, slot count, slot size 1 to 17 units (R34, R37, R93). -/
def ringOk (r : RingArgs) : Bool := r.base.toNat % 64 = 0 && slotCountOk r.slotCount && (1 ≤ r.slotUnits && r.slotUnits ≤ 17)

/-- The slot size in bytes is at least max length + 16 (R26). -/
def ringFits (r : RingArgs) (maxLength : Nat) : Bool := maxLength + 16 ≤ 64 * r.slotUnits

/-- The ranges of OFFER's arguments (Table 3-1, test 2) for the offeror port `p`. The ring is examined when the offeror is the consumer, the
confirm window on a CONFIRMED offer. -/
def OfferArgs.inRange (a : OfferArgs) (p : PortId) : Bool :=
  (a.peer < 4 && a.peer != p.val) && a.role ≤ 1 && a.cls ≤ 1 && a.priority ≤ 3
    && (1 ≤ a.maxLength && a.maxLength ≤ 1024) && (1 ≤ a.quota && a.quota ≤ 1024)
    && (1 ≤ a.holdMark && a.holdMark ≤ a.quota) && a.releaseMark < a.holdMark
    && (1 ≤ a.holdInterval && a.holdInterval ≤ 65535)
    && (a.cls = 0 || (1 ≤ a.window && a.window ≤ 255))
    && (1 ≤ a.timeout && a.timeout ≤ 255) && a.slot ≤ 15
    && (a.role = 0 || ringOk a.ring)

/-- The terms of an offer (R23). -/
def OfferArgs.terms (a : OfferArgs) : Terms where
  cls := if a.cls = 0 then .plain else .confirmed a.window
  priority := Fin.ofNat 4 a.priority
  maxLength := a.maxLength
  quota := a.quota
  holdMark := a.holdMark
  releaseMark := a.releaseMark
  holdInterval := a.holdInterval

/-- The ring that ring arguments give, with both indices 0 (R35, R38, R94). -/
def RingArgs.ring (r : RingArgs) (armed : Bool) : Ring := ⟨armed, r.base, r.slotCount, r.slotUnits, 0, 0⟩

end Sys2Proof.Machine
end

