-- ==== Sys2Proof/Machine/Flags.lean ====
section
/-! DEFINITION. The codes, flags and packings of every word the device shows: status codes, event records, slot headers, summary words, the
port status word and the QUERY pages (11). -/

namespace Sys2Proof.Machine

/-- Status codes, 1 to 18 in the order of Table 10-6 (11, Status codes). -/
def Status.code : Status → Byte
  | .done => 1
  | .badCommand => 2
  | .badState => 3
  | .badArg => 4
  | .badChannel => 5
  | .noChannel => 6
  | .slotInUse => 7
  | .peerAbsent => 8
  | .late => 9
  | .ringTooSmall => 10
  | .tooLong => 11
  | .held => 12
  | .quota => 13
  | .noRecords => 14
  | .noSegments => 15
  | .closed => 16
  | .noConsumer => 17
  | .confirmRange => 18

/-- Port state codes (11). -/
def PortState.code : PortState → Nat
  | .detached => 0
  | .attached => 1
  | .quiescing => 2
  | .retained => 3
  | .faulted => 4

/-- Fault kind codes (11). -/
def FaultKind.code : FaultKind → Nat
  | .noFault => 0
  | .busError => 1
  | .timeout => 2

/-- Entry state codes (11); none is FREE. -/
def entryCode : Option Use → Nat
  | none => 0
  | some u =>
    match u.stage with
    | .offered _ => 1
    | .opened => 2
    | .closing => 3
    | .ending => 4
    | .orphaned => 5

/-- Event kinds, 1 to 14 in the order of Table 8-1 (R175). -/
def EventKind.code : EventKind → Nat
  | .offerReceived => 1
  | .offerDeclined => 2
  | .offerExpired => 3
  | .offerWithdrawn => 4
  | .channelOpen => 5
  | .peerClosed => 6
  | .channelFreed => 7
  | .orphaned => 8
  | .consumerAway => 9
  | .consumerBack => 10
  | .hold => 11
  | .resume => 12
  | .creditRange => 13
  | .commandDone => 14

/-- Why an entry became FREE, as CHANNEL_FREED carries it (R54, Table 11-5). -/
inductive FreedCause where
  | close
  | drain
  | finish
deriving DecidableEq, Repr

/-- Cause codes: 1 CLOSE, 2 DRAIN, 3 END (Table 11-5). -/
def FreedCause.code : FreedCause → Nat
  | .close => 1
  | .drain => 2
  | .finish => 3

/-- Is the class CONFIRMED? -/
def ChannelClass.isConfirmed : ChannelClass → Bool
  | .plain => false
  | .confirmed _ => true

/-- The confirm window, 0 on a PLAIN channel (Table 10-4). -/
def ChannelClass.window : ChannelClass → Nat
  | .plain => 0
  | .confirmed w => w

/-! ## Event details (Table 11-5) -/

/-- The detail that carries the generation alone. -/
def generationDetail (g : Byte) : Half := pack 16 [(g.toNat, 7, 0)]

/-- OFFER_RECEIVED: generation, offeror port, role CONSUMER, class CONFIRMED. -/
def offerDetail (g : Byte) (offeror : PortId) (isConsumer isConfirmed : Bool) : Half :=
  pack 16 [(g.toNat, 7, 0), (offeror.val, 9, 8), (flag isConsumer, 10, 10), (flag isConfirmed, 11, 11)]

/-- CHANNEL_OPEN: generation and accepting port. -/
def openDetail (g : Byte) (accepter : PortId) : Half := pack 16 [(g.toNat, 7, 0), (accepter.val, 9, 8)]

/-- PEER_CLOSED: generation and ENDING flag. -/
def peerClosedDetail (g : Byte) (ending : Bool) : Half := pack 16 [(g.toNat, 7, 0), (flag ending, 8, 8)]

/-- CHANNEL_FREED: generation and cause. -/
def freedDetail (g : Byte) (c : FreedCause) : Half := pack 16 [(g.toNat, 7, 0), (c.code, 9, 8)]

/-- COMMAND_DONE: command kind and status code. -/
def commandDoneDetail (kind status : Byte) : Half := pack 16 [(kind.toNat, 7, 0), (status.toNat, 15, 8)]

/-- The qualifier of HOLD: reason POOL in bit 8 of word 0, renewal in bit 9 (R175). -/
def holdQualifier (reason : HoldReason) (renewal : Bool) : Byte :=
  pack 8 [(flag (reason = .pool), 0, 0), (flag renewal, 1, 1)]

/-- The qualifier of RESUME: reason EXPIRY in bit 8 of word 0 (R175). -/
def resumeQualifier (expiry : Bool) : Byte := pack 8 [(flag expiry, 0, 0)]

/-! ## Records in master memory -/

/-- Word 0 of an event record (R175). -/
def eventWord0 (e : Event) : Word :=
  pack 32 [(e.kind.code, 7, 0), (e.qualifier.toNat, 15, 8), (e.channel.toNat, 23, 16)]

/-- Word 1 of an event record (R175). -/
def eventWord1 (e : Event) : Word := pack 32 [(e.detail.toNat, 15, 0), (e.sequence.toNat, 31, 16)]

/-- The four words of a landing slot header (R81, Table 11-4). -/
def headerWords (r : Record) (confirmRequired : Bool) (index : Half) : List Word :=
  [ pack 32 [(r.length, 15, 0), (flag r.urgent, 16, 16), (flag confirmRequired, 17, 17), (flag r.replay, 18, 18), (r.source.val, 25, 24)],
    pack 32 [(r.channel.val, 7, 0), (r.sequence.toNat, 31, 16)],
    pack 32 [(r.userTag.toNat, 15, 0), (index.toNat, 31, 16)],
    0 ]

/-- A consumer-slot word of the summary record (Table 11-6). -/
def consumerWordBits (w : ConsumerWord) : Word :=
  pack 32 [(flag w.bound, 31, 31), (w.channel.val, 23, 16), (w.writeIndex.toNat, 15, 0)]

/-- A producer-slot word of the summary record (Table 11-6). -/
def producerWordBits (w : ProducerWord) : Word :=
  pack 32 [(flag w.bound, 31, 31), (flag w.hold, 30, 30), (w.channel.val, 23, 16), (w.lastConfirmed.toNat, 15, 0)]

/-- The header word of the summary record: update flag 1, pool-LOW, EVENTS_LOST, tag, events-lost count, event ring write index (Table 11-6). -/
def summaryHeader (low eventsLost : Bool) (tag lost eventWrite : Byte) : Word :=
  pack 32 [(1, 0, 0), (flag low, 1, 1), (flag eventsLost, 2, 2), (tag.toNat, 15, 8), (lost.toNat, 23, 16), (eventWrite.toNat, 31, 24)]

/-! ## Window words -/

/-- The compose buffer is LOCKED exactly while its port has a copy in flight (R56). -/
def Piu.locked (u : Piu) : Bool := u.copy.isSome

/-- The port status word (Table 11-1, Table 9-4). -/
def portStatusWord (b : Port) (low : Bool) : Word :=
  pack 32 [(b.piu.state.code, 2, 0), (flag b.piu.retainArmed, 3, 3), (flag b.piu.retainedLast, 4, 4), (b.writer.faultKind.code, 6, 5),
    (flag low, 7, 7), (flag b.piu.clobbered, 8, 8), (flag b.piu.slot.overrun, 9, 9)]

/-- The command word as read: kind and NOTIFY of the command last taken, slot state (R160). -/
def commandWord (c : CommandSlot) : Word := pack 32 [(c.kind.toNat, 7, 0), (flag c.notify, 8, 8), (flag c.busy, 31, 31)]

/-- The response status word (Table 11-1). -/
def responseWord (c : CommandSlot) : Word :=
  pack 32 [(c.status.toNat, 7, 0), (c.responseKind.toNat, 15, 8), (c.completions.toNat, 23, 16)]

/-! ## QUERY pages (Table 11-3) -/

/-- The party byte: present, port, slot (R173). -/
def partyByte : Option Party → Nat
  | none => 0
  | some q => (pack 8 [(1, 7, 7), (q.port.val, 5, 4), (q.slot.val, 3, 0)] : Byte).toNat

/-- The offer byte: present, offeror port, peer port (R173). -/
def offerByte : Stage → Nat
  | .offered o => (pack 8 [(1, 7, 7), (o.offeror.val, 1, 0), (o.peer.val, 5, 4)] : Byte).toNat
  | .opened => 0
  | .closing => 0
  | .ending => 0
  | .orphaned => 0

/-- Ring substate code: 0 ABSENT, 1 DISARMED, 2 ARMED (Table 11-3). -/
def ringCode : Option Ring → Nat
  | none => 0
  | some r => if r.armed then 2 else 1

/-- QUERY page 0. -/
def queryState (g : Byte) (u : Use) : Table Word 4 :=
  #v[ pack 32 [(entryCode (some u), 7, 0), (g.toNat, 15, 8), (flag u.terms.cls.isConfirmed, 16, 16), (flag u.hold.isSome, 17, 17),
        (flag (u.hold.any fun h => h.reason = .pool), 18, 18), (ringCode u.ring, 20, 19), (flag u.fill, 21, 21)],
      pack 32 [(partyByte u.producer, 7, 0), (partyByte u.consumer, 15, 8), (offerByte u.stage, 23, 16)],
      pack 32 [(u.held, 15, 0), (u.queue.length, 31, 16)],
      pack 32 [(u.unconfirmed.length, 15, 0), (u.nextSequence.toNat, 31, 16)] ]

/-- QUERY page 1. An absent ring reads as zero. -/
def queryRing (u : Use) : Table Word 4 :=
  match u.ring with
  | none => Table.fill 4 0
  | some r =>
    #v[ r.base,
        pack 32 [(r.slotCount, 15, 0), (r.slotUnits, 23, 16)],
        pack 32 [(r.writeIndex.toNat, 15, 0), (r.readIndex.toNat, 31, 16)],
        0 ]

/-- QUERY page 2. -/
def queryTerms (u : Use) : Table Word 4 :=
  #v[ pack 32 [(u.terms.priority.val, 7, 0), (u.terms.maxLength, 31, 16)],
      pack 32 [(u.terms.quota, 15, 0), (u.terms.holdMark, 31, 16)],
      pack 32 [(u.terms.releaseMark, 15, 0), (u.terms.holdInterval, 31, 16)],
      pack 32 [(u.terms.cls.window, 7, 0)] ]

end Sys2Proof.Machine
end

