-- ==== Sys2Proof/Machine/PoolOps.lean ====
section
/-! DEFINITION. The Segment Pool Manager: claims, grants, frees and the two mark tests (01). -/

namespace Sys2Proof.Machine

/-- The free count (R3). -/
def Pool.freeCount (pool : Pool) : Nat := pool.segFree.length

/-- What a claim asks for (R9); the segment count follows from the length. -/
structure Claim where
  channel : ChannelId
  generation : Byte
  sequence : Half
  length : Nat
  userTag : Half
  source : PortId
  urgent : Bool
deriving DecidableEq, Repr

/-- The SPM's answer to a claim (R9). -/
inductive ClaimResult where
  | refused (status : Status)
  | granted (record : RecordId) (pool : Pool)
deriving DecidableEq, Repr

/-- The low-mark test after a grant (R14). -/
def Pool.lowTest (pool : Pool) : Pool :=
  if pool.level = .normal ∧ pool.freeCount < Config.lowMark then { pool with level := .low } else pool

/-- The recover-mark test after a free (R15). -/
def Pool.recoverTest (pool : Pool) : Pool :=
  if pool.level = .low ∧ Config.recoverMark ≤ pool.freeCount then { pool with level := .normal } else pool

/-- The record a grant puts into use (R10, Table 1-1). -/
def Claim.record (c : Claim) (chain : List SegmentId) : Record where
  channel := c.channel
  generation := c.generation
  sequence := c.sequence
  length := c.length
  userTag := c.userTag
  source := c.source
  urgent := c.urgent
  replay := false
  chain := chain
  state := .filling

/-- The pool after record `r`, the head of the record free list, was granted with `n` segments from the head of the segment free list,
before the low-mark test (R10). -/
def Pool.take (pool : Pool) (c : Claim) (n : Nat) (r : RecordId) : Pool :=
  { pool with
    segFree := pool.segFree.drop n
    recFree := pool.recFree.tail
    records := pool.records.write r (some (c.record (pool.segFree.take n))) }

/-- The SPM takes a claim whole: the tests of R9 in order, then the grant of R10 and the low-mark test of R14. -/
def Pool.claim (pool : Pool) (c : Claim) : ClaimResult :=
  match pool.recFree with
  | [] => .refused .noRecords
  | r :: _ =>
    let n := segmentCount c.length
    if ¬ c.urgent ∧ pool.freeCount < Config.urgentReserve + n then .refused .noSegments
    else if c.urgent ∧ pool.freeCount < n then .refused .noSegments
    else .granted r (pool.take c n r).lowTest

/-- One named record of a free: its chain joins the segment free list's tail, then the record joins the record free list's tail, and its
fields cease to exist (R12). -/
def Pool.freeOne (pool : Pool) (r : RecordId) : Pool :=
  match pool.records.read r with
  | none => pool
  | some rec =>
    { pool with
      segFree := pool.segFree ++ rec.chain
      recFree := pool.recFree ++ [r]
      records := pool.records.write r none }

/-- The SPM takes a free whole: every named record in order, then one recover-mark test (R12, R15). -/
def Pool.free (pool : Pool) (rs : List RecordId) : Pool := (rs.foldl Pool.freeOne pool).recoverTest

/-- The segments a list of records holds (R28). -/
def Pool.heldBy (pool : Pool) (rs : List RecordId) : Nat :=
  (rs.map fun r => ((pool.records.read r).map fun rec => segmentCount rec.length).getD 0).sum

end Sys2Proof.Machine
end

