-- ==== Sys2Proof/Machine/NoticeOps.lean ====
section
/-! DEFINITION. The Notice Unit: events, backlog, summary image, coalescers (08). -/

namespace Sys2Proof.Machine

/-- A change of one coalescer. -/
def Nu.modVector (nu : Nu) (v : VectorId) (f : Coalescer → Coalescer) : Nu :=
  { nu with vectors := nu.vectors.write v (f (nu.vectors.read v)) }

/-- A change of every coalescer. -/
def Nu.mapVectors (nu : Nu) (f : Coalescer → Coalescer) : Nu :=
  { nu with vectors := Table.build fun v => f (nu.vectors.read v) }

/-- A firing: the delay timer stops, the fired mark is set, and a flush request is made or joined (R134). -/
def Nu.fire (nu : Nu) (v : VectorId) : Nu :=
  { nu.modVector v (fun c => { c with timer := none, fired := true }) with flushRequest := true }

/-- The vector fires when its fired mark is clear and its pending count is at or above its threshold (R133). -/
def Nu.fireIfDue (nu : Nu) (v : VectorId) : Nu :=
  if (nu.vectors.read v).fired = false ∧ (nu.vectors.read v).threshold ≤ (nu.vectors.read v).pending
  then nu.fire v else nu

/-- A count raises the pending count, saturating; from 0 to 1 with the fired mark clear it starts the delay timer (R133). -/
def Coalescer.raise (c : Coalescer) : Coalescer :=
  { c with
    pending := min (c.pending + 1) Config.pendingMax
    timer := if c.pending = 0 ∧ c.fired = false then some (Timer.start c.delay) else c.timer }

/-- A count reaching a coalescer of an ATTACHED port (R133). -/
def Nu.count (nu : Nu) (v : VectorId) : Nu := (nu.modVector v Coalescer.raise).fireIfDue v

/-- A count reaching a coalescer: on a port that is not ATTACHED it has no effect (R133). -/
def State.countVector (s : State) (p : PortId) (v : VectorId) : State :=
  if (s.piu p).state = .attached then s.modNu p fun nu => nu.count v else s

/-- Slot `i` of either role names vector `i mod G` (R126). -/
def slotVector (g : Grant) (i : SlotId) : VectorId := Fin.ofNat 4 (i.val % g.count)

/-- The vector of an event: of its slot, or 0 for an event with no slot (R126). -/
def eventVector (g : Grant) : Option SlotId → VectorId
  | none => 0
  | some i => slotVector g i

/-- An event takes the port event sequence; it joins the backlog, or is dropped when 32 events wait (R125, R127, R128). -/
def Nu.take (nu : Nu) (kind : EventKind) (qualifier channel : Byte) (detail : Half) : Nu :=
  if nu.backlog.length < Config.backlogDepth then
    { nu with
      nextSequence := nu.nextSequence + 1
      backlog := nu.backlog ++ [⟨kind, qualifier, channel, detail, nu.nextSequence⟩] }
  else
    { nu with
      nextSequence := nu.nextSequence + 1
      lost := if nu.lost = 255 then 255 else nu.lost + 1
      eventsLost := true }

/-- An event is handed to the Notice Unit of port `p`, attributed to a slot or to the port as a whole: discarded on a DETACHED port, taken and
counted otherwise (R125 to R128). -/
def State.event (s : State) (p : PortId) (kind : EventKind) (qualifier channel : Byte) (detail : Half) (slot : Option SlotId) : State :=
  if (s.piu p).state = .detached then s
  else (s.modNu p fun nu => nu.take kind qualifier channel detail).countVector p (eventVector (s.nu p).grant slot)

/-- An event that concerns channel `c` for the party `q`, attributed to its slot (R126). -/
def State.partyEvent (s : State) (q : Party) (kind : EventKind) (qualifier : Byte) (c : ChannelId) (detail : Half) : State :=
  s.event q.port kind qualifier (BitVec.ofNat 8 c.val) detail (some q.slot)

/-- An event that concerns channel `c` for port `p`, which holds no slot bound to it (R126: vector 0). -/
def State.portEvent (s : State) (p : PortId) (kind : EventKind) (c : ChannelId) (detail : Half) : State :=
  s.event p kind 0 (BitVec.ofNat 8 c.val) detail none

/-! ## Handings to the summary image (R25, R131) -/

/-- A change of a consumer-slot word. -/
def State.modConsumerWord (s : State) (q : Party) (f : ConsumerWord → ConsumerWord) : State :=
  s.modNu q.port fun nu => { nu with consumerWords := nu.consumerWords.write q.slot (f (nu.consumerWords.read q.slot)) }

/-- A change of a producer-slot word. -/
def State.modProducerWord (s : State) (q : Party) (f : ProducerWord → ProducerWord) : State :=
  s.modNu q.port fun nu => { nu with producerWords := nu.producerWords.write q.slot (f (nu.producerWords.read q.slot)) }

/-- Binding of a consumer slot: bound, channel, write index 0; the slot's credit value becomes 0 (R25, R90). -/
def State.bindConsumer (s : State) (q : Party) (c : ChannelId) : State :=
  (s.modConsumerWord q fun _ => ⟨true, c, 0⟩).modPiu q.port fun u => { u with credit := u.credit.write q.slot 0 }

/-- Binding of a producer slot: bound, channel, hold flag clear, last-confirmed sequence 65535 (R25). -/
def State.bindProducer (s : State) (q : Party) (c : ChannelId) : State := s.modProducerWord q fun _ => ⟨true, false, c, 65535⟩

/-- Release of a consumer slot; the word's other fields keep their values (R25). -/
def State.unbindConsumer (s : State) (q : Option Party) : State :=
  match q with
  | none => s
  | some q => s.modConsumerWord q fun w => { w with bound := false }

/-- Release of a producer slot; the word's other fields keep their values (R25). -/
def State.unbindProducer (s : State) (q : Option Party) : State :=
  match q with
  | none => s
  | some q => s.modProducerWord q fun w => { w with bound := false }

/-- The hold flag handed to the producer slot word (R120). -/
def State.handHold (s : State) (q : Option Party) (held : Bool) : State :=
  match q with
  | none => s
  | some q => s.modProducerWord q fun w => { w with hold := held }

/-- The write index handed to the consumer slot word (R26, R82, R94). -/
def State.handWriteIndex (s : State) (q : Option Party) (w : Half) : State :=
  match q with
  | none => s
  | some q => s.modConsumerWord q fun x => { x with writeIndex := w }

/-- The last-confirmed sequence handed to the producer slot word, and one count toward the vector of the slot (R101). -/
def State.handReceipt (s : State) (q : Option Party) (sequence : Half) : State :=
  match q with
  | none => s
  | some q =>
    (s.modProducerWord q fun w => { w with lastConfirmed := sequence }).countVector q.port (slotVector (s.nu q.port).grant q.slot)

/-- An event for a party, when the entry has that party. -/
def State.tellParty (s : State) (q : Option Party) (kind : EventKind) (qualifier : Byte) (c : ChannelId) (detail : Half) : State :=
  match q with
  | none => s
  | some q => s.partyEvent q kind qualifier c detail

/-! ## The port's departure from ATTACHED (R142) -/

/-- The port leaves ATTACHED: delay timers stop, the flush request goes, fired and signal-due marks clear, PnIRQ is deasserted (R142). -/
def Nu.depart (nu : Nu) : Nu :=
  { nu.mapVectors (fun c => { c with timer := none, fired := false, due := false }) with flushRequest := false, irq := false }

/-- Every vector becomes OFF with pending count 0 (R142, R148, R157); the owed flag clears with it (Table 8-2; log 13, DEDUCED). -/
def Nu.vectorsOff (nu : Nu) : Nu :=
  nu.mapVectors fun c => { c with state := .off, pending := 0, timer := none, fired := false, due := false, owed := false }

/-- A vector's configuration fresh from ATTACH: threshold 1, delay 64 µs, nothing pending or marked (R142). -/
def Coalescer.fresh (line : Bool) : Coalescer where
  state := if line then .armed else .off
  target := if line then .line else .noTarget
  threshold := 1
  delay := 64
  pending := 0
  timer := none
  fired := false
  due := false
  owed := false

/-- ATTACH gives the Notice Unit a fresh configuration and vector 0 fires; backlog and summary image keep their contents (R142). Write index and tag become 0 (R129,
R132), also after a flush that failed or was ended, for which R137 and R132 have the next flush use the same indices and the same tag (log 28, DESIGN
CHOICE). -/
def Nu.attach (nu : Nu) (base : Word) (g : Grant) (line : Bool) : Nu :=
  Nu.fire
    { nu with
      noticeBase := base
      grant := g
      nextSequence := 0
      eventWrite := 0
      tag := 0
      lost := 0
      eventsLost := false
      vectors := Table.build fun v => Coalescer.fresh (line && v.val == 0) } 0

end Sys2Proof.Machine
end

