-- ==== Sys2Proof/Machine/ChannelOps.lean ====
section
/-! DEFINITION. The Channel Controller's shared operations on an entry: parties, slots, frees, the hold, the drain and FREE checks (02, 03, 07). -/

namespace Sys2Proof.Machine

/-! ## Parties and slots -/

/-- Is the port the producer of this use of an entry? -/
def Use.producedBy (u : Use) (p : PortId) : Bool := u.producer.any fun q => q.port = p

/-- Is the port the consumer of this use of an entry? -/
def Use.consumedBy (u : Use) (p : PortId) : Bool := u.consumer.any fun q => q.port = p

/-- The parties of an entry: offeror and peer while OFFERED, producer and consumer in every other state (R24). -/
def Use.isParty (u : Use) (p : PortId) : Bool :=
  match u.stage with
  | .offered o => o.offeror = p || o.peer = p
  | .opened => u.producedBy p || u.consumedBy p
  | .closing => u.producedBy p || u.consumedBy p
  | .ending => u.producedBy p || u.consumedBy p
  | .orphaned => u.producedBy p || u.consumedBy p

/-- Does this use of an entry bind the port's slot in the role (R24)? -/
def Use.binds (u : Use) (role : Role) (q : Party) : Bool :=
  match role with
  | .producer => u.producer = some q
  | .consumer => u.consumer = some q

/-- The channel a port's slot is bound to in a role (R24). -/
def State.boundTo (s : State) (role : Role) (q : Party) : Option ChannelId :=
  allChannels.find? fun c => (s.use c).any fun u => u.binds role q

/-- Is the port ATTACHED? -/
def State.attached (s : State) (p : PortId) : Bool := (s.piu p).state = .attached

/-- The lowest-numbered FREE entry (R20). -/
def State.lowestFree (s : State) : Option ChannelId := allChannels.find? fun c => (s.use c).isNone

/-! ## Becoming FREE -/

/-- The entry becomes FREE: bound slots are released, timers stop, counters are zero and every optional part is absent; the generation
stays (R20, R21). -/
def State.freeEntry (s : State) (c : ChannelId) : State :=
  match s.use c with
  | none => s
  | some u =>
    ((s.unbindProducer u.producer).unbindConsumer u.consumer).setEntry c ⟨(s.entry c).generation, Counters.zero, none⟩

/-- CHANNEL_FREED to both parties with the cause, then the entry becomes FREE (R44, R45, R50). -/
def State.freeWithNotice (s : State) (c : ChannelId) (cause : FreedCause) : State :=
  match s.use c with
  | none => s
  | some u =>
    let d := freedDetail (s.entry c).generation cause
    (((s.tellParty u.producer .channelFreed 0 c d).tellParty u.consumer .channelFreed 0 c d)).freeEntry c

/-! ## Frees of an entry's records -/

/-- The CHC asks the SPM to free records of an entry; the held count falls by their total (R12, R28). -/
def State.dropRecords (s : State) (c : ChannelId) (rs : List RecordId) : State :=
  (s.setPool (s.pool.free rs)).modUse c fun u => { u with held := u.held - s.pool.heldBy rs }

/-! ## The hold (07) -/

/-- Entering HELD: reason, timer, counter, hold flag, HOLD with renewal no (R111). -/
def State.enterHold (s : State) (c : ChannelId) (reason : HoldReason) : State :=
  match s.use c with
  | none => s
  | some u =>
    ((((s.modUse c fun u => { u with hold := some ⟨reason, Timer.start (8 * u.terms.holdInterval)⟩ }).modCounters c fun k =>
      { k with holdsEntered := k.holdsEntered + 1 }).handHold u.producer true)).tellParty u.producer .hold
        (holdQualifier reason false) c (BitVec.ofNat 16 u.terms.holdInterval)

/-- The hold ends with RESUME: FLOWING, timer stopped, flag clear (R115, R118). -/
def State.endHold (s : State) (c : ChannelId) (expiry : Bool) : State :=
  match s.use c with
  | none => s
  | some u =>
    ((s.modUse c fun u => { u with hold := none }).handHold u.producer false).tellParty u.producer .resume (resumeQualifier expiry) c
      (BitVec.ofNat 16 u.held)

/-- Renewal: the reason follows the pool state, the timer restarts, "hold renewals" increments, HOLD with renewal yes (R118). -/
def State.renewHold (s : State) (c : ChannelId) : State :=
  match s.use c with
  | none => s
  | some u =>
    let reason : HoldReason := if s.pool.level = .low then .pool else .quota
    ((s.modUse c fun u => { u with hold := some ⟨reason, Timer.start (8 * u.terms.holdInterval)⟩ }).modCounters c fun k =>
      { k with renewals := k.renewals + 1 }).tellParty u.producer .hold (holdQualifier reason true) c
        (BitVec.ofNat 16 u.terms.holdInterval)

/-- The quota hold check after an accepted post (R62, R111). -/
def State.quotaCheck (s : State) (c : ChannelId) : State :=
  match s.use c with
  | none => s
  | some u => if u.terms.holdMark ≤ u.held ∧ u.hold = none then s.enterHold c .quota else s

/-- The release check on an OPEN entry, by a request that sees the pool in the state `level` (R115). -/
def State.releaseCheckAt (s : State) (level : PoolLevel) (c : ChannelId) : State :=
  match s.use c with
  | none => s
  | some u =>
    if u.stage = .opened ∧ u.hold.isSome ∧ u.held ≤ u.terms.releaseMark ∧ level = .normal then s.endHold c false else s

/-- The release check after a fall of the held count sees the pool state that the free left (R114, R115). -/
def State.releaseCheck (s : State) (c : ChannelId) : State := s.releaseCheckAt s.pool.level c

/-- The entry leaves OPEN for another state in use: the hold becomes FLOWING with no event, and a clear hold flag goes to the producer slot
word (R30). -/
def State.leaveOpen (s : State) (c : ChannelId) (stage : Stage) : State :=
  match s.use c with
  | none => s
  | some u => (s.modUse c fun u => { u with stage := stage, hold := none }).handHold u.producer false

/-! ## Drain and FREE checks (03) -/

/-- Empty in the sense of R44: no record queued or unconfirmed, no fill in flight. -/
def Use.isEmpty (u : Use) : Bool := u.queue.isEmpty && u.unconfirmed.isEmpty && !u.fill

/-- The drain check of a CLOSING entry (R45). -/
def State.drainCheck (s : State) (c : ChannelId) : State :=
  match s.use c with
  | none => s
  | some u => if u.stage = .closing ∧ u.isEmpty then s.freeWithNotice c .drain else s

/-- The FREE check of an ENDING entry (R50). -/
def State.freeCheck (s : State) (c : ChannelId) : State :=
  match s.use c with
  | none => s
  | some u => if u.stage = .ending ∧ u.fill = false ∧ u.queue = [] then s.freeWithNotice c .finish else s

/-- The check a fall of the held count calls for: release on OPEN, drain on CLOSING, FREE on ENDING (R28). -/
def State.checkAfterFall (s : State) (c : ChannelId) : State :=
  match s.use c with
  | none => s
  | some u =>
    match u.stage with
    | .offered _ => s
    | .opened => s.releaseCheck c
    | .closing => s.drainCheck c
    | .ending => s.freeCheck c
    | .orphaned => s

/-! ## Records -/

/-- The use of an entry that a record belongs to: the entry is in use and its generation is the record's (R8). -/
def State.useOfRecord (s : State) (rec : Record) : Option Use :=
  if (s.entry rec.channel).generation = rec.generation then s.use rec.channel else none

/-- The head of the message queue is LANDING. -/
def State.landingHead (s : State) (u : Use) : Option RecordId :=
  match u.queue with
  | [] => none
  | r :: _ => if (s.record r).any (fun rec => rec.state = .landing) then some r else none

/-- The discard of R47: the unconfirmed list and the message queue, less a LANDING head, as one free; the LANDING head stays. -/
def State.discard (s : State) (c : ChannelId) : State :=
  match s.use c with
  | none => s
  | some u =>
    match s.landingHead u with
    | none => (s.dropRecords c (u.unconfirmed ++ u.queue)).modUse c fun u => { u with queue := [], unconfirmed := [] }
    | some r => (s.dropRecords c (u.unconfirmed ++ u.queue.tail)).modUse c fun u => { u with queue := [r], unconfirmed := [] }

end Sys2Proof.Machine
end

