-- ==== Sys2Proof/Machine/SlotOps.lean ====
section
/-! DEFINITION. The command slot: taking, admitting and completing a command (10). -/

namespace Sys2Proof.Machine

/-- Completion: status, kind and result words are written, the count rises, the slot becomes IDLE, and COMMAND_DONE is queued when NOTIFY was
set (R165, R166). -/
def State.complete (s : State) (p : PortId) (status : Status) (results : Table Word 4) : State :=
  let slot := (s.piu p).slot
  let s' := s.modPiu p fun u =>
    { u with slot := { u.slot with
        busy := false
        status := status.code
        responseKind := u.slot.kind
        completions := u.slot.completions + 1
        results := results } }
  if slot.notify then s'.event p .commandDone 0 0 (commandDoneDetail slot.kind status.code) none else s'

/-- A refusal at any check writes zero to all four result words (R165). -/
def State.refuse (s : State) (p : PortId) (status : Status) : State := s.complete p status (Table.fill 4 0)

/-- Result words given one value each. -/
def resultWords (a b c d : Nat) : Table Word 4 := #v[BitVec.ofNat 32 a, BitVec.ofNat 32 b, BitVec.ofNat 32 c, BitVec.ofNat 32 d]

/-- DONE with all result words zero. -/
def State.finish (s : State) (p : PortId) : State := s.complete p .done (Table.fill 4 0)

/-- The commands each port state admits (R164, Table 10-2). -/
def admits : PortState → Command → Bool
  | .detached, c => c = .attach
  | .attached, c => c ≠ .attach
  | .quiescing, _ => false
  | .retained, c => [Command.attach, .detach, .query, .readCounters, .armRetain, .disarmRetain].contains c
  | .faulted, c => [Command.attach, .detach, .query, .readCounters, .armRetain, .disarmRetain].contains c

/-- Window writes are discarded while PnRST_n is asserted (R154) and while RESET_n is (R170). -/
def State.windowClosed (s : State) (p : PortId) : Bool := s.resetPin || (s.piu p).resetPin

/-- The step that takes a command latches the argument words, the kind and NOTIFY, clears CMD_OVERRUN, clears COMPOSE_CLOBBERED for a POST and
makes the slot BUSY (R162). -/
def Piu.latch (u : Piu) (kind : Byte) (notify : Bool) : Piu :=
  { u with
    slot := { u.slot with busy := true, latched := u.slot.arguments, kind := kind, notify := notify, overrun := false }
    clobbered := if kind = kindOf .post then false else u.clobbered }

/-- A write of the command word (R160 to R164): discarded while a reset is asserted; an overrun while the slot is BUSY; otherwise the command is
taken, and `body` is what the block that owns it does. -/
def State.takeCommand (s : State) (p : PortId) (kind : Byte) (notify : Bool) (body : State → State) : State :=
  if s.windowClosed p then s
  else if (s.piu p).slot.busy then s.modPiu p fun u => { u with slot := { u.slot with overrun := true } }
  else
    let s' := s.modPiu p fun u => u.latch kind notify
    match commandOfKind kind.toNat with
    | none => s'.refuse p .badCommand
    | some c => if admits (s.piu p).state c then body s' else s'.refuse p .badState

/-- The latched argument words of a port's command. -/
def State.args (s : State) (p : PortId) : Table Word 8 := (s.piu p).slot.latched

end Sys2Proof.Machine
end

