-- ==== Sys2Proof/Machine/OpenClose.lean ====
section
/-! DEFINITION. Opening and closing channels: OFFER, ACCEPT, DECLINE, CLOSE and the offer timer's expiry (03). -/

namespace Sys2Proof.Machine

/-! ## OFFER -/

/-- Tests 2 to 5 of Table 3-1, in order (test 1 is the slot's, test 6 is the search). -/
def offerRefusal (s : State) (p : PortId) (a : OfferArgs) : Option Status :=
  let role : Role := if a.role = 0 then .producer else .consumer
  if ¬ a.inRange p then some .badArg
  else if role = .consumer ∧ ¬ ringFits a.ring a.maxLength then some .ringTooSmall
  else if (s.boundTo role ⟨p, Fin.ofNat 16 a.slot⟩).isSome then some .slotInUse
  else if ¬ s.attached (Fin.ofNat 4 a.peer) then some .peerAbsent
  else none

/-- The use an accepted OFFER gives the entry (R35). -/
def offerUse (p : PortId) (a : OfferArgs) : Use where
  stage := .offered ⟨p, Fin.ofNat 4 a.peer, Timer.start (1000 * a.timeout)⟩
  producer := if a.role = 0 then some ⟨p, Fin.ofNat 16 a.slot⟩ else none
  consumer := if a.role = 0 then none else some ⟨p, Fin.ofNat 16 a.slot⟩
  terms := a.terms
  held := 0
  queue := []
  unconfirmed := []
  nextSequence := 0
  fill := false
  ring := if a.role = 0 then none else some (a.ring.ring false)
  hold := none

/-- An OFFER that passes every test takes entry `c` (R35). -/
def offerTake (s : State) (p : PortId) (a : OfferArgs) (c : ChannelId) : State :=
  let g := (s.entry c).generation + 1
  let q : Party := ⟨p, Fin.ofNat 16 a.slot⟩
  let s1 := s.setEntry c ⟨g, Counters.zero, some (offerUse p a)⟩
  let s2 := if a.role = 0 then s1.bindProducer q c else s1.bindConsumer q c
  (s2.portEvent (Fin.ofNat 4 a.peer) .offerReceived c (offerDetail g p (a.role ≠ 0) (a.cls ≠ 0))).complete p .done
    (resultWords c.val g.toNat 0 0)

/-- OFFER past the slot's tests (R34, R35). -/
def offerBody (p : PortId) (s : State) : State :=
  let a := offerArgs (s.args p)
  match offerRefusal s p a with
  | some st => s.refuse p st
  | none =>
    match s.lowestFree with
    | none => s.refuse p .noChannel
    | some c => offerTake s p a c

/-- OFFER: a write of the command word with kind OFFER (R34, R35). -/
def execOffer (p : PortId) (notify : Bool) (s : State) : Host.Outcome State Fault Refusal :=
  .next (s.takeCommand p (kindOf .offer) notify (offerBody p))

/-! ## ACCEPT and DECLINE -/

/-- Test 2 of R37: the offer that a channel number and a generation name for its peer `p`; none is answered LATE. -/
def offerNamed (s : State) (p : PortId) (channel : Nat) (g : Byte) : Option (ChannelId × Use × Offer) :=
  match channelOf channel with
  | none => none
  | some c =>
    match s.use c with
    | none => none
    | some u =>
      match u.stage with
      | .offered o => if (s.entry c).generation = g ∧ o.peer = p then some (c, u, o) else none
      | .opened => none
      | .closing => none
      | .ending => none
      | .orphaned => none

/-- The peer takes the role opposite to the offeror's (R37). -/
def peerRole (u : Use) : Role := if u.producer.isSome then .consumer else .producer

/-- Tests 3 to 5 of R37, in order. A slot number above 15 names no bound slot and passes test 3. -/
def acceptRefusal (s : State) (p : PortId) (u : Use) (slot : Nat) (r : RingArgs) : Option Status :=
  if (slotOf slot).any (fun i => (s.boundTo (peerRole u) ⟨p, i⟩).isSome) then some .slotInUse
  else if peerRole u = .consumer ∧ ¬ ringFits r u.terms.maxLength then some .ringTooSmall
  else if (slotOf slot).isNone ∨ (peerRole u = .consumer ∧ ¬ ringOk r) then some .badArg
  else none

/-- The offering consumer is away when its port is RETAINED or FAULTED (R39). -/
def State.away (s : State) (p : PortId) : Bool := (s.piu p).state = .retained || (s.piu p).state = .faulted

/-- ACCEPT by a peer that is to be the consumer: its slot is bound and its ring is created ARMED (R38). -/
def acceptAsConsumer (s : State) (c : ChannelId) (q : Party) (r : RingArgs) : State :=
  (s.modUse c fun u => { u with stage := .opened, consumer := some q, ring := some (r.ring true) }).bindConsumer q c

/-- ACCEPT by a peer that is to be the producer: its slot is bound and the offered ring is armed, unless the offering consumer is away
(R38, R39). -/
def acceptAsProducer (s : State) (c : ChannelId) (q : Party) (u : Use) (armed : Bool) : State :=
  let s' := (s.modUse c fun u => { u with
    stage := .opened
    producer := some q
    ring := u.ring.map fun r => { r with armed := armed, writeIndex := 0, readIndex := 0 } }).bindProducer q c
  if armed then s'.handWriteIndex u.consumer 0 else s'

/-- An ACCEPT that passes every test makes the entry OPEN (R38, R39). -/
def acceptTake (s : State) (p : PortId) (c : ChannelId) (u : Use) (o : Offer) (slot : SlotId) (r : RingArgs) : State :=
  let g := (s.entry c).generation
  let q : Party := ⟨p, slot⟩
  let s1 :=
    match peerRole u with
    | .consumer => (acceptAsConsumer s c q r).tellParty u.producer .channelOpen 0 c (openDetail g p)
    | .producer =>
      let opened := (acceptAsProducer s c q u (!s.away o.offeror)).tellParty u.consumer .channelOpen 0 c (openDetail g p)
      if s.away o.offeror then opened.partyEvent q .consumerAway 0 c (generationDetail g) else opened
  s1.complete p .done (resultWords c.val g.toNat o.offeror.val 0)

/-- ACCEPT past the slot's tests (R37, R38). -/
def acceptBody (p : PortId) (s : State) : State :=
  let w := s.args p
  match offerNamed s p (channelArg w) (generationArg w) with
  | none => s.refuse p .late
  | some (c, u, o) =>
    match acceptRefusal s p u (acceptSlotArg w) (ringArgs w) with
    | some st => s.refuse p st
    | none => acceptTake s p c u o (Fin.ofNat 16 (acceptSlotArg w)) (ringArgs w)

/-- ACCEPT: a write of the command word with kind ACCEPT (R37 to R39). -/
def execAccept (p : PortId) (notify : Bool) (s : State) : Host.Outcome State Fault Refusal :=
  .next (s.takeCommand p (kindOf .accept) notify (acceptBody p))

/-- The offeror's party of an offer: the one slot an OFFERED entry binds (R24). -/
def Use.offerorParty (u : Use) : Option Party :=
  match u.producer with
  | some q => some q
  | none => u.consumer

/-- The peer declines: OFFER_DECLINED to the offeror, and the entry becomes FREE (R40). -/
def State.declineOffer (s : State) (c : ChannelId) : State :=
  match s.use c with
  | none => s
  | some u => (s.tellParty u.offerorParty .offerDeclined 0 c (generationDetail (s.entry c).generation)).freeEntry c

/-- DECLINE past the slot's tests (R40). -/
def declineBody (p : PortId) (s : State) : State :=
  let w := s.args p
  match offerNamed s p (channelArg w) (generationArg w) with
  | none => s.refuse p .late
  | some (c, _, _) => (s.declineOffer c).finish p

/-- DECLINE: a write of the command word with kind DECLINE (R40). -/
def execDecline (p : PortId) (notify : Bool) (s : State) : Host.Outcome State Fault Refusal :=
  .next (s.takeCommand p (kindOf .decline) notify (declineBody p))

/-! ## CLOSE -/

/-- The offer is withdrawn: OFFER_WITHDRAWN to the peer, and the entry becomes FREE (R41). -/
def State.withdrawOffer (s : State) (c : ChannelId) (o : Offer) : State :=
  (s.portEvent o.peer .offerWithdrawn c (generationDetail (s.entry c).generation)).freeEntry c

/-- Producer close of an OPEN entry: FREE at once when empty, CLOSING otherwise (R44). -/
def State.producerClose (s : State) (c : ChannelId) (u : Use) : State :=
  if u.isEmpty then s.freeWithNotice c .close else s.leaveOpen c .closing

/-- PEER_CLOSED to the producer with the ENDING flag (R48). -/
def State.tellPeerClosed (s : State) (c : ChannelId) (u : Use) (ending : Bool) : State :=
  s.tellParty u.producer .peerClosed 0 c (peerClosedDetail (s.entry c).generation ending)

/-- Consumer close of an OPEN or CLOSING entry: discard, then FREE, or ENDING while a fill or a landing is in flight (R47, R48). -/
def State.consumerClose (s : State) (c : ChannelId) (u : Use) : State :=
  if u.fill ∨ (s.landingHead u).isSome then ((s.discard c).leaveOpen c .ending).tellPeerClosed c u true
  else ((s.discard c).tellPeerClosed c u false).freeEntry c

/-- CLOSE completes with DONE and the entry's state after the close (R43). -/
def State.finishClose (s : State) (p : PortId) (c : ChannelId) : State :=
  s.complete p .done (resultWords (entryCode (s.use c)) 0 0 0)

/-- CLOSE by a party, by state and role (Table 3-3). -/
def closeByParty (s : State) (p : PortId) (c : ChannelId) (u : Use) : State :=
  match u.stage with
  | .offered o => if o.offeror = p then (s.withdrawOffer c o).finishClose p c else s.refuse p .badChannel
  | .opened => if u.producedBy p then (s.producerClose c u).finishClose p c else (s.consumerClose c u).finishClose p c
  | .closing => if u.producedBy p then s.refuse p .closed else (s.consumerClose c u).finishClose p c
  | .ending => s.refuse p .closed
  | .orphaned => (s.freeEntry c).finishClose p c

/-- The channel command's entry: R43 tests 2 and 3, shared by CLOSE and LAND (R93 tests 2 and 3). -/
def entryNamed (s : State) (channel : Nat) (g : Byte) : Except Status (ChannelId × Use) :=
  match channelOf channel with
  | none => .error .badArg
  | some c =>
    match s.use c with
    | none => .error .late
    | some u => if (s.entry c).generation = g then .ok (c, u) else .error .late

/-- CLOSE past the slot's tests (R43). -/
def closeBody (p : PortId) (s : State) : State :=
  let w := s.args p
  match entryNamed s (channelArg w) (generationArg w) with
  | .error st => s.refuse p st
  | .ok (c, u) => if u.isParty p then closeByParty s p c u else s.refuse p .badChannel

/-- CLOSE: a write of the command word with kind CLOSE (R41, R43 to R48, R53). -/
def execClose (p : PortId) (notify : Bool) (s : State) : Host.Outcome State Fault Refusal :=
  .next (s.takeCommand p (kindOf .close) notify (closeBody p))

/-! ## The offer timer -/

/-- The expiry of an offer: OFFER_EXPIRED to the offeror, OFFER_WITHDRAWN to the peer, and the entry becomes FREE (R36). -/
def State.expireOffer (s : State) (c : ChannelId) (u : Use) (o : Offer) : State :=
  let d := generationDetail (s.entry c).generation
  ((s.tellParty u.offerorParty .offerExpired 0 c d).portEvent o.peer .offerWithdrawn c d).freeEntry c

/-- OFFER_TIMER_EXPIRY: taken while the entry is OFFERED and its timer has run out; otherwise the timer was stopped and the expiry is not
taken (R36). -/
def execOfferTimerExpiry (c : ChannelId) (s : State) : Host.Outcome State Fault Refusal :=
  .next <|
    match s.use c with
    | none => s
    | some u =>
      match u.stage with
      | .offered o => if o.timer.expired then s.expireOffer c u o else s
      | .opened => s
      | .closing => s
      | .ending => s
      | .orphaned => s

end Sys2Proof.Machine
end

