-- ==== Sys2Proof/Machine/Posting.lean ====
section
/-! DEFINITION. Posting: the compose buffer, POST, the copy's completion and its abandonment (04). -/

namespace Sys2Proof.Machine

/-! ## The compose buffer -/

/-- A write of a compose-buffer word: discarded while a reset is asserted; while LOCKED, discarded with COMPOSE_CLOBBERED set; otherwise the word
is replaced (R55, R57). -/
def State.composeWrite (s : State) (p : PortId) (k : Fin 256) (w : Word) : State :=
  if s.windowClosed p then s
  else s.modPiu p fun u =>
    if u.locked then { u with clobbered := true } else { u with compose := u.compose.writeWord (4 * k.val) w }

/-- COMPOSE_BUFFER_WRITE (R57). -/
def execComposeBufferWrite (p : PortId) (k : Fin 256) (w : Word) (s : State) : Host.Outcome State Fault Refusal :=
  .next (s.composeWrite p k w)

/-! ## POST -/

/-- Test 2 of Table 4-1: the entry the issuing port produces, in a state other than FREE and OFFERED. A channel above 63 fails it with BAD_CHANNEL, as R59 says, where R161
and R172 have BAD_ARG for a value outside a command's range (log 25, DESIGN CHOICE). -/
def postEntry (s : State) (p : PortId) (channel : Nat) : Option (ChannelId × Use) :=
  match channelOf channel with
  | none => none
  | some c =>
    match s.use c with
    | none => none
    | some u =>
      match u.stage with
      | .offered _ => none
      | .opened => if u.producedBy p then some (c, u) else none
      | .closing => if u.producedBy p then some (c, u) else none
      | .ending => if u.producedBy p then some (c, u) else none
      | .orphaned => if u.producedBy p then some (c, u) else none

/-- Tests 3 to 7 of Table 4-1, in order. -/
def postRefusal (u : Use) (length : Nat) (urgent : Bool) : Option Status :=
  if u.stage = .closing ∨ u.stage = .ending then some .closed
  else if u.stage = .orphaned then some .noConsumer
  else if length = 0 then some .badArg
  else if u.terms.maxLength < length then some .tooLong
  else if u.hold.isSome ∧ ¬ urgent then some .held
  else if u.terms.quota < u.held + segmentCount length then some .quota
  else none

/-- The counter a refused POST moves (R60, Table 2-6). -/
def Counters.countRefusal (k : Counters) (st : Status) : Counters :=
  if st = .held then { k with refusedHold := k.refusedHold + 1 } else { k with refusedOther := k.refusedOther + 1 }

/-- A POST refused at tests 3 to 8 (R60). -/
def postRefused (s : State) (p : PortId) (c : ChannelId) (st : Status) : State :=
  (s.modCounters c fun k => k.countRefusal st).refuse p st

/-- The claim of test 8 (R61). -/
def postClaim (s : State) (p : PortId) (c : ChannelId) (u : Use) : Claim where
  channel := c
  generation := (s.entry c).generation
  sequence := u.nextSequence
  length := lengthArg (s.args p)
  userTag := userTagArg (s.args p)
  source := p
  urgent := urgentArg (s.args p)

/-- Acceptance: the sequence is taken, the held count rises by N, a fill is in flight, the copy starts with the buffer LOCKED, and the quota
hold check is made; the slot stays BUSY (R61, R62). -/
def postAccept (s : State) (p : PortId) (c : ChannelId) (r : RecordId) (pool : Pool) : State :=
  ((((s.setPool pool).modUse c fun u => { u with
      nextSequence := u.nextSequence + 1
      held := u.held + segmentCount (lengthArg (s.args p))
      fill := true }).modCounters c fun k => { k with postsAccepted := k.postsAccepted + 1 }).modPiu p fun u =>
    { u with copy := some r }).quotaCheck c

/-- POST past the slot's tests (R59 to R63). -/
def postBody (p : PortId) (s : State) : State :=
  let w := s.args p
  match postEntry s p (channelArg w) with
  | none => s.refuse p .badChannel
  | some (c, u) =>
    match postRefusal u (lengthArg w) (urgentArg w) with
    | some st => postRefused s p c st
    | none =>
      match s.pool.claim (postClaim s p c u) with
      | .refused st => postRefused s p c st
      | .granted r pool => postAccept s p c r pool

/-- POST: a write of the command word with kind POST (R58, R59). -/
def execPost (p : PortId) (notify : Bool) (s : State) : Host.Outcome State Fault Refusal :=
  .next (s.takeCommand p (kindOf .post) notify (postBody p))

/-! ## The copy -/

/-- The segments after the copy of a record's payload (R64). -/
def State.copyPayload (s : State) (p : PortId) (rec : Record) (n : Nat) : State :=
  { s with pool := { s.pool with segments := copyBytes (s.piu p).compose rec.chain n s.pool.segments } }

/-- The record's fill is over and its record is freed: the held count falls by N, fill in flight becomes no (R49, R67, R69). -/
def State.dropFill (s : State) (c : ChannelId) (r : RecordId) : State :=
  (s.dropRecords c [r]).modUse c fun u => { u with fill := false }

/-- The copy's completion taken on the entry: DONE with the record queued on OPEN; the record freed with CLOSED on ENDING and with NO_CONSUMER on
ORPHANED; by the guard of R8 freed with CLOSED and no entry changed (R66, R67). A CLOSING entry, which has no fill (R149), queues it like an OPEN one
(log 17, DESIGN CHOICE). -/
def State.completeCopy (s : State) (p : PortId) (r : RecordId) (rec : Record) : State :=
  let c := rec.channel
  let accepted := resultWords rec.sequence.toNat 1 0 0
  let queued := ((s.modRecord r fun rec => { rec with state := .queued }).modUse c fun u =>
    { u with queue := u.queue ++ [r], fill := false }).complete p .done accepted
  match s.useOfRecord rec with
  | none => (s.setPool (s.pool.free [r])).complete p .closed accepted
  | some u =>
    match u.stage with
    | .offered _ => (s.setPool (s.pool.free [r])).complete p .closed accepted
    | .opened => queued
    | .closing => queued
    | .ending => ((s.dropFill c r).complete p .closed accepted).freeCheck c
    | .orphaned => (s.dropFill c r).complete p .noConsumer accepted

/-- COPY_COMPLETION: the payload is in the record's segments, the buffer unlocks, the entry takes the completion and the POST completes (R64, R66
to R68). With no copy in flight there is no completion to take (R70). -/
def execCopyCompletion (p : PortId) (s : State) : Host.Outcome State Fault Refusal :=
  .next <|
    match (s.piu p).copy with
    | none => s
    | some r =>
      match s.record r with
      | none => s.modPiu p fun u => { u with copy := none }
      | some rec =>
        ((s.copyPayload p rec (64 * segmentCount rec.length)).modPiu p fun u => { u with copy := none }).completeCopy p r rec

/-- Abandonment of the copy in flight by a port reset: the record is freed, the held count falls, fill in flight becomes no, the buffer unlocks, and the
check the entry's state calls for is made (R69). How many bytes the copy had written is a free value, and this step is where the model writes them: the spec gives no
moment for them, and R1 lets the reset itself change none (log 5, DESIGN CHOICE). -/
def State.abandonCopy (s : State) (p : PortId) : State :=
  match (s.piu p).copy with
  | none => s
  | some r =>
    let s1 := s.modPiu p fun u => { u with copy := none }
    match s.record r with
    | none => s1
    | some rec =>
      let n := min (Config.abandonedCopyBytes s.freeIndex) (64 * segmentCount rec.length)
      let s2 := (s1.copyPayload p rec n).countFreeValue
      match s.useOfRecord rec with
      | none => s2.setPool (s2.pool.free [r])
      | some _ => (s2.dropFill rec.channel r).checkAfterFall rec.channel

end Sys2Proof.Machine
end

