-- ==== Sys2Proof/Machine/PortOps.lean ====
section
/-! DEFINITION. The port state machine's shared operations: departure from ATTACHED, end of the quiesce, fault, requests owed to the entries
(09). -/

namespace Sys2Proof.Machine

/-- The entries of which the port is a party (R24). -/
def State.partyEntries (s : State) (p : PortId) : List ChannelId :=
  allChannels.filter fun c => (s.use c).any fun u => u.isParty p

/-- Does a fault of the port reach this use of an entry? It reaches the port's consumer channels (R103, R157). An offer with the port as offering consumer it does
not reach, as R157 has it; R103 lists such an offer among what is reached, with nothing changed there (log 31, DESIGN CHOICE). -/
def Use.faultReaches (u : Use) (p : PortId) : Bool :=
  match u.stage with
  | .offered _ => false
  | .opened => u.consumedBy p
  | .closing => u.consumedBy p
  | .ending => u.consumedBy p
  | .orphaned => u.consumedBy p

/-- The entries that a fault of the port reaches (R103, R157; log 31). -/
def State.faultEntries (s : State) (p : PortId) : List ChannelId :=
  allChannels.filter fun c => (s.use c).any fun u => u.faultReaches p

/-- The port leaves ATTACHED for `next`: the Notice Unit takes the departure (R142) and a Port Writer without a job becomes STOPPED (R74). -/
def State.departAttached (s : State) (p : PortId) (next : PortState) : State :=
  ((s.modPiu p fun u => { u with state := next, faultHanded := false }).modNu p Nu.depart).modWriter p fun w =>
    match w.state with
    | .stopped => w
    | .idle => { w with state := .stopped }
    | .busy _ => w

/-- The CHC is handed a detachment, which it takes on every entry of which the port is a party, with an effect by mode, state and role (R148, R149 to
R151; log 9). -/
def State.oweDetachment (s : State) (p : PortId) (mode : DetachMode) : State :=
  match mode with
  | .flush => s.modPort p fun b => { b with flushOwed := b.flushOwed ++ s.partyEntries p }
  | .retain => s.modPort p fun b => { b with requeueOwed := b.requeueOwed ++ s.partyEntries p }

/-- Steps 1 and 3 of R148: the target state and the retain flags. -/
def Piu.leave (u : Piu) (mode : DetachMode) : Piu :=
  match mode with
  | .flush => { u with state := .detached, leaveMode := none, retainArmed := false, retainedLast := false }
  | .retain => { u with state := .retained, leaveMode := none, retainedLast := true }

/-- Step 2 of R148: vectors OFF; in FLUSH mode the backlog is emptied. -/
def Nu.leave (nu : Nu) (mode : DetachMode) : Nu :=
  match mode with
  | .flush => { nu.vectorsOff with backlog := [] }
  | .retain => nu.vectorsOff

/-- Step 4 of R148: the DETACH in the slot, if there is one, completes. -/
def State.finishDetach (s : State) (p : PortId) : State :=
  if (s.piu p).slot.busy ∧ (s.piu p).slot.kind = kindOf .detach then s.finish p else s

/-- The end of the quiesce (R148). -/
def State.quiesceEnd (s : State) (p : PortId) (mode : DetachMode) : State :=
  ((((s.modPiu p fun u => u.leave mode).modNu p fun nu => nu.leave mode).finishDetach p).oweDetachment p mode)

/-- The Port Writer holds a job. -/
def Writer.isBusy (w : Writer) : Bool :=
  match w.state with
  | .stopped => false
  | .idle => false
  | .busy _ => true

/-- A detach decided for a QUIESCING port, or for a FAULTED port by a port reset, is made once the Port Writer holds no job and PnRST_n is
deasserted (R148, R156). -/
def State.settle (s : State) (p : PortId) : State :=
  if (s.piu p).resetPin ∨ (s.writer p).isBusy then s
  else if (s.piu p).state = .quiescing ∨ (s.piu p).state = .faulted then
    match (s.piu p).leaveMode with
    | none => s
    | some mode => s.quiesceEnd p mode
  else s

/-- The PIU makes an ATTACHED port FAULTED: departure, vectors OFF, and the fault is owed to every entry that it reaches (R157). -/
def State.faultPort (s : State) (p : PortId) : State :=
  let s' := (s.departAttached p .faulted).modNu p Nu.vectorsOff
  s'.modPort p fun b => { b with requeueOwed := b.requeueOwed ++ s'.faultEntries p }

/-- The port state machine takes the failure handed to it, when there is one: the port faults (R85 step 3, R157). -/
def State.takeFault (s : State) (p : PortId) : State := if (s.piu p).faultHanded then s.faultPort p else s

/-- A detachment or a fault of the port is not yet taken on an entry that it reaches, whatever it does there; an entry that became FREE before its turn is
not reached (R145, R148, R157; log 9). -/
def State.requestsOutstanding (s : State) (p : PortId) : Bool :=
  ((s.port p).flushOwed ++ (s.port p).requeueOwed).any fun c => (s.use c).any fun u => u.isParty p

end Sys2Proof.Machine
end

