-- ==== Sys2Proof/Machine/WriterOps.lean ====
section
/-! DEFINITION. The Port Writer: readiness, the choice of a job, the writes of a job, its completion and its failure (05). -/

namespace Sys2Proof.Machine

/-! ## Readiness and choice -/

/-- The free landing slots of a ring (R31). -/
def Ring.freeSlots (r : Ring) : Nat := r.slotCount - (r.writeIndex - r.readIndex).toNat

/-- Readiness to land on port `p` (R31). -/
def State.ready (s : State) (p : PortId) (c : ChannelId) : Bool :=
  match s.use c with
  | none => false
  | some u =>
    (u.stage = .opened || u.stage = .closing)
      && u.consumedBy p
      && u.ring.any (fun r => r.armed && 1 ≤ r.freeSlots)
      && (match u.queue with
          | [] => false
          | r :: _ => (s.record r).any fun rec => rec.state = .queued)
      && (match u.terms.cls with
          | .plain => true
          | .confirmed w => u.unconfirmed.length < w)

/-- The channels in the order of a round-robin search that begins after the pointer and wraps (R77). -/
def searchOrder (pointer : ChannelId) : List ChannelId := ascending 64 (pointer.val + 1) 64

/-- The first ready channel of priority `k` after the pointer (R77). -/
def State.chooseAt (s : State) (p : PortId) (k : Fin 4) : Option ChannelId :=
  (searchOrder ((s.roundRobin.read p).read k)).find? fun c => s.ready p c && (s.use c).any fun u => u.terms.priority = k

/-- The channel of the next landing job: strict priority, round-robin within a priority (R77). -/
def State.chooseChannel (s : State) (p : PortId) : Option (Fin 4 × ChannelId) :=
  (ascending 4 0 4).findSome? fun k => (s.chooseAt p k).map fun c => (k, c)

/-- The lowest-numbered vector whose signal-due mark is set (R138). -/
def Nu.dueVector (nu : Nu) : Option VectorId := allVectors.find? fun v => (nu.vectors.read v).due

/-- The Port Writer may start a job: it is IDLE and its port is ATTACHED (R74, R76). -/
def State.mayStart (s : State) (p : PortId) : Bool := (s.writer p).state = .idle && s.attached p

/-! ## The writes of a job (log 3: one 32-bit word a write) -/

/-- Words written at ascending addresses. -/
def writesFrom (address : Word) : List Word → List LinkWrite
  | [] => []
  | w :: ws => ⟨address, w⟩ :: writesFrom (address + 4) ws

/-- The address of the landing slot that a landing index names (R80). A ring that runs past the top of the 32-bit address space wraps modulo 2^32, on which the
spec is silent (log 23, DESIGN CHOICE). -/
def slotAddress (r : Ring) (index : Half) : Word :=
  r.base + BitVec.ofNat 32 (index.toNat % r.slotCount * (64 * r.slotUnits))

/-- Word `k` of a message's payload, from the record's segments (R6, R171). -/
def payloadWord (segments : Memory) (chain : List SegmentId) (k : Nat) : Word :=
  segments.read (segmentAddress chain (4 * k + 3)) ++ segments.read (segmentAddress chain (4 * k + 2))
    ++ segments.read (segmentAddress chain (4 * k + 1)) ++ segments.read (segmentAddress chain (4 * k))

/-- The payload of a message, its length rounded up to whole words (R80). -/
def payloadWords (segments : Memory) (rec : Record) : List Word :=
  (List.range ((rec.length + 3) / 4)).map (payloadWord segments rec.chain)

/-- The writes of a landing: payload in ascending order, then the slot header (R80, R81). -/
def landingWrites (segments : Memory) (rec : Record) (cls : ChannelClass) (r : Ring) (index : Half) : List LinkWrite :=
  writesFrom (slotAddress r index + 16) (payloadWords segments rec)
    ++ writesFrom (slotAddress r index) (headerWords rec cls.isConfirmed index)

/-- The address of the event record of ring index `i` (R129). -/
def eventAddress (base : Word) (i : Byte) : Word := base + BitVec.ofNat 32 (i.toNat % 64 * 8)

/-- The writes of event records from ring index `i` on, oldest first (R136). -/
def eventWrites (base : Word) : Byte → List Event → List LinkWrite
  | _, [] => []
  | i, e :: es => writesFrom (eventAddress base i) [eventWord0 e, eventWord1 e] ++ eventWrites base (i + 1) es

/-- The 32 slot words of the summary record in ascending address order (R136, R175). -/
def slotWords (nu : Nu) : List Word :=
  allSlots.map (fun i => consumerWordBits (nu.consumerWords.read i)) ++ allSlots.map (fun i => producerWordBits (nu.producerWords.read i))

/-- The free space of the event ring (R129). -/
def eventSpace (nu : Nu) (readIndex : Byte) : Nat := Config.eventRingSize - (nu.eventWrite - readIndex).toNat

/-- The event count E of a flush (R135). -/
def flushCount (nu : Nu) (readIndex : Byte) : Nat := min nu.backlog.length (eventSpace nu readIndex)

/-- The writes of a flush of `n` events: event records, slot words, header word last (R135, R136). -/
def flushWrites (nu : Nu) (low : Bool) (n : Nat) : List LinkWrite :=
  eventWrites nu.noticeBase nu.eventWrite (nu.backlog.take n)
    ++ writesFrom (nu.noticeBase + 516) (slotWords nu)
    ++ [⟨nu.noticeBase + 512, summaryHeader low nu.eventsLost (nu.tag + 1) nu.lost (nu.eventWrite + BitVec.ofNat 8 n)⟩]

/-- The vectors a flush serves: those whose fired mark is set (R135). -/
def Nu.firedVectors (nu : Nu) : List VectorId := allVectors.filter fun v => (nu.vectors.read v).fired

/-- At the start of a flush the fired marks clear, the pending counts of those vectors become 0, and the request goes (R135). -/
def Nu.startFlush (nu : Nu) : Nu :=
  { nu.mapVectors (fun c => if c.fired then { c with fired := false, pending := 0 } else c) with flushRequest := false }

/-- A Port Writer starts a job: the job takes the next number, and its first write is issued with its timeout (R75). -/
def State.startJob (s : State) (p : PortId) (kind : JobKind) (writes : List LinkWrite) : State :=
  s.modWriter p fun w => { w with state := .busy ⟨kind, writes, Timer.start Config.writeTimeout⟩, jobs := w.jobs + 1 }

/-- The job in flight, when an answer names it; an answer to a write of a job that has ended names none (R75; log 26). -/
def Writer.jobNamed (w : Writer) (job : Nat) : Option Job :=
  match w.state with
  | .stopped => none
  | .idle => none
  | .busy j => if job = w.jobs then some j else none

/-! ## The end of a job -/

/-- The Port Writer after a job that completed: IDLE while its port is ATTACHED, STOPPED otherwise (R74, R87). -/
def State.releaseWriter (s : State) (p : PortId) : State :=
  s.modWriter p fun w => { w with state := if s.attached p then .idle else .stopped }

/-- A landing completed on an OPEN or CLOSING entry (R82). -/
def State.landOn (s : State) (r : RecordId) (rec : Record) (u : Use) : State :=
  let c := rec.channel
  let index := (u.ring.map fun x => x.writeIndex + 1).getD 0
  let s1 := s.modUse c fun u => { u with
    queue := u.queue.erase r
    ring := u.ring.map fun x => { x with writeIndex := x.writeIndex + 1 } }
  let s2 := s1.modCounters c fun k => { k with
    landed := k.landed + 1
    replayed := if rec.replay then k.replayed + 1 else k.replayed }
  let s3 :=
    match u.terms.cls with
    | .plain => s2.dropRecords c [r]
    | .confirmed _ => (s2.modRecord r fun rec => { rec with state := .unconfirmed }).modUse c fun u =>
        { u with unconfirmed := u.unconfirmed ++ [r] }
  let s4 := s3.handWriteIndex u.consumer index
  let s5 :=
    match u.consumer with
    | none => s4
    | some q => s4.countVector q.port (slotVector (s4.nu q.port).grant q.slot)
  s5.checkAfterFall c

/-- The LANDING record leaves the message queue and is freed (R49). -/
def State.dropLanding (s : State) (c : ChannelId) (r : RecordId) : State :=
  (s.dropRecords c [r]).modUse c fun u => { u with queue := u.queue.erase r }

/-- A landing completion taken on the entry (R82, R49); by the guard of R8 the record is freed and no entry changes. In states no run reaches, a landing on an
OFFERED or ORPHANED entry frees its record (log 17). -/
def State.completeLanding (s : State) (r : RecordId) : State :=
  match s.record r with
  | none => s
  | some rec =>
    match s.useOfRecord rec with
    | none => s.setPool (s.pool.free [r])
    | some u =>
      match u.stage with
      | .offered _ => s.dropLanding rec.channel r
      | .opened => s.landOn r rec u
      | .closing => s.landOn r rec u
      | .ending => (s.dropLanding rec.channel r).freeCheck rec.channel
      | .orphaned => s.dropLanding rec.channel r

/-- A landing failure taken on the entry: the LANDING head becomes QUEUED again (R84), or is freed on an ENDING entry (R49). -/
def State.failLanding (s : State) (r : RecordId) : State :=
  match s.record r with
  | none => s
  | some rec =>
    match s.useOfRecord rec with
    | none => s.setPool (s.pool.free [r])
    | some u =>
      match u.stage with
      | .offered _ => s.dropLanding rec.channel r
      | .opened => s.modRecord r fun rec => { rec with state := .queued }
      | .closing => s.modRecord r fun rec => { rec with state := .queued }
      | .ending => (s.dropLanding rec.channel r).freeCheck rec.channel
      | .orphaned => s.dropLanding rec.channel r

/-- Step 4 of R136 for one vector of the flush's set. -/
def Coalescer.served (c : Coalescer) : Coalescer :=
  match c.state with
  | .armed => { c with state := .signalled, due := true }
  | .signalled => { c with owed := true }
  | .off => c

/-- A flush completed: events leave the backlog, write index and tag advance, and on an ATTACHED port the vectors of its set are served
(R136). -/
def Nu.completeFlush (nu : Nu) (n : Nat) (tag : Byte) (served : List VectorId) : Nu :=
  { nu with
    backlog := nu.backlog.drop n
    eventWrite := nu.eventWrite + BitVec.ofNat 8 n
    tag := tag
    vectors := Table.build fun v =>
      if served.contains v then (nu.vectors.read v).served else nu.vectors.read v }

/-- A signal completed: the signal-due mark clears (R138), also one that a re-arm set anew while the job was in flight, for which R140 has the signal given again
(log 30, DESIGN CHOICE). -/
def Nu.completeSignal (nu : Nu) (v : VectorId) : Nu := nu.modVector v fun c => { c with due := false }

/-- The effect of a job's completion, by its kind (R82, R136, R138). -/
def State.completeWork (s : State) (p : PortId) (kind : JobKind) : State :=
  match kind with
  | .landing _ _ r _ => s.completeLanding r
  | .flush n tag vs => s.modNu p fun nu => nu.completeFlush n tag (if s.attached p then vs else [])
  | .signal v => s.modNu p fun nu => nu.completeSignal v

/-- A job's last write is answered OK: the job completes, the Port Writer becomes IDLE or STOPPED, and a quiesce that waited for it ends
(R75, R87, R148). -/
def State.completeJob (s : State) (p : PortId) (kind : JobKind) : State :=
  ((s.completeWork p kind).releaseWriter p).settle p

/-- The effect of a job's failure or ending, by its kind: a landing failure; a flush or a signal leaves its Notice Unit as it was (R84, R88, R137,
R138). -/
def State.failWork (s : State) (kind : JobKind) : State :=
  match kind with
  | .landing _ _ r _ => s.failLanding r
  | .flush _ _ _ => s
  | .signal _ => s

/-- A job's write is answered ERROR or times out: the fault record is written and the Port Writer stops, the job's failure is taken, and in an ATTACHED port the
failure is handed to the port state machine; in QUIESCING the quiesce ends instead (R85, R87, R157). -/
def State.failJob (s : State) (p : PortId) (kind : FaultKind) (job : Job) : State :=
  let address := (job.writes.head?.map fun w => w.address).getD 0
  let s1 := (s.modWriter p fun w => { w with state := .stopped, faultKind := kind, faultAddress := address }).failWork job.kind
  if s1.attached p then s1.modPiu p fun u => { u with faultHanded := true } else s1.settle p

/-- A port reset ends the Port Writer's job without completion and stops the Port Writer (R88). -/
def State.endJob (s : State) (p : PortId) : State :=
  let s1 := s.modWriter p fun w => { w with state := .stopped }
  match (s.writer p).state with
  | .stopped => s1
  | .idle => s1
  | .busy job => s1.failWork job.kind

/-- The answer OK to the write in flight: the next write is issued and its timeout starts, or the job completes (R75). -/
def State.answerOk (s : State) (p : PortId) (job : Job) : State :=
  match job.writes with
  | _ :: w :: ws => s.modWriter p fun x => { x with state := .busy ⟨job.kind, w :: ws, Timer.start Config.writeTimeout⟩ }
  | _ => s.completeJob p job.kind

end Sys2Proof.Machine
end

