-- ==== Sys2Proof/Machine/Landing.lean ====
section
/-! DEFINITION. Landing: the start of a landing job, the answers of the link and the write timeout (05). -/

namespace Sys2Proof.Machine

/-- The start of a landing job on channel `c`: the head record becomes LANDING, the round-robin pointer moves, and the Port Writer holds the
job (R77, R79). -/
def State.startLanding (s : State) (p : PortId) (k : Fin 4) (c : ChannelId) : State :=
  match s.use c with
  | none => s
  | some u =>
    match u.queue, u.ring with
    | r :: _, some ring =>
      match s.record r with
      | none => s
      | some rec =>
        ((s.pointAt p k c).modRecord r fun rec => { rec with state := .landing }).startJob p
          (.landing c (s.entry c).generation r ring.writeIndex) (landingWrites s.pool.segments rec u.terms.cls ring ring.writeIndex)
    | _, _ => s

/-- LANDING_JOB_START: an IDLE Port Writer of an ATTACHED port with no due signal and no requested flush starts a landing on the channel it
chooses; with no such work it stays as it is (R76, R77, R79). -/
def execLandingJobStart (p : PortId) (s : State) : Host.Outcome State Fault Refusal :=
  .next <|
    if s.mayStart p ∧ (s.nu p).dueVector = none ∧ (s.nu p).flushRequest = false then
      match s.chooseChannel p with
      | none => s
      | some (k, c) => s.startLanding p k c
    else s

/-- LINK_WRITE_OK: the write in flight of the job that the answer names is answered OK (R75). With no such job in flight the answer is not taken. -/
def execLinkWriteOk (a : LinkAnswer) (s : State) : Host.Outcome State Fault Refusal :=
  .next <|
    match (s.writer a.port).jobNamed a.job with
    | none => s
    | some j => s.answerOk a.port j

/-- The job whose last write the answer answers, if there is one (R75). -/
def Writer.lastWriteOf (w : Writer) (job : Nat) : Option JobKind :=
  match w.jobNamed job with
  | none => none
  | some j => if j.writes.length ≤ 1 then some j.kind else none

/-- LANDING_COMPLETION: the last write of a landing is answered OK (R82). Otherwise there is no such completion to take. -/
def execLandingCompletion (a : LinkAnswer) (s : State) : Host.Outcome State Fault Refusal :=
  .next <|
    match (s.writer a.port).lastWriteOf a.job with
    | some (.landing c g r i) => s.completeJob a.port (.landing c g r i)
    | _ => s

/-- The failure of the write in flight of the job that the answer names, by ERROR (R75, R85). -/
def State.answerError (s : State) (p : PortId) (job : Nat) : State :=
  match (s.writer p).jobNamed job with
  | none => s
  | some j => s.failJob p .busError j

/-- The write in flight is unanswered for 64 µs (R75). -/
def State.timeOut (s : State) (p : PortId) : State :=
  match (s.writer p).state with
  | .stopped => s
  | .idle => s
  | .busy job => if job.timeout.expired then s.failJob p .timeout job else s

/-- LINK_WRITE_ERROR: the write in flight of the job that the answer names is answered ERROR, and the job fails with BUS_ERROR (R75, R85). With no such job in
flight the answer is not taken. The operand says whether the port state machine takes the failure handed to it in this step (R157), or in a later one, so that a
request which arrived with the failure is taken between (R51; log 27). -/
def execLinkWriteError (e : LinkError) (s : State) : Host.Outcome State Fault Refusal :=
  .next (if e.taken then (s.answerError e.port e.job).takeFault e.port else s.answerError e.port e.job)

/-- WRITE_TIMEOUT: the write in flight is unanswered for 64 µs, and its job fails with TIMEOUT (R75). Before that, and with no write in flight,
there is no expiry to take. The port state machine takes the failure as for LINK_WRITE_ERROR (log 27). -/
def execWriteTimeout (e : LinkTimeout) (s : State) : Host.Outcome State Fault Refusal :=
  .next (if e.taken then (s.timeOut e.port).takeFault e.port else s.timeOut e.port)

end Sys2Proof.Machine
end

