-- ==== Sys2Proof/Machine/Credit.lean ====
section
/-! DEFINITION. Credit words and the LAND command (05). -/

namespace Sys2Proof.Machine

/-- The CHC takes a credit write on the entry: accepted up to the write index, answered by CREDIT_RANGE beyond it (R91). A value equal to the read index is
written to the credit word too, as the first sentence of R91's acceptance has it, also where the word held another value; the second says that such a write changes
nothing (log 29, DESIGN CHOICE). -/
def State.takeCredit (s : State) (p : PortId) (i : SlotId) (c : ChannelId) (ring : Ring) (new : Half) : State :=
  if (new - ring.readIndex).toNat ≤ (ring.writeIndex - ring.readIndex).toNat then
    (s.modUse c fun u => { u with ring := u.ring.map fun r => { r with readIndex := new } }).modPiu p fun u =>
      { u with credit := u.credit.write i new }
  else s.event p .creditRange 0 (BitVec.ofNat 8 i.val) new (some i)

/-- A write of a credit word: presented when the slot is bound and the channel's ring is ARMED, discarded otherwise (R90, R91). -/
def State.creditWrite (s : State) (p : PortId) (i : SlotId) (w : Word) : State :=
  if s.windowClosed p then s
  else
    match s.boundTo .consumer ⟨p, i⟩ with
    | none => s
    | some c =>
      match (s.use c).bind fun u => u.ring with
      | none => s
      | some ring => if ring.armed then s.takeCredit p i c ring (BitVec.ofNat 16 (bits w 15 0)) else s

/-- CREDIT_WRITE (R90, R91). -/
def execCreditWrite (p : PortId) (i : SlotId) (w : Word) (s : State) : Host.Outcome State Fault Refusal :=
  .next (s.creditWrite p i w)

/-- Tests 4 to 8 of R93, in order. -/
def landRefusal (p : PortId) (u : Use) (r : RingArgs) : Option Status :=
  if ¬ u.consumedBy p then some .badChannel
  else if u.stage = .ending then some .closed
  else if u.stage ≠ .opened ∧ u.stage ≠ .closing then some .badState
  else if u.ring.any (fun x => x.armed) then some .badState
  else if ¬ ringOk r then some .badArg
  else if ¬ ringFits r u.terms.maxLength then some .ringTooSmall
  else none

/-- A LAND that passes every test arms the fresh ring (R94). -/
def landTake (s : State) (p : PortId) (c : ChannelId) (u : Use) (r : RingArgs) : State :=
  ((((s.modUse c fun u => { u with ring := some (r.ring true) }).modPiu p fun x =>
      match u.consumer with
      | none => x
      | some q => { x with credit := x.credit.write q.slot 0 }).handWriteIndex u.consumer 0).tellParty u.producer .consumerBack 0 c
        (generationDetail (s.entry c).generation)).complete p .done (resultWords u.queue.length 0 0 0)

/-- LAND past the slot's tests (R93, R94). -/
def landBody (p : PortId) (s : State) : State :=
  let w := s.args p
  match entryNamed s (channelArg w) (generationArg w) with
  | .error st => s.refuse p st
  | .ok (c, u) =>
    match landRefusal p u (ringArgs w) with
    | some st => s.refuse p st
    | none => landTake s p c u (ringArgs w)

/-- LAND: a write of the command word with kind LAND (R93, R94). -/
def execLand (p : PortId) (notify : Bool) (s : State) : Host.Outcome State Fault Refusal :=
  .next (s.takeCommand p (kindOf .land) notify (landBody p))

end Sys2Proof.Machine
end

