-- ==== Sys2Proof/Machine/Confirmation.lean ====
section
/-! DEFINITION. CONFIRM and the requeue of a retained or faulted consumer (06). -/

namespace Sys2Proof.Machine

/-- The unconfirmed list split after the record that carries a sequence: the records up to and including it, and those that remain; none when no
record carries it (R99, R100). -/
def Pool.splitAt (pool : Pool) (sequence : Half) : List RecordId → Option (List RecordId × List RecordId)
  | [] => none
  | r :: rs =>
    if (pool.records.read r).any (fun rec => rec.sequence = sequence) then some ([r], rs)
    else (Pool.splitAt pool sequence rs).map fun x => (r :: x.1, x.2)

/-- Tests 2 to 5 of Table 6-1. -/
def confirmEntry (s : State) (p : PortId) (channel : Nat) : Except Status (ChannelId × Use) :=
  match channelOf channel with
  | none => .error .badArg
  | some c =>
    match s.use c with
    | none => .error .badChannel
    | some u =>
      if ¬ u.consumedBy p ∨ ¬ (u.stage = .opened ∨ u.stage = .closing ∨ u.stage = .ending) then .error .badChannel
      else if u.stage = .ending then .error .closed
      else if ¬ u.terms.cls.isConfirmed then .error .badChannel
      else .ok (c, u)

/-- The release of confirmed records: one free, the held count's fall, the receipt, the release or drain check (R100). -/
def State.confirmRelease (s : State) (c : ChannelId) (u : Use) (sequence : Half) (released rest : List RecordId) : State :=
  (((s.dropRecords c released).modUse c fun u => { u with unconfirmed := rest }).handReceipt u.producer sequence).checkAfterFall c

/-- CONFIRM past the slot's tests (R99, R100). -/
def confirmBody (p : PortId) (s : State) : State :=
  let w := s.args p
  match confirmEntry s p (channelArg w) with
  | .error st => s.refuse p st
  | .ok (c, u) =>
    match s.pool.splitAt (sequenceArg w) u.unconfirmed with
    | none => s.refuse p .confirmRange
    | some (released, rest) =>
      (s.confirmRelease c u (sequenceArg w) released rest).complete p .done (resultWords released.length rest.length 0 0)

/-- CONFIRM: a write of the command word with kind CONFIRM (R99, R100). -/
def execConfirm (p : PortId) (notify : Bool) (s : State) : Host.Outcome State Fault Refusal :=
  .next (s.takeCommand p (kindOf .confirm) notify (confirmBody p))

/-- Each record becomes QUEUED with replay yes (R104). -/
def State.markReplay (s : State) : List RecordId → State
  | [] => s
  | r :: rs => (s.modRecord r fun rec => { rec with state := .queued, replay := true }).markReplay rs

/-- The requeue of an OPEN or CLOSING entry: the unconfirmed list moves to the front of the message queue as replays, the ring is disarmed, and
CONSUMER_AWAY goes to the producer when it was ARMED (R104). -/
def State.requeueEntry (s : State) (c : ChannelId) (u : Use) : State :=
  let moved := (s.markReplay u.unconfirmed).modUse c fun u => { u with
    queue := u.unconfirmed ++ u.queue
    unconfirmed := []
    ring := u.ring.map fun r => { r with armed := false } }
  if u.ring.any fun r => r.armed then moved.tellParty u.producer .consumerAway 0 c (generationDetail (s.entry c).generation) else moved

/-- A retain or fault of a port acts by the entry's state and the port's role (R103, R151): only an OPEN or CLOSING entry of which it is the consumer is
changed. -/
def State.requeueOn (s : State) (p : PortId) (c : ChannelId) : State :=
  match s.use c with
  | none => s
  | some u => if u.consumedBy p ∧ (u.stage = .opened ∨ u.stage = .closing) then s.requeueEntry c u else s

/-- REQUEUE: the entry takes the port's retain or fault, when it is still owed one (R103, R104, R148, R151, R157). -/
def execRequeue (p : PortId) (c : ChannelId) (s : State) : Host.Outcome State Fault Refusal :=
  .next <|
    if (s.port p).requeueOwed.contains c then
      (s.modPort p fun b => { b with requeueOwed := b.requeueOwed.erase c }).requeueOn p c
    else s

end Sys2Proof.Machine
end

