-- ==== Sys2Proof/Machine/HoldResume.lean ====
section
/-! DEFINITION. Pool holds, pool retests and the hold timer's expiry (07). -/

namespace Sys2Proof.Machine

/-- The pool's entry into LOW taken on one entry: an OPEN FLOWING channel above its release mark is held with reason POOL (R112). -/
def State.poolHoldOn (s : State) (c : ChannelId) : State :=
  match s.use c with
  | none => s
  | some u => if u.stage = .opened ∧ u.hold = none ∧ u.terms.releaseMark < u.held then s.enterHold c .pool else s

/-- POOL_HOLD_REQUEST: taken when the entry is still owed the request of an entry into LOW (R112, R113). -/
def execPoolHoldRequest (c : ChannelId) (s : State) : Host.Outcome State Fault Refusal :=
  .next (if s.holdOwed.contains c then (s.takeHoldOwed c).poolHoldOn c else s)

/-- The pool state that a retest of the entry sees: an entry into LOW that the entry has not yet taken as a pool hold request has not reached it, so
the retest sees NORMAL (R116; log 10). -/
def State.levelSeen (s : State) (c : ChannelId) : PoolLevel := if s.holdOwed.contains c then .normal else s.pool.level

/-- POOL_RETEST: the pool's return to NORMAL taken on one entry, when it is still owed: the release check with the pool state that the retest sees
(R116). -/
def execPoolRetest (c : ChannelId) (s : State) : Host.Outcome State Fault Refusal :=
  .next (if s.retestOwed.contains c then (s.takeRetestOwed c).releaseCheckAt (s.levelSeen c) c else s)

/-- The expiry of the hold timer: release by expiry below the hold mark with the pool NORMAL, renewal in every other case (R118). An expiry taken before a fall
of the held count that crosses the hold mark, but not the release mark, renews the hold, and one taken after the fall ends it, while R121 says that both orders end in the
same hold state (log 32, DESIGN CHOICE). -/
def State.expireHold (s : State) (c : ChannelId) (u : Use) : State :=
  if u.held < u.terms.holdMark ∧ s.pool.level = .normal then s.endHold c true else s.renewHold c

/-- HOLD_TIMER_EXPIRY: taken while the entry is OPEN and HELD and its timer has run out; otherwise the timer was stopped and the expiry is not taken
(R110, R117, R118). -/
def execHoldTimerExpiry (c : ChannelId) (s : State) : Host.Outcome State Fault Refusal :=
  .next <|
    match s.use c with
    | none => s
    | some u =>
      if u.stage = .opened ∧ u.hold.any (fun h => h.timer.expired) then s.expireHold c u else s

end Sys2Proof.Machine
end

