-- ==== Sys2Proof/Machine/Notices.lean ====
section
/-! DEFINITION. Vectors and flushes: SET_VECTOR, re-arm, event read index, delay expiry, flush and signal jobs (08). -/

namespace Sys2Proof.Machine

/-! ## SET_VECTOR -/

/-- The ranges of SET_VECTOR's arguments (R141). -/
def VectorArgs.inRange (a : VectorArgs) (g : Grant) : Bool :=
  a.vector < g.count && a.mode ≤ 2 && (a.mode ≠ 1 || a.vector = 0) && (1 ≤ a.threshold && a.threshold ≤ 255)
    && (1 ≤ a.delay && a.delay ≤ 65535) && (a.mode ≠ 2 || a.address.toNat % 4 = 0)

/-- Steps 1, 3 and 4 of R141 on the vector. Mode OFF keeps the target it had (log 15, DESIGN CHOICE). -/
def Coalescer.set (c : Coalescer) (a : VectorArgs) : Coalescer :=
  { c with
    threshold := a.threshold
    delay := a.delay
    target := if a.mode = 1 then .line else if a.mode = 2 then .message a.address a.data else c.target
    state := if a.mode = 0 then .off else if c.due then .signalled else .armed
    due := if a.mode = 0 then false else c.due
    owed := false }

/-- Step 2 of R141: PnIRQ is deasserted when vector 0 is left in any state other than SIGNALLED with the LINE target. -/
def Nu.settleLine (nu : Nu) : Nu :=
  { nu with irq := nu.irq && ((nu.vectors.read 0).state = .signalled && (nu.vectors.read 0).target = .line) }

/-- An accepted SET_VECTOR (R141). -/
def Nu.setVector (nu : Nu) (a : VectorArgs) : Nu :=
  let v : VectorId := Fin.ofNat 4 a.vector
  let nu1 := nu.modVector v fun c => c.set a
  (if v = 0 then nu1.settleLine else nu1).fireIfDue v

/-- SET_VECTOR past the slot's tests (R141). -/
def setVectorBody (p : PortId) (s : State) : State :=
  let a := vectorArgs (s.args p)
  if a.inRange (s.nu p).grant then (s.modNu p fun nu => nu.setVector a).finish p else s.refuse p .badArg

/-- SET_VECTOR: a write of the command word with kind SET_VECTOR (R141). -/
def execSetVector (p : PortId) (notify : Bool) (s : State) : Host.Outcome State Fault Refusal :=
  .next (s.takeCommand p (kindOf .setVector) notify (setVectorBody p))

/-! ## Re-arm -/

/-- A re-arm of a vector that is not OFF and has no signal on its way (R140). -/
def Nu.rearm (nu : Nu) (v : VectorId) (tag : Byte) : Nu :=
  let c := nu.vectors.read v
  let nu1 := if v = 0 ∧ c.target = .line then { nu with irq := false } else nu
  if tag = nu.tag ∧ c.owed = false then nu1.modVector v fun c => { c with state := .armed }
  else nu1.modVector v fun c => { c with state := .signalled, due := true, owed := false }

/-- A write of a re-arm word: taken on an ATTACHED port for a vector below G that is not OFF and has no signal due; discarded otherwise
(R140). -/
def State.rearmWrite (s : State) (p : PortId) (v : VectorId) (w : Word) : State :=
  if s.windowClosed p then s
  else if s.attached p ∧ v.val < (s.nu p).grant.count ∧ ((s.nu p).vectors.read v).state ≠ .off ∧ ((s.nu p).vectors.read v).due = false then
    s.modNu p fun nu => nu.rearm v (BitVec.ofNat 8 (bits w 7 0))
  else s

/-- REARM (R140). -/
def execRearm (p : PortId) (v : VectorId) (w : Word) (s : State) : Host.Outcome State Fault Refusal :=
  .next (s.rearmWrite p v w)

/-! ## The event read index -/

/-- The Notice Unit takes a read index: accepted up to the write index, and then counted toward vector 0 when it moved with events waiting;
ignored beyond it (R130). -/
def State.takeReadIndex (s : State) (p : PortId) (new : Byte) : State :=
  let old := (s.piu p).eventRead
  if (new - old).toNat ≤ ((s.nu p).eventWrite - old).toNat then
    let s' := s.modPiu p fun u => { u with eventRead := new }
    if new ≠ old ∧ (s.nu p).backlog ≠ [] then s'.countVector p 0 else s'
  else s

/-- A write of the event read index word; ignored on a DETACHED port (R130). -/
def State.eventReadWrite (s : State) (p : PortId) (w : Word) : State :=
  if s.windowClosed p then s
  else if (s.piu p).state = .detached then s
  else s.takeReadIndex p (BitVec.ofNat 8 (bits w 7 0))

/-- EVENT_READ_INDEX_WRITE (R130). -/
def execEventReadIndexWrite (p : PortId) (w : Word) (s : State) : Host.Outcome State Fault Refusal :=
  .next (s.eventReadWrite p w)

/-! ## The delay timer -/

/-- COALESCING_DELAY_EXPIRY: a delay timer that has run out with the fired mark clear fires its vector; a stopped timer has no expiry to take
(R133, R134). -/
def execCoalescingDelayExpiry (p : PortId) (v : VectorId) (s : State) : Host.Outcome State Fault Refusal :=
  .next <|
    if ((s.nu p).vectors.read v).fired = false ∧ ((s.nu p).vectors.read v).timer.any (fun t => t.expired) then s.modNu p fun nu => nu.fire v
    else s

/-! ## Flush jobs -/

/-- FLUSH_JOB_START: an IDLE Port Writer of an ATTACHED port with no due signal takes the flush request, and what the flush carries is fixed
(R76, R135); with no such work it stays as it is. -/
def execFlushJobStart (p : PortId) (s : State) : Host.Outcome State Fault Refusal :=
  .next <|
    if s.mayStart p ∧ (s.nu p).dueVector = none ∧ (s.nu p).flushRequest = true then
      let nu := s.nu p
      let n := flushCount nu (s.piu p).eventRead
      (s.modNu p Nu.startFlush).startJob p (.flush n (nu.tag + 1) nu.firedVectors) (flushWrites nu (s.pool.level = .low) n)
    else s

/-- FLUSH_COMPLETION: the header write of a flush is answered OK (R136). Otherwise there is no such completion to take. -/
def execFlushCompletion (a : LinkAnswer) (s : State) : Host.Outcome State Fault Refusal :=
  .next <|
    match (s.writer a.port).lastWriteOf a.job with
    | some (.flush n tag vs) => s.completeJob a.port (.flush n tag vs)
    | _ => s

/-! ## Signal jobs -/

/-- A signal job for vector `v`: a LINE job asserts PnIRQ and completes at once, a MESSAGE job writes the data word (R138). -/
def State.startSignal (s : State) (p : PortId) (v : VectorId) : State :=
  match ((s.nu p).vectors.read v).target with
  | .noTarget => s.modNu p fun nu => nu.completeSignal v
  | .line => s.modNu p fun nu => { nu.completeSignal v with irq := true }
  | .message a d => s.startJob p (.signal v) [⟨a, d⟩]

/-- SIGNAL_JOB_START: an IDLE Port Writer of an ATTACHED port takes the lowest-numbered due signal (R76, R138); with none due it stays as it
is. -/
def execSignalJobStart (p : PortId) (s : State) : Host.Outcome State Fault Refusal :=
  .next <|
    if s.mayStart p then
      match (s.nu p).dueVector with
      | none => s
      | some v => s.startSignal p v
    else s

/-- SIGNAL_COMPLETION: a MESSAGE signal write is answered OK (R138). Otherwise there is no such completion to take. -/
def execSignalCompletion (a : LinkAnswer) (s : State) : Host.Outcome State Fault Refusal :=
  .next <|
    match (s.writer a.port).lastWriteOf a.job with
    | some (.signal v) => s.completeJob a.port (.signal v)
    | _ => s

end Sys2Proof.Machine
end

