-- ==== Sys2Proof/Machine/PortLife.lean ====
section
/-! DEFINITION. Attachment, detachment, resets (09, 11). -/

namespace Sys2Proof.Machine

/-! ## ATTACH -/

/-- An ATTACH that passes its tests (R145, R146, R142). Requests the port's departure left on entries it does not reach are gone (log 9). -/
def attachTake (s : State) (p : PortId) (base : Word) (g : Grant) (line : Bool) : State :=
  let again := (s.piu p).state ≠ .detached
  let s1 := ((s.modPiu p fun u => { u with state := .attached, retainedLast := false, eventRead := 0 }).modWriter p fun w =>
    { w with state := .idle }).modNu p fun nu => nu.attach base g line
  (s1.modPort p fun b => { b with flushOwed := [], requeueOwed := [] }).complete p .done
    (resultWords (flag again) (s.nu p).backlog.length 0 0)

/-- ATTACH past the slot's tests (R145). -/
def attachBody (p : PortId) (s : State) : State :=
  let w := s.args p
  let mode := bits (w.read 1) 15 8
  if s.requestsOutstanding p then s.refuse p .badState
  else if (w.read 0).toNat % 1024 ≠ 0 ∨ 1 < mode then s.refuse p .badArg
  else
    match grantOf (bits (w.read 1) 7 0) with
    | none => s.refuse p .badArg
    | some g => attachTake s p (w.read 0) g (mode = 1)

/-- ATTACH: a write of the command word with kind ATTACH (R145, R146). -/
def execAttach (p : PortId) (notify : Bool) (s : State) : Host.Outcome State Fault Refusal :=
  .next (s.takeCommand p (kindOf .attach) notify (attachBody p))

/-! ## DETACH and the retain-armed flag -/

/-- A DETACH taken according to the port state (R147). -/
def detachByState (s : State) (p : PortId) (mode : DetachMode) : State :=
  match (s.piu p).state with
  | .attached => ((s.modPiu p fun u => { u with leaveMode := some mode }).departAttached p .quiescing).settle p
  | .retained =>
    match mode with
    | .retain => s.finish p
    | .flush => s.quiesceEnd p .flush
  | .faulted => s.quiesceEnd p mode
  | .detached => s.refuse p .badState
  | .quiescing => s.refuse p .badState

/-- A DETACH, a failure handed to the port state machine taken before it (R147, R158). -/
def detachTake (s : State) (p : PortId) (mode : DetachMode) : State := detachByState (s.takeFault p) p mode

/-- DETACH past the slot's tests (R147). -/
def detachBody (p : PortId) (s : State) : State :=
  match detachModeOf (bits ((s.args p).read 0) 7 0) with
  | none => s.refuse p .badArg
  | some mode => detachTake s p mode

/-- DETACH: a write of the command word with kind DETACH (R147). -/
def execDetach (p : PortId) (notify : Bool) (s : State) : Host.Outcome State Fault Refusal :=
  .next (s.takeCommand p (kindOf .detach) notify (detachBody p))

/-- The retain-armed flag set or cleared, with DONE (R153). -/
def retainBody (armed : Bool) (p : PortId) (s : State) : State := (s.modPiu p fun u => { u with retainArmed := armed }).finish p

/-- ARM_RETAIN (R153). -/
def execArmRetain (p : PortId) (notify : Bool) (s : State) : Host.Outcome State Fault Refusal :=
  .next (s.takeCommand p (kindOf .armRetain) notify (retainBody true p))

/-- DISARM_RETAIN (R153). -/
def execDisarmRetain (p : PortId) (notify : Bool) (s : State) : Host.Outcome State Fault Refusal :=
  .next (s.takeCommand p (kindOf .disarmRetain) notify (retainBody false p))

/-- QUIESCE_END: the quiesce of a port ends when its Port Writer holds no job and PnRST_n is deasserted; while it still waits, and on a port with
no detach decided, nothing is taken (R148). The arrivals that fulfil the condition end the quiesce in their own step (log 8, DEDUCED). -/
def execQuiesceEnd (p : PortId) (s : State) : Host.Outcome State Fault Refusal := .next (s.settle p)

/-! ## A FLUSH detachment on one entry -/

/-- The consumer leaves an OPEN entry by FLUSH: its records are discarded, its slot is released, the ring goes, and the entry becomes ORPHANED
(R149). -/
def State.orphanEntry (s : State) (c : ChannelId) (u : Use) : State :=
  (((((s.dropRecords c (u.unconfirmed ++ u.queue)).modUse c fun u => { u with
      queue := []
      unconfirmed := []
      consumer := none
      ring := none }).unbindConsumer u.consumer).leaveOpen c .orphaned)).tellParty u.producer .orphaned 0 c
    (generationDetail (s.entry c).generation)

/-- The consumer leaves a CLOSING entry by FLUSH: its records are discarded, PEER_CLOSED goes to the producer, and the entry becomes FREE
(R149). -/
def State.discardClosing (s : State) (c : ChannelId) (u : Use) : State :=
  (((s.dropRecords c (u.unconfirmed ++ u.queue)).modUse c fun u => { u with queue := [], unconfirmed := [] }).tellPeerClosed c u false).freeEntry c

/-- A FLUSH detachment of port `p` on an entry of which it is a party (R149, R150). An empty OPEN entry becomes FREE as R150 says, also when a RETAIN of its consumer
was taken on it before, for which R152 says CLOSING (log 24, DESIGN CHOICE). -/
def State.detachOn (s : State) (p : PortId) (c : ChannelId) (u : Use) : State :=
  match u.stage with
  | .offered o => if o.offeror = p then s.withdrawOffer c o else s.declineOffer c
  | .opened => if u.consumedBy p then s.orphanEntry c u else (s.leaveOpen c .closing).drainCheck c
  | .closing => if u.consumedBy p then s.discardClosing c u else s
  | .ending => s
  | .orphaned => s.freeEntry c

/-- DETACHMENT_ON_ENTRY: the entry takes the port's FLUSH detachment, when it is still owed and the port is still a party (R148 to R150). -/
def execDetachmentOnEntry (p : PortId) (c : ChannelId) (s : State) : Host.Outcome State Fault Refusal :=
  .next <|
    if (s.port p).flushOwed.contains c then
      let s' := s.modPort p fun b => { b with flushOwed := b.flushOwed.erase c }
      match s'.use c with
      | none => s'
      | some u => if u.isParty p then s'.detachOn p c u else s'
    else s

/-! ## Port reset -/

/-- What every port reset clears: the command slot, the compose buffer, COMPOSE_CLOBBERED, the credit values and retain-armed (R154, R156). -/
def Piu.clear (u : Piu) : Piu :=
  { u with slot := CommandSlot.reset, compose := [], clobbered := false, credit := Table.fill 16 0, retainArmed := false }

/-- The mode of the detach that a port reset makes (R153). -/
def Piu.resetMode (u : Piu) : DetachMode := if u.retainArmed then .retain else .flush

/-- Steps 2 to 4 of R154: the copy in flight is abandoned, the Port Writer's job is ended, and the slot, buffer and credit values are
cleared. -/
def State.resetPortWork (s : State) (p : PortId) : State := (((s.abandonCopy p).endJob p).modPiu p Piu.clear)

/-- A port reset, by port state: it quiesces an ATTACHED port, redecides the mode of a QUIESCING one, decides what a FAULTED one becomes, and leaves the
state of a RETAINED or DETACHED one (R154 to R156). -/
def State.resetByState (s : State) (p : PortId) : State :=
  let decided := some (s.piu p).resetMode
  match (s.piu p).state with
  | .attached => ((s.modPiu p fun u => { u with leaveMode := decided }).departAttached p .quiescing).resetPortWork p
  | .quiescing => (s.modPiu p fun u => { u with leaveMode := decided }).resetPortWork p
  | .faulted => (s.modPiu p fun u => { u with leaveMode := decided }).resetPortWork p
  | .retained => s.resetPortWork p
  | .detached => s.resetPortWork p

/-- A port reset, a failure handed to the port state machine taken before it (R154, R158). -/
def State.takePortReset (s : State) (p : PortId) : State := (s.takeFault p).resetByState p

/-- PORT_RESET: the assertion of PnRST_n. While RESET_n is asserted only the level is seen; an assertion while PnRST_n is already asserted is not a
port reset (R154, R176). -/
def execPortReset (p : PortId) (s : State) : Host.Outcome State Fault Refusal :=
  .next <|
    if s.resetPin then s.modPiu p fun u => { u with resetPin := true }
    else if (s.piu p).resetPin then s
    else (s.modPiu p fun u => { u with resetPin := true }).takePortReset p

/-- PORT_RESET_RELEASE: the deassertion of PnRST_n. A quiesce, or a FAULTED port's change, that waited for it ends (R148, R156, R176). -/
def execPortResetRelease (p : PortId) (s : State) : Host.Outcome State Fault Refusal :=
  .next <|
    if s.resetPin then s.modPiu p fun u => { u with resetPin := false }
    else if (s.piu p).resetPin then (s.modPiu p fun u => { u with resetPin := false }).settle p
    else s

/-! ## Device reset -/

/-- The blocks of a port after device reset; the level of PnRST_n is the pin's own, and the numbers of jobs go on, so that an answer to a write of an ended job names
none (R75). -/
def Port.resetWith (pin : Bool) (jobs : Nat) : Port :=
  { Port.reset with piu := { Piu.reset with resetPin := pin }, writer := { Writer.reset with jobs := jobs } }

/-- DEVICE_RESET: every block takes its device-reset values, and all work in flight ends without effect (R17, R33, R72, R95, R143, R169, R176). -/
def execDeviceReset (s : State) : Host.Outcome State Fault Refusal :=
  .next
    { State.reset with
      pending := s.pending
      resetPin := true
      ports := Table.build fun p => Port.resetWith (s.piu p).resetPin (s.writer p).jobs
      onTick := s.onTick
      freeIndex := s.freeIndex }

/-- A PnRST_n found asserted at the deassertion of RESET_n is taken as a port reset (R176). -/
def State.takeHeldResets (s : State) : List PortId → State
  | [] => s
  | p :: ps => (if (s.piu p).resetPin then s.takePortReset p else s).takeHeldResets ps

/-- DEVICE_RESET_RELEASE: the deassertion of RESET_n (R176). -/
def execDeviceResetRelease (s : State) : Host.Outcome State Fault Refusal :=
  .next (if s.resetPin then { s with resetPin := false }.takeHeldResets allPorts else s)

end Sys2Proof.Machine
end

