-- ==== Sys2Proof/Machine/Window.lean ====
section
/-! DEFINITION. QUERY and READ_COUNTERS, command words of any kind, and the window: writes of any word and reads (10, 11). -/

namespace Sys2Proof.Machine

/-! ## QUERY and READ_COUNTERS -/

/-- The entry a reading command names: BAD_ARG for a channel above 63 or a page above `last`, BAD_CHANNEL for a port that is no party
(R167, R168). -/
def readEntry (s : State) (p : PortId) (channel page last : Nat) : Except Status (ChannelId × Use) :=
  match channelOf channel with
  | none => .error .badArg
  | some c =>
    if last < page then .error .badArg
    else
      match s.use c with
      | none => .error .badChannel
      | some u => if u.isParty p then .ok (c, u) else .error .badChannel

/-- A page of QUERY (Table 10-4). -/
def queryPage (g : Byte) (u : Use) (page : Nat) : Table Word 4 :=
  if page = 0 then queryState g u else if page = 1 then queryRing u else queryTerms u

/-- QUERY past the slot's tests (R167). -/
def queryBody (p : PortId) (s : State) : State :=
  let w := s.args p
  match readEntry s p (channelArg w) (pageArg w) 2 with
  | .error st => s.refuse p st
  | .ok (c, u) => s.complete p .done (queryPage (s.entry c).generation u (pageArg w))

/-- QUERY: a write of the command word with kind QUERY (R167). -/
def execQuery (p : PortId) (notify : Bool) (s : State) : Host.Outcome State Fault Refusal :=
  .next (s.takeCommand p (kindOf .query) notify (queryBody p))

/-- The counters of a group (R168). -/
def Counters.group (k : Counters) (group : Nat) : Table Word 4 :=
  if group = 0 then #v[k.postsAccepted, k.refusedHold, k.refusedOther, k.landed] else #v[k.replayed, k.holdsEntered, k.renewals, 0]

/-- The counters of a group set to zero (R168). -/
def Counters.clearGroup (k : Counters) (group : Nat) : Counters :=
  if group = 0 then { k with postsAccepted := 0, refusedHold := 0, refusedOther := 0, landed := 0 }
  else { k with replayed := 0, holdsEntered := 0, renewals := 0 }

/-- READ_COUNTERS past the slot's tests (R168). -/
def readCountersBody (p : PortId) (s : State) : State :=
  let w := s.args p
  match readEntry s p (channelArg w) (pageArg w) 1 with
  | .error st => s.refuse p st
  | .ok (c, _) =>
    (if clearArg w then s.modCounters c fun k => k.clearGroup (pageArg w) else s).complete p .done ((s.entry c).counters.group (pageArg w))

/-- READ_COUNTERS: a write of the command word with kind READ_COUNTERS (R168). -/
def execReadCounters (p : PortId) (notify : Bool) (s : State) : Host.Outcome State Fault Refusal :=
  .next (s.takeCommand p (kindOf .readCounters) notify (readCountersBody p))

/-! ## Command words -/

/-- What the block that owns a command does (R162 step 3). -/
def commandBody (p : PortId) : Command → State → State
  | .offer => offerBody p
  | .accept => acceptBody p
  | .decline => declineBody p
  | .close => closeBody p
  | .post => postBody p
  | .land => landBody p
  | .confirm => confirmBody p
  | .query => queryBody p
  | .readCounters => readCountersBody p
  | .setVector => setVectorBody p
  | .attach => attachBody p
  | .detach => detachBody p
  | .armRetain => retainBody true p
  | .disarmRetain => retainBody false p

/-- The body of the command a kind names; a kind that names none has no body (it is refused before). -/
def kindBody (p : PortId) (kind : Byte) (s : State) : State :=
  match commandOfKind kind.toNat with
  | none => s
  | some c => commandBody p c s

/-- A write of the command word with any kind (R162, R163). -/
def State.commandWordWrite (s : State) (p : PortId) (kind : Byte) (notify : Bool) : State := s.takeCommand p kind notify (kindBody p kind)

/-- BAD_COMMAND: a write of the command word with a kind that is none of the fourteen (R162). -/
def execBadCommand (p : PortId) (kind : Byte) (notify : Bool) (s : State) : Host.Outcome State Fault Refusal :=
  .next (s.commandWordWrite p kind notify)

/-- CMD_OVERRUN: a write of the command word while the slot is BUSY is discarded and sets CMD_OVERRUN (R163). A write that finds the slot IDLE is no
overrun: it takes the command of its kind (R163, log 11). -/
def execCmdOverrun (p : PortId) (kind : Byte) (notify : Bool) (s : State) : Host.Outcome State Fault Refusal :=
  .next (s.commandWordWrite p kind notify)

/-! ## Window writes -/

/-- A write of an argument word is stored, whether the slot is IDLE or BUSY (R161). -/
def State.argumentWrite (s : State) (p : PortId) (k : Fin 8) (w : Word) : State :=
  if s.windowClosed p then s
  else s.modPiu p fun u => { u with slot := { u.slot with arguments := u.slot.arguments.write k w } }

/-- A window write of any size at any offset: an aligned word write acts as its word's rule gives, every other write is discarded
(R170). -/
def State.windowWrite (s : State) (p : PortId) (size : AccessSize) (offset : BitVec 13) (w : Word) : State :=
  match windowTarget size offset with
  | .compose k => s.composeWrite p k w
  | .command => s.commandWordWrite p (BitVec.ofNat 8 (bits w 7 0)) (bit w 8)
  | .status => s
  | .result _ => s
  | .argument k => s.argumentWrite p k w
  | .credit i => s.creditWrite p i w
  | .eventRead => s.eventReadWrite p w
  | .rearm v => s.rearmWrite p v w
  | .portStatus => s
  | .faultAddress => s
  | .portNumber => s
  | .unmapped => s

/-- WINDOW_WRITE (R170). -/
def execWindowWrite (p : PortId) (size : AccessSize) (offset : BitVec 13) (w : Word) (s : State) : Host.Outcome State Fault Refusal :=
  .next (s.windowWrite p size offset w)

/-! ## Window reads -/

/-- The word of a window word (Table 11-1). -/
def State.windowWord (s : State) (p : PortId) : WindowTarget → Word
  | .compose k => (s.piu p).compose.readWord (4 * k.val)
  | .command => commandWord (s.piu p).slot
  | .status => responseWord (s.piu p).slot
  | .result k => (s.piu p).slot.results.read k
  | .argument k => (s.piu p).slot.arguments.read k
  | .credit i => BitVec.ofNat 32 ((s.piu p).credit.read i).toNat
  | .eventRead => BitVec.ofNat 32 (s.piu p).eventRead.toNat
  | .rearm _ => 0
  | .portStatus => portStatusWord (s.port p) (s.pool.level = .low)
  | .faultAddress => (s.writer p).faultAddress
  | .portNumber => BitVec.ofNat 32 p.val
  | .unmapped => 0

/-- What a window read returns (R170): the word at an aligned mapped offset; zero for every other access and while RESET_n is asserted. A read changes
nothing, so it is no command (log 16). -/
def State.windowRead (s : State) (p : PortId) (size : AccessSize) (offset : BitVec 13) : Word :=
  if s.resetPin then 0 else s.windowWord p (windowTarget size offset)

end Sys2Proof.Machine
end

