-- ==== Sys2Proof/Machine/Dispatch.lean ====
section
/-! DEFINITION. Dispatch: one arm for each command, one direct call of its meaning. -/

namespace Sys2Proof.Machine

def exec (i : Instr) (s : State) : Host.Outcome State Fault Refusal :=
  match i with
  | .offer p n => Sys2Proof.Machine.execOffer p n s
  | .accept p n => Sys2Proof.Machine.execAccept p n s
  | .decline p n => Sys2Proof.Machine.execDecline p n s
  | .close p n => Sys2Proof.Machine.execClose p n s
  | .post p n => Sys2Proof.Machine.execPost p n s
  | .land p n => Sys2Proof.Machine.execLand p n s
  | .confirm p n => Sys2Proof.Machine.execConfirm p n s
  | .query p n => Sys2Proof.Machine.execQuery p n s
  | .readCounters p n => Sys2Proof.Machine.execReadCounters p n s
  | .setVector p n => Sys2Proof.Machine.execSetVector p n s
  | .attach p n => Sys2Proof.Machine.execAttach p n s
  | .detach p n => Sys2Proof.Machine.execDetach p n s
  | .armRetain p n => Sys2Proof.Machine.execArmRetain p n s
  | .disarmRetain p n => Sys2Proof.Machine.execDisarmRetain p n s
  | .badCommand p k n => Sys2Proof.Machine.execBadCommand p k n s
  | .cmdOverrun p k n => Sys2Proof.Machine.execCmdOverrun p k n s
  | .composeBufferWrite p k w => Sys2Proof.Machine.execComposeBufferWrite p k w s
  | .creditWrite p k w => Sys2Proof.Machine.execCreditWrite p k w s
  | .eventReadIndexWrite p w => Sys2Proof.Machine.execEventReadIndexWrite p w s
  | .rearm p v w => Sys2Proof.Machine.execRearm p v w s
  | .windowWrite p z o w => Sys2Proof.Machine.execWindowWrite p z o w s
  | .deviceReset => Sys2Proof.Machine.execDeviceReset s
  | .deviceResetRelease => Sys2Proof.Machine.execDeviceResetRelease s
  | .portReset p => Sys2Proof.Machine.execPortReset p s
  | .portResetRelease p => Sys2Proof.Machine.execPortResetRelease p s
  | .quiesceEnd p => Sys2Proof.Machine.execQuiesceEnd p s
  | .detachmentOnEntry p c => Sys2Proof.Machine.execDetachmentOnEntry p c s
  | .requeue p c => Sys2Proof.Machine.execRequeue p c s
  | .poolHoldRequest c => Sys2Proof.Machine.execPoolHoldRequest c s
  | .poolRetest c => Sys2Proof.Machine.execPoolRetest c s
  | .offerTimerExpiry c => Sys2Proof.Machine.execOfferTimerExpiry c s
  | .holdTimerExpiry c => Sys2Proof.Machine.execHoldTimerExpiry c s
  | .coalescingDelayExpiry p v => Sys2Proof.Machine.execCoalescingDelayExpiry p v s
  | .writeTimeout e => Sys2Proof.Machine.execWriteTimeout e s
  | .copyCompletion p => Sys2Proof.Machine.execCopyCompletion p s
  | .landingJobStart p => Sys2Proof.Machine.execLandingJobStart p s
  | .flushJobStart p => Sys2Proof.Machine.execFlushJobStart p s
  | .signalJobStart p => Sys2Proof.Machine.execSignalJobStart p s
  | .linkWriteOk a => Sys2Proof.Machine.execLinkWriteOk a s
  | .landingCompletion a => Sys2Proof.Machine.execLandingCompletion a s
  | .flushCompletion a => Sys2Proof.Machine.execFlushCompletion a s
  | .signalCompletion a => Sys2Proof.Machine.execSignalCompletion a s
  | .linkWriteError e => Sys2Proof.Machine.execLinkWriteError e s

end Sys2Proof.Machine
end

