-- ==== Sys2Proof/Machine/Time.lean ====
section
/-! DEFINITION. The 1 µs timebase: the phases of a tick, what a tick counts, and the expiries that fall on it (R177, log 1). -/

namespace Sys2Proof.Machine

/-! ## Timers -/

/-- A tick passes for a running timer: it counts once the first tick at or after its start has come (R177). -/
def Timer.tick (t : Timer) : Timer := { t with count := t.count.map fun k => k + 1 }

/-- The timebase goes past a tick: for a timer started on it, or since the tick before, this tick was the first at or after its start (R177). -/
def Timer.pass (t : Timer) : Timer := { t with count := some (t.count.getD 0) }

/-! ## Every running timer -/

/-- A change of the offer timer of an entry. -/
def Stage.mapTimer (f : Timer → Timer) : Stage → Stage
  | .offered o => .offered { o with timer := f o.timer }
  | .opened => .opened
  | .closing => .closing
  | .ending => .ending
  | .orphaned => .orphaned

/-- A change of the offer timer and of the hold timer of an entry. -/
def Use.mapTimers (f : Timer → Timer) (u : Use) : Use :=
  { u with stage := u.stage.mapTimer f, hold := u.hold.map fun h => { h with timer := f h.timer } }

/-- A change of the timeout of the write in flight. -/
def Writer.mapTimer (f : Timer → Timer) (w : Writer) : Writer :=
  { w with
    state :=
      match w.state with
      | .stopped => .stopped
      | .idle => .idle
      | .busy job => .busy { job with timeout := f job.timeout } }

/-- A change of the delay timers of a port. -/
def Nu.mapTimers (f : Timer → Timer) (nu : Nu) : Nu := nu.mapVectors fun c => { c with timer := c.timer.map f }

/-- A change of every running timer of the device. -/
def State.mapTimers (f : Timer → Timer) (s : State) : State :=
  { s with
    entries := Table.build fun c => { s.entry c with use := (s.entry c).use.map fun u => u.mapTimers f }
    ports := Table.build fun p => { s.port p with writer := (s.port p).writer.mapTimer f, nu := (s.port p).nu.mapTimers f } }

/-- The next tick of the 1 µs timebase comes (R177). -/
def State.tick (s : State) : State := { s.mapTimers Timer.tick with onTick := true }

/-- The timebase goes past the tick it stands on (R177). -/
def State.passTick (s : State) : State := { s.mapTimers Timer.pass with onTick := false }

/-! ## What falls on a tick -/

/-- The offer timer of an entry expires. -/
def Use.offerDue (u : Use) : Bool :=
  match u.stage with
  | .offered o => o.timer.expired
  | .opened => false
  | .closing => false
  | .ending => false
  | .orphaned => false

/-- The hold timer of an OPEN entry expires. -/
def Use.holdDue (u : Use) : Bool := u.stage = .opened && u.hold.any fun h => h.timer.expired

/-- The timeout of the write in flight expires. -/
def Writer.timeoutDue (w : Writer) : Bool :=
  match w.state with
  | .stopped => false
  | .idle => false
  | .busy job => job.timeout.expired

/-- The vectors of a port whose delay timers expire. -/
def Nu.delaysDue (nu : Nu) : List VectorId :=
  allVectors.filter fun v => (nu.vectors.read v).fired = false && (nu.vectors.read v).timer.any Timer.expired

/-- What the device has still to take before time goes on, in one fixed order: failures handed to the port state machines, and the expiries of the tick
(log 1). -/
def State.overdue (s : State) : List Instr :=
  (allPorts.filter fun p => (s.piu p).faultHanded).map (fun p => Instr.linkWriteError ⟨p, (s.writer p).jobs, true⟩)
    ++ (allChannels.filter fun c => (s.use c).any Use.offerDue).map Instr.offerTimerExpiry
    ++ (allChannels.filter fun c => (s.use c).any Use.holdDue).map Instr.holdTimerExpiry
    ++ allPorts.flatMap (fun p => (s.nu p).delaysDue.map (Instr.coalescingDelayExpiry p))
    ++ (allPorts.filter fun p => (s.writer p).timeoutDue).map (fun p => Instr.writeTimeout ⟨p, true⟩)

/-- What happens when no command waits: what is overdue is taken before time goes on; then the timebase goes past its tick, or its next tick comes (log 1,
DESIGN CHOICE). -/
def State.passTime (s : State) : State :=
  match s.overdue with
  | [] => if s.onTick then s.passTick else s.tick
  | i :: is => { s with pending := i :: is }

end Sys2Proof.Machine
end

