-- ==== Sys2Proof/WellFormed.lean ====
section
/-! DEFINITION. Which commands are well formed: the row's own condition on its operands. -/

namespace Sys2Proof

/-- A WINDOW_WRITE names argument words, read-only words, unmapped offsets or non-word accesses: the words that are rows of
their own (compose buffer, command word, credit words, event read index, re-arm words) are written by those rows. -/
def plainWindowTarget : WindowTarget → Bool
  | .compose _ => false
  | .command => false
  | .status => true
  | .result _ => true
  | .argument _ => true
  | .credit _ => false
  | .eventRead => false
  | .rearm _ => false
  | .portStatus => true
  | .faultAddress => true
  | .portNumber => true
  | .unmapped => true

/-- The row's condition on its operands: BAD_COMMAND has a kind that is none of the fourteen (R162), WINDOW_WRITE names no word that
is a row of its own (R170). Every other operand is in range by its type. -/
def Instr.WellFormed : Instr → Bool
  | .offer _ _ => true
  | .accept _ _ => true
  | .decline _ _ => true
  | .close _ _ => true
  | .post _ _ => true
  | .land _ _ => true
  | .confirm _ _ => true
  | .query _ _ => true
  | .readCounters _ _ => true
  | .setVector _ _ => true
  | .attach _ _ => true
  | .detach _ _ => true
  | .armRetain _ _ => true
  | .disarmRetain _ _ => true
  | .badCommand _ kind _ => (commandOfKind kind.toNat).isNone
  | .cmdOverrun _ _ _ => true
  | .composeBufferWrite _ _ _ => true
  | .creditWrite _ _ _ => true
  | .eventReadIndexWrite _ _ => true
  | .rearm _ _ _ => true
  | .windowWrite _ size offset _ => plainWindowTarget (windowTarget size offset)
  | .deviceReset => true
  | .deviceResetRelease => true
  | .portReset _ => true
  | .portResetRelease _ => true
  | .quiesceEnd _ => true
  | .detachmentOnEntry _ _ => true
  | .requeue _ _ => true
  | .poolHoldRequest _ => true
  | .poolRetest _ => true
  | .offerTimerExpiry _ => true
  | .holdTimerExpiry _ => true
  | .coalescingDelayExpiry _ _ => true
  | .writeTimeout _ => true
  | .copyCompletion _ => true
  | .landingJobStart _ => true
  | .flushJobStart _ => true
  | .signalJobStart _ => true
  | .linkWriteOk _ => true
  | .landingCompletion _ => true
  | .flushCompletion _ => true
  | .signalCompletion _ => true
  | .linkWriteError _ => true

end Sys2Proof
end

