-- ==== Sys2Proof/Safety.lean ====
section
/-! DEFINITION. What a safe state of the device is: the laws of the spec that every step keeps, as predicates of the state; and the words in which the
statements about commands are written. -/

namespace Sys2Proof.Machine

/-- The segments in the chains of all records in use, record by record. -/
def Pool.chained (pool : Pool) : List SegmentId :=
  (ascending 1024 0 1024).flatMap fun r => ((pool.records.read r).map fun rec => rec.chain).getD []

/-- The laws of the pool: each segment is on the free list or in exactly one chain (R2, R3, R6); each record is on the record free list exactly when it is
free, and once (R4); a chain has as many segments as the record's segment count (R6); NORMAL means at least 192 segments free and LOW fewer than 384
(R15). -/
structure Pool.Lawful (pool : Pool) : Prop where
  segments : (pool.segFree ++ pool.chained).Perm (ascending 2048 0 2048)
  records : pool.recFree.Nodup ∧ ∀ r, r ∈ pool.recFree ↔ pool.records.read r = none
  chains : ∀ r rec, pool.records.read r = some rec → rec.chain.length = segmentCount rec.length
  level : (pool.level = .normal → Config.lowMark ≤ pool.freeCount) ∧ (pool.level = .low → pool.freeCount < Config.recoverMark)

/-- The segment store and every compose buffer are in canonical form. -/
def State.MemoriesCanonical (s : State) : Prop := Memory.wf s.pool.segments ∧ ∀ p, Memory.wf (s.piu p).compose

/-- The laws of a port's Notice Unit: at most 32 events wait (R127); a pending count is at most 65535 (R133); a due signal belongs to a SIGNALLED vector; LINE is
a target of vector 0 only (R133); PnIRQ is asserted only while the port is ATTACHED and vector 0 is SIGNALLED in LINE mode (R139). -/
structure Port.NoticeLawful (b : Port) : Prop where
  backlog : b.nu.backlog.length ≤ Config.backlogDepth
  pending : ∀ v, (b.nu.vectors.read v).pending ≤ Config.pendingMax
  due : ∀ v, (b.nu.vectors.read v).due = true → (b.nu.vectors.read v).state = .signalled
  line : ∀ v, v ≠ 0 → (b.nu.vectors.read v).target ≠ .line
  irq : b.nu.irq = true → b.piu.state = .attached ∧ (b.nu.vectors.read 0).state = .signalled ∧ (b.nu.vectors.read 0).target = .line

/-- The law of a port's Port Writer: IDLE in an ATTACHED port only, BUSY in an ATTACHED or QUIESCING port only, and STOPPED in an ATTACHED port only while a failure
is handed to the port state machine and not yet taken, which happens in an ATTACHED port with a STOPPED Port Writer only (R74, R85). -/
def Port.WriterLawful (b : Port) : Prop :=
  match b.writer.state with
  | .stopped => b.piu.state = .attached ↔ b.piu.faultHanded = true
  | .idle => b.piu.state = .attached ∧ b.piu.faultHanded = false
  | .busy _ => (b.piu.state = .attached ∨ b.piu.state = .quiescing) ∧ b.piu.faultHanded = false

/-- The law of a port's compose buffer: LOCKED only while the command slot is BUSY with a POST (R56). -/
def Port.LockLawful (b : Port) : Prop := b.piu.locked = true → b.piu.slot.busy = true ∧ b.piu.slot.kind = kindOf .post

/-- The laws of a port, together. -/
structure Port.Lawful (b : Port) : Prop where
  notice : b.NoticeLawful
  writer : b.WriterLawful
  lock : b.LockLawful

/-- The laws of one entry in use: the terms satisfy R23, the held count is at most the quota (R28), the channel is HELD only while OPEN (R30), offeror and peer differ
(R18), the ring is present whenever the consumer is (R26), an OFFERED entry binds one slot and an OPEN, CLOSING or ENDING entry two, and an ORPHANED entry has
its producer alone, no ring and empty lists (R24, R27). -/
structure Use.Lawful (u : Use) : Prop where
  terms : 1 ≤ u.terms.holdMark ∧ u.terms.holdMark ≤ u.terms.quota ∧ u.terms.releaseMark < u.terms.holdMark
  held : u.held ≤ u.terms.quota
  hold : u.hold.isSome → u.stage = .opened
  ring : u.ring.isSome = u.consumer.isSome
  offered : ∀ o, u.stage = .offered o →
    o.offeror ≠ o.peer ∧ u.queue = [] ∧ u.unconfirmed = [] ∧ u.fill = false ∧
      ((u.producedBy o.offeror = true ∧ u.consumer = none) ∨ (u.consumedBy o.offeror = true ∧ u.producer = none))
  opened : u.stage = .opened ∨ u.stage = .closing ∨ u.stage = .ending → u.producer.isSome ∧ u.consumer.isSome
  orphaned : u.stage = .orphaned → u.producer.isSome ∧ u.consumer = none ∧ u.queue = [] ∧ u.unconfirmed = []

/-- Every entry in use is lawful. -/
def State.EntriesLawful (s : State) : Prop := ∀ c u, s.use c = some u → u.Lawful

/-- A slot is bound to at most one channel (R24). -/
def State.SlotsBoundOnce (s : State) : Prop :=
  ∀ role q c d u w, s.use c = some u → s.use d = some w → u.binds role q = true → w.binds role q = true → c = d

/-- The counters of a FREE entry are zero (R18, R32). -/
def State.FreeEntriesClear (s : State) : Prop := ∀ c, s.use c = none → (s.entry c).counters = Counters.zero

/-- A safe state of the device. -/
structure State.Safe (s : State) : Prop where
  pool : s.pool.Lawful
  memories : s.MemoriesCanonical
  ports : ∀ p, (s.port p).Lawful
  entries : s.EntriesLawful
  slots : s.SlotsBoundOnce
  counters : s.FreeEntriesClear

/-! ## The words of the statements -/

/-- A timer has counted its interval: the Nth tick after the first tick at or after its start has come (R177). -/
abbrev Timer.RanOut (x : Timer) : Prop := ∃ k, x.count = some k ∧ x.limit ≤ k

/-- The window of a port takes writes: neither RESET_n nor the port's PnRST_n is asserted (R154, R170). -/
abbrev State.WindowOpen (s : State) (p : PortId) : Prop := s.resetPin = false ∧ (s.piu p).resetPin = false

/-- A command word written now takes a command: the window is open and the slot is IDLE (R162). -/
abbrev State.SlotReady (s : State) (p : PortId) : Prop := s.WindowOpen p ∧ (s.piu p).slot.busy = false

/-- The port whose window a command writes, for the rows that are window writes. -/
def windowPort : Instr → Option PortId
  | .offer p _ | .accept p _ | .decline p _ | .close p _ | .post p _ | .land p _ | .confirm p _ | .query p _ | .readCounters p _
  | .setVector p _ | .attach p _ | .detach p _ | .armRetain p _ | .disarmRetain p _ | .badCommand p _ _ | .cmdOverrun p _ _
  | .composeBufferWrite p _ _ | .creditWrite p _ _ | .eventReadIndexWrite p _ | .rearm p _ _ | .windowWrite p _ _ _ => some p
  | _ => none

/-- The command a row names, with its port and its NOTIFY flag, for the fourteen rows of Table 10-1. -/
def slotCommand : Instr → Option (PortId × Command × Bool)
  | .offer p n => some (p, .offer, n)
  | .accept p n => some (p, .accept, n)
  | .decline p n => some (p, .decline, n)
  | .close p n => some (p, .close, n)
  | .post p n => some (p, .post, n)
  | .land p n => some (p, .land, n)
  | .confirm p n => some (p, .confirm, n)
  | .query p n => some (p, .query, n)
  | .readCounters p n => some (p, .readCounters, n)
  | .setVector p n => some (p, .setVector, n)
  | .attach p n => some (p, .attach, n)
  | .detach p n => some (p, .detach, n)
  | .armRetain p n => some (p, .armRetain, n)
  | .disarmRetain p n => some (p, .disarmRetain, n)
  | _ => none

/-- The command word a row writes: its port, its kind byte and its NOTIFY flag, for the sixteen rows that write one. -/
def commandWordOf : Instr → Option (PortId × Byte × Bool)
  | .badCommand p k n => some (p, k, n)
  | .cmdOverrun p k n => some (p, k, n)
  | i => (slotCommand i).map fun x => (x.1, kindOf x.2.1, x.2.2)

/-- The slot after a command that was taken from it and completed at the same step: the argument words latched, CMD_OVERRUN clear, the response written, the
count raised (R161, R162, R165). -/
def CommandSlot.answered (slot : CommandSlot) (kind : Byte) (notify : Bool) (status : Status) (results : Table Word 4) : CommandSlot where
  busy := false
  arguments := slot.arguments
  latched := slot.arguments
  kind := kind
  notify := notify
  status := status.code
  responseKind := kind
  completions := slot.completions + 1
  results := results
  overrun := false

/-- An event as it is handed to a Notice Unit, with the slot it is attributed to (R125, R126). -/
structure Notice where
  kind : EventKind
  qualifier : Byte
  channel : Byte
  detail : Half
  slot : Option SlotId
deriving DecidableEq, Repr

/-- A Notice Unit takes one event, and on an ATTACHED port counts it toward its vector (R125 to R128, R133). -/
def Nu.hand (nu : Nu) (attached : Bool) (n : Notice) : Nu :=
  if attached then (nu.take n.kind n.qualifier n.channel n.detail).count (eventVector nu.grant n.slot)
  else nu.take n.kind n.qualifier n.channel n.detail

/-- A Notice Unit takes events in order. -/
def Nu.handAll (nu : Nu) (attached : Bool) : List Notice → Nu
  | [] => nu
  | n :: ns => (nu.hand attached n).handAll attached ns

/-- The Notice Unit of a port after events were handed to it in order; those for a DETACHED port are discarded (R125). -/
def State.nuAfter (s : State) (q : PortId) (ns : List Notice) : Nu :=
  if (s.piu q).state = .detached then s.nu q else (s.nu q).handAll ((s.piu q).state = .attached) ns

/-- Between `s` and `t` each port was handed exactly the events `made` gives for it, in that order, and nothing else happened in its Notice Unit but
handings to the slot words. -/
def State.EventsMade (s t : State) (made : PortId → List Notice) : Prop :=
  ∀ q, t.nu q = { s.nuAfter q (made q) with consumerWords := (t.nu q).consumerWords, producerWords := (t.nu q).producerWords }

/-- An event for the port of a party, attributed to its slot, about channel `c`. -/
def noticeTo (a : Option Party) (kind : EventKind) (qualifier : Byte) (c : ChannelId) (detail : Half) (q : PortId) : List Notice :=
  match a with
  | none => []
  | some a => if q = a.port then [⟨kind, qualifier, BitVec.ofNat 8 c.val, detail, some a.slot⟩] else []

/-- An event for a port that holds no slot on channel `c`. -/
def noticeToPort (p : PortId) (kind : EventKind) (c : ChannelId) (detail : Half) (q : PortId) : List Notice :=
  if q = p then [⟨kind, 0, BitVec.ofNat 8 c.val, detail, none⟩] else []

/-- COMMAND_DONE for port `p`, when NOTIFY is set (R166). -/
def noticeDone (p : PortId) (notify : Bool) (kind : Byte) (status : Status) (q : PortId) : List Notice :=
  if notify = true ∧ q = p then [⟨.commandDone, 0, 0, commandDoneDetail kind status.code, none⟩] else []

/-- No slot word of any summary image changes. -/
def State.WordsSame (s t : State) : Prop :=
  ∀ q, (t.nu q).consumerWords = (s.nu q).consumerWords ∧ (t.nu q).producerWords = (s.nu q).producerWords

/-- The pins, the round-robin pointers, the Port Writers, the requests owed to entries, the queue, the phase of the timebase and the free-value counter do not
change. -/
def State.DeviceSame (s t : State) : Prop :=
  t.pending = s.pending ∧ t.resetPin = s.resetPin ∧ t.roundRobin = s.roundRobin ∧ t.onTick = s.onTick ∧ t.freeIndex = s.freeIndex ∧
    ∀ q, t.writer q = s.writer q ∧ (t.port q).flushOwed = (s.port q).flushOwed ∧ (t.port q).requeueOwed = (s.port q).requeueOwed

/-- The pool, its segments included, and the pool requests owed to entries do not change. -/
def State.PoolSame (s t : State) : Prop := t.pool = s.pool ∧ t.holdOwed = s.holdOwed ∧ t.retestOwed = s.retestOwed

/-- The pool takes one free of the records `rs`; when it returns to NORMAL every entry is owed a retest (R12, R15, R116). -/
def State.PoolFreed (s t : State) (rs : List RecordId) : Prop :=
  t.pool = s.pool.free rs ∧ t.holdOwed = s.holdOwed ∧
    t.retestOwed = if s.pool.level = .low ∧ (s.pool.free rs).level = .normal then s.retestOwed ++ allChannels else s.retestOwed

/-- No entry but `c` changes. -/
def State.EntriesSameBut (s t : State) (c : ChannelId) : Prop := ∀ d, d ≠ c → t.entry d = s.entry d

/-- No Port Interface Unit but that of `p` changes. -/
def State.PiusSameBut (s t : State) (p : PortId) : Prop := ∀ q, q ≠ p → t.piu q = s.piu q

/-- No Port Interface Unit changes. -/
def State.PiusSame (s t : State) : Prop := ∀ q, t.piu q = s.piu q

/-- The consumer-slot word of the party `a` changes by `f`, when there is a party, and no other one changes. -/
def State.ConsumerWordSet (s t : State) (a : Option Party) (f : ConsumerWord → ConsumerWord) : Prop :=
  ∀ q i, (t.nu q).consumerWords.read i =
    if a = some ⟨q, i⟩ then f ((s.nu q).consumerWords.read i) else (s.nu q).consumerWords.read i

/-- The producer-slot word of the party `a` changes by `f`, when there is a party, and no other one changes. -/
def State.ProducerWordSet (s t : State) (a : Option Party) (f : ProducerWord → ProducerWord) : Prop :=
  ∀ q i, (t.nu q).producerWords.read i =
    if a = some ⟨q, i⟩ then f ((s.nu q).producerWords.read i) else (s.nu q).producerWords.read i

/-- Only these two changes of slot words are made. -/
def State.WordsSet (s t : State) (a : Option Party) (f : ConsumerWord → ConsumerWord) (b : Option Party) (g : ProducerWord → ProducerWord) : Prop :=
  s.ConsumerWordSet t a f ∧ s.ProducerWordSet t b g

/-- Entry `c` became FREE: its generation stays, its counters are zero, its slots are released with the other fields of their words kept, and no other entry
changes (R20, R25). -/
def State.BecameFree (s t : State) (c : ChannelId) (u : Use) : Prop :=
  t.entry c = ⟨(s.entry c).generation, Counters.zero, none⟩ ∧ s.EntriesSameBut t c ∧
    s.WordsSet t u.consumer (fun w => { w with bound := false }) u.producer fun w => { w with bound := false }

/-- A command taken on port `p` completed at the same step with this status and these results, and no Port Interface Unit changed otherwise. -/
def State.Answered (s t : State) (p : PortId) (kind : Byte) (notify : Bool) (status : Status) (results : Table Word 4) : Prop :=
  t.piu p = { s.piu p with slot := (s.piu p).slot.answered kind notify status results } ∧ s.PiusSameBut t p

/-- The slot after the completion of the command that it held (R165). -/
def CommandSlot.completed (slot : CommandSlot) (status : Status) (results : Table Word 4) : CommandSlot :=
  { slot with
    busy := false
    status := status.code
    responseKind := slot.kind
    completions := slot.completions + 1
    results := results }

/-- Nothing of the device changes but the Port Writer of `p` among the pins, round-robin pointers, Port Writers, owed requests, the queue and the free-value
counter. -/
def State.DeviceSameButWriter (s t : State) (p : PortId) : Prop :=
  t.pending = s.pending ∧ t.resetPin = s.resetPin ∧ t.roundRobin = s.roundRobin ∧ t.onTick = s.onTick ∧ t.freeIndex = s.freeIndex ∧
    (∀ q, q ≠ p → t.writer q = s.writer q) ∧
    ∀ q, (t.port q).flushOwed = (s.port q).flushOwed ∧ (t.port q).requeueOwed = (s.port q).requeueOwed

/-- The Port Writer of `p` became IDLE, its fault record stays, and nothing of the device changes otherwise. -/
def State.WriterBecameIdle (s t : State) (p : PortId) : Prop :=
  t.writer p = { s.writer p with state := .idle } ∧ s.DeviceSameButWriter t p

/-- A slot of port `p` is bound to no channel in the role (R24). -/
def State.SlotUnbound (s : State) (role : Role) (q : Party) : Prop := ∀ d u, s.use d = some u → u.binds role q = false

/-- A segment chain as R6 has it: no segment twice, as many as the length asks for. -/
abbrev Record.ChainWhole (rec : Record) : Prop := rec.chain.Nodup ∧ rec.chain.length = segmentCount rec.length

/-- A channel number and a generation name an offer to its peer `p` (R37 test 2). -/
abbrev State.OfferNamed (s : State) (p : PortId) (channel : Nat) (g : Byte) (c : ChannelId) (u : Use) (o : Offer) : Prop :=
  channel = c.val ∧ s.use c = some u ∧ u.stage = .offered o ∧ (s.entry c).generation = g ∧ o.peer = p

/-- A channel number and a generation name an entry in use (R43 tests 2 and 3, R93 tests 2 and 3). -/
abbrev State.EntryNamed (s : State) (channel : Nat) (g : Byte) (c : ChannelId) (u : Use) : Prop :=
  channel = c.val ∧ s.use c = some u ∧ (s.entry c).generation = g

/-- Nothing of the device changes but the requests that entries owe port `p`, among the pins, round-robin pointers, Port Writers, owed requests, the queue and
the free-value counter. -/
def State.DeviceSameButOwed (s t : State) (p : PortId) : Prop :=
  t.pending = s.pending ∧ t.resetPin = s.resetPin ∧ t.roundRobin = s.roundRobin ∧ t.onTick = s.onTick ∧ t.freeIndex = s.freeIndex ∧
    (∀ q, t.writer q = s.writer q) ∧
    ∀ q, q ≠ p → (t.port q).flushOwed = (s.port q).flushOwed ∧ (t.port q).requeueOwed = (s.port q).requeueOwed

/-- The Notice Unit of a port that left ATTACHED: no flush request, PnIRQ deasserted, each vector changed by `f` (R142). -/
def Nu.departed (nu : Nu) (f : Coalescer → Coalescer) : Nu :=
  { nu with flushRequest := false, irq := false, vectors := Table.build fun v => f (nu.vectors.read v) }

/-- A vector that was turned OFF keeps its target, threshold and delay, and nothing is pending, marked or running (R142, R148, R157). -/
def Coalescer.turnedOff (c : Coalescer) : Coalescer := ⟨.off, c.target, c.threshold, c.delay, 0, none, false, false, false⟩

/-- The slot of a port that holds a command that was taken and has not completed (R162). -/
def CommandSlot.taken (slot : CommandSlot) (kind : Byte) (notify : Bool) : CommandSlot :=
  { slot with busy := true, latched := slot.arguments, kind := kind, notify := notify, overrun := false }

/-- A command taken on port `p` was turned away: the response is written with four zero result words, COMMAND_DONE goes to the port when NOTIFY was set, a
taken POST clears COMPOSE_CLOBBERED, and nothing else changes (R57, R162, R165, R166). -/
def State.TurnedAway (s t : State) (p : PortId) (kind : Byte) (notify : Bool) (status : Status) : Prop :=
  t.piu p = { s.piu p with
      slot := (s.piu p).slot.answered kind notify status (Table.fill 4 0)
      clobbered := if kind = kindOf .post then false else (s.piu p).clobbered } ∧
    s.PiusSameBut t p ∧ s.EventsMade t (noticeDone p notify kind status) ∧ s.WordsSame t ∧ t.entries = s.entries ∧ s.PoolSame t ∧ s.DeviceSame t

/-- The values the spec gives a coalescer at reset (Table 8-2). -/
def Coalescer.AtReset (c : Coalescer) : Prop :=
  c.state = .off ∧ c.pending = 0 ∧ c.timer = none ∧ c.fired = false ∧ c.due = false ∧ c.owed = false

/-- The values the spec gives the blocks of a port at device reset (Tables 4-3, 5-3, 8-2, 9-4 and 10-5). -/
structure Port.AtReset (b : Port) : Prop where
  portState : b.piu.state = .detached ∧ b.piu.retainArmed = false ∧ b.piu.retainedLast = false
  slot : b.piu.slot.busy = false ∧ (∀ k, b.piu.slot.arguments.read k = 0) ∧ b.piu.slot.kind = 0 ∧ b.piu.slot.notify = false ∧ b.piu.slot.status = 0 ∧
    b.piu.slot.responseKind = 0 ∧ b.piu.slot.completions = 0 ∧ (∀ k, b.piu.slot.results.read k = 0) ∧ b.piu.slot.overrun = false
  buffer : (∀ i, b.piu.compose.read i = 0) ∧ b.piu.copy = none ∧ b.piu.clobbered = false
  credit : ∀ i, b.piu.credit.read i = 0
  eventRead : b.piu.eventRead = 0
  writer : b.writer.state = .stopped ∧ b.writer.faultKind = .noFault ∧ b.writer.faultAddress = 0 ∧ b.piu.faultHanded = false
  backlog : b.nu.backlog = [] ∧ b.nu.nextSequence = 0 ∧ b.nu.eventWrite = 0 ∧ b.nu.tag = 0 ∧ b.nu.lost = 0 ∧ b.nu.eventsLost = false
  words : (∀ i, b.nu.consumerWords.read i = ⟨false, 0, 0⟩) ∧ ∀ i, b.nu.producerWords.read i = ⟨false, false, 0, 0⟩
  vectors : (∀ v, (b.nu.vectors.read v).AtReset) ∧ b.nu.flushRequest = false ∧ b.nu.irq = false

/-- The values the spec gives the device at device reset (Tables 1-4 and 2-7, and those of each port). -/
structure State.AtReset (s : State) : Prop where
  segments : ∀ a, s.pool.segments.read a = 0
  segFree : s.pool.segFree.length = 2048 ∧ ∀ i : SegmentId, s.pool.segFree[i.val]? = some i
  recFree : s.pool.recFree.length = 1024 ∧ ∀ i : RecordId, s.pool.recFree[i.val]? = some i
  records : ∀ r, s.record r = none
  level : s.pool.level = .normal
  entries : ∀ c, s.entry c = ⟨0, ⟨0, 0, 0, 0, 0, 0, 0⟩, none⟩
  roundRobin : ∀ p k, (s.roundRobin.read p).read k = 63
  ports : ∀ p, (s.port p).AtReset

end Sys2Proof.Machine
end

