-- ==== Sys2Proof/Certificates/Slice0/Obligations.lean ====
section
/-! DEFINITION. The statements about the device. -/

open Sys2Proof Sys2Proof.Machine

/-! ## The queue, time, resets -/

/-- A step takes the command at the front of the queue and runs it on the state with the queue's rest. -/
def Obligations.StepRunsTheFrontCommand : Prop :=
  ∀ (i : Instr) (rest : List Instr) (s : State), step { s with pending := i :: rest } = exec i { s with pending := rest }

/-- The model's choice (log 1): with no command waiting, what the device has still to take goes onto the queue: a failure handed to a port state machine and not yet
taken, the expiries of the tick: an offer timer, the hold timer of an OPEN entry, a delay timer with the fired mark clear, a write timeout that has counted its interval
(R177). When there is nothing to take, the timebase goes from between two ticks onto the next tick, where each timer past its first tick counts one, or past the tick it
stands on, which was the first tick of each timer started on it or since the tick before; nothing else changes. -/
def Obligations.IdleStepLetsTimePass : Prop :=
  ∀ s : State, s.pending = [] →
    let due : Instr → Prop := fun i =>
      (∃ p, (s.piu p).faultHanded = true ∧ i = .linkWriteError ⟨p, (s.writer p).jobs, true⟩) ∨
      (∃ c u o, s.use c = some u ∧ u.stage = .offered o ∧ o.timer.RanOut ∧ i = .offerTimerExpiry c) ∨
      (∃ c u h, s.use c = some u ∧ u.stage = .opened ∧ u.hold = some h ∧ h.timer.RanOut ∧ i = .holdTimerExpiry c) ∨
      (∃ p v x, ((s.nu p).vectors.read v).timer = some x ∧ ((s.nu p).vectors.read v).fired = false ∧ x.RanOut ∧ i = .coalescingDelayExpiry p v) ∨
      ∃ p job, (s.writer p).state = .busy job ∧ job.timeout.RanOut ∧ i = .writeTimeout ⟨p, true⟩
    let goOn : Timer → Timer := fun x => ⟨x.limit, if s.onTick = true then some (x.count.getD 0) else x.count.map fun k => k + 1⟩
    ((∃ i, due i) → ∃ is, step s = .next { s with pending := is } ∧ is.Nodup ∧ ∀ i, i ∈ is ↔ due i) ∧
    ((∀ i, ¬ due i) →
      step s = .next { s with
        onTick := !s.onTick
        entries := Table.build fun c => { s.entry c with
          use := (s.use c).map fun u => { u with
            stage :=
              match u.stage with
              | .offered o => .offered ⟨o.offeror, o.peer, goOn o.timer⟩
              | st => st
            hold := u.hold.map fun h => ⟨h.reason, goOn h.timer⟩ } }
        ports := Table.build fun p => { s.port p with
          writer := { s.writer p with
            state :=
              match (s.writer p).state with
              | .busy job => .busy ⟨job.kind, job.writes, goOn job.timeout⟩
              | st => st }
          nu := { s.nu p with
            vectors := Table.build fun v =>
              { (s.nu p).vectors.read v with timer := ((s.nu p).vectors.read v).timer.map goOn } } } })

/-- Device reset gives every block the values the spec's reset tables name, whatever was in progress, and leaves no request owed; the levels of the PnRST_n pins stay, and so do the
model's own fields, the queue, the numbers of the jobs and the phase of the timebase (log 19); State.reset has the same values. The deassertion of RESET_n begins operation with the
state as it is: a port whose PnRST_n is found asserted stays DETACHED (R176). -/
def Obligations.DeviceResetGivesTheResetValues : Prop :=
  State.reset.AtReset ∧
    ∀ s : State, ∃ t, exec .deviceReset s = .next t ∧ t.AtReset ∧ t.resetPin = true ∧ t.pending = s.pending ∧ t.onTick = s.onTick ∧
      t.holdOwed = [] ∧ t.retestOwed = [] ∧
      (∀ p, (t.piu p).resetPin = (s.piu p).resetPin ∧ (t.writer p).jobs = (s.writer p).jobs ∧ (t.port p).flushOwed = [] ∧ (t.port p).requeueOwed = []) ∧
      exec .deviceResetRelease t = .next { t with resetPin := false }

/-- The state after reset is safe. -/
def Obligations.ResetStateIsSafe : Prop := State.reset.Safe

/-- Every command answers a next state, keeps the queue, and leaves each reset pin alone but its own rows. -/
def Obligations.EveryCommandAnswersANextState : Prop :=
  ∀ (i : Instr) (s : State), ∃ t, exec i s = .next t ∧ t.pending = s.pending ∧
    (t.resetPin = s.resetPin ∨ i = .deviceReset ∨ i = .deviceResetRelease) ∧
    ∀ p, (t.piu p).resetPin = (s.piu p).resetPin ∨ i = .portReset p ∨ i = .portResetRelease p

/-! ## Laws that every step keeps -/

/-- Every step keeps the laws of the pool: each segment is free or in exactly one chain, each record is listed free exactly when it is free, chains fit
their lengths, NORMAL means at least 192 segments free and LOW fewer than 384 (R2, R3, R4, R6, R15). -/
def Obligations.EveryStepKeepsThePoolLawful : Prop :=
  ∀ s t : State, s.pool.Lawful → step s = .next t → t.pool.Lawful

/-- Every step keeps the segment store and the compose buffers in canonical form. -/
def Obligations.EveryStepKeepsMemoriesCanonical : Prop :=
  ∀ s t : State, s.MemoriesCanonical → step s = .next t → t.MemoriesCanonical

/-- Every step keeps the laws of the Notice Units: backlog of at most 32, pending counts of at most 65535, a due signal only of a SIGNALLED vector, LINE only on
vector 0, PnIRQ only on an ATTACHED port whose vector 0 is SIGNALLED in LINE mode (R127, R133, R139). -/
def Obligations.EveryStepKeepsNoticeUnitsLawful : Prop :=
  ∀ s t : State, (∀ p, (s.port p).NoticeLawful) → step s = .next t → ∀ p, (t.port p).NoticeLawful

/-- Every step keeps Port Writer and port state in step (IDLE only on an ATTACHED port, BUSY only on an ATTACHED or QUIESCING one), and a LOCKED compose buffer
under a BUSY slot that holds a POST (R56, R74). -/
def Obligations.EveryStepKeepsWritersAndLocksLawful : Prop :=
  ∀ s t : State, (∀ p, (s.port p).WriterLawful ∧ (s.port p).LockLawful) → step s = .next t →
    ∀ p, (t.port p).WriterLawful ∧ (t.port p).LockLawful

/-- Every step keeps the laws of the Channel Table: each entry in use is lawful, no slot is bound twice, the counters of a FREE entry are zero (R18, R23, R24, R26,
R27, R28, R30, R32). -/
def Obligations.EveryStepKeepsTheChannelTableLawful : Prop :=
  ∀ s t : State, s.EntriesLawful ∧ s.SlotsBoundOnce ∧ s.FreeEntriesClear → step s = .next t →
    t.EntriesLawful ∧ t.SlotsBoundOnce ∧ t.FreeEntriesClear

/-! ## The window and the command slot -/

/-- While RESET_n or the port's PnRST_n is asserted, every window write is discarded (R154, R170). -/
def Obligations.WindowWritesAreDiscardedUnderReset : Prop :=
  ∀ (i : Instr) (p : PortId) (s : State), windowPort i = some p → ¬ s.WindowOpen p → exec i s = .next s

/-- A write of the command word while the slot is BUSY is discarded and sets CMD_OVERRUN; nothing else changes (R163). -/
def Obligations.CommandWordToABusySlotIsAnOverrun : Prop :=
  ∀ (i : Instr) (p : PortId) (k : Byte) (n : Bool) (s : State), commandWordOf i = some (p, k, n) → s.WindowOpen p → (s.piu p).slot.busy = true →
    exec i s = .next (s.modPiu p fun u => { u with slot := { u.slot with overrun := true } })

/-- A command word whose kind is none of the fourteen is refused with BAD_COMMAND (R162 test 1). -/
def Obligations.UnknownKindIsABadCommand : Prop :=
  ∀ (p : PortId) (k : Byte) (n : Bool) (s : State), (Instr.badCommand p k n).WellFormed = true → s.SlotReady p →
    ∃ t, exec (.badCommand p k n) s = .next t ∧ s.TurnedAway t p k n .badCommand

/-- A command that the port state does not admit by Table 10-2 is refused with BAD_STATE (R162 test 2, R164). For a QUIESCING port with its window open and an IDLE slot, in which
R160 and Table 10-2 say that no command is taken, BAD_STATE is the model's choice: no run reaches such a port (log 17). -/
def Obligations.PortStateTurnsCommandsAway : Prop :=
  ∀ (i : Instr) (p : PortId) (c : Command) (n : Bool) (s : State), slotCommand i = some (p, c, n) → s.SlotReady p →
    (match (s.piu p).state with
      | .detached => c ≠ .attach
      | .attached => c = .attach
      | .quiescing => True
      | .retained => c ∈ [Command.offer, .accept, .decline, .close, .post, .land, .confirm, .setVector]
      | .faulted => c ∈ [Command.offer, .accept, .decline, .close, .post, .land, .confirm, .setVector]) →
    ∃ t, exec i s = .next t ∧ s.TurnedAway t p (kindOf c) n .badState

/-- A write of an argument word is stored, whether the slot is IDLE or BUSY, and reads back; nothing else changes (R161). The arguments of the commands are the fields of the words that
Table 11-2 names (R172). -/
def Obligations.ArgumentWordsAreStored : Prop :=
  (∀ (p : PortId) (k : Fin 8) (w : Word) (s : State), s.WindowOpen p →
    ∃ t, exec (.windowWrite p .word (BitVec.ofNat 13 (0x420 + 4 * k.val)) w) s = .next t ∧
      t = s.modPiu p (fun u => { u with slot := { u.slot with arguments := u.slot.arguments.write k w } }) ∧
      t.windowRead p .word (BitVec.ofNat 13 (0x420 + 4 * k.val)) = w) ∧
  (∀ (w : Word) (hi lo : Nat), bits w hi lo = w.toNat / 2 ^ lo % 2 ^ (hi + 1 - lo)) ∧
  (∀ (n : Nat) (g : Grant), grantOf n = some g ↔ (n = 1 ∧ g = .one) ∨ (n = 2 ∧ g = .two) ∨ (n = 4 ∧ g = .four)) ∧
  (∀ (n : Nat) (m : DetachMode), detachModeOf n = some m ↔ (n = 0 ∧ m = .flush) ∨ (n = 1 ∧ m = .retain)) ∧
  ∀ w : Table Word 8,
    let x : Fin 8 → Nat := fun k => (w.read k).toNat
    let ring : RingArgs := ⟨w.read 5, x 6 % 2 ^ 16, x 6 / 2 ^ 16 % 2 ^ 8⟩
    ringArgs w = ring ∧
    offerArgs w = {
      peer := x 0 % 2 ^ 8
      role := x 0 / 2 ^ 8 % 2 ^ 8
      cls := x 0 / 2 ^ 16 % 2 ^ 8
      priority := x 0 / 2 ^ 24
      maxLength := x 1 % 2 ^ 16
      quota := x 1 / 2 ^ 16
      holdMark := x 2 % 2 ^ 16
      releaseMark := x 2 / 2 ^ 16
      holdInterval := x 3 % 2 ^ 16
      window := x 3 / 2 ^ 16 % 2 ^ 8
      timeout := x 3 / 2 ^ 24
      slot := x 4 % 2 ^ 8
      ring := ring } ∧
    channelArg w = x 0 % 2 ^ 8 ∧ generationArg w = BitVec.ofNat 8 (x 0 / 2 ^ 8) ∧ acceptSlotArg w = x 0 / 2 ^ 16 % 2 ^ 8 ∧
    urgentArg w = (w.read 0).getLsbD 8 ∧ userTagArg w = BitVec.ofNat 16 (x 0 / 2 ^ 16) ∧ lengthArg w = x 1 % 2 ^ 16 ∧
    sequenceArg w = BitVec.ofNat 16 (x 0 / 2 ^ 16) ∧ pageArg w = x 0 / 2 ^ 8 % 2 ^ 8 ∧ clearArg w = (w.read 0).getLsbD 16 ∧
    vectorArgs w = {
      vector := x 0 % 2 ^ 8
      mode := x 0 / 2 ^ 8 % 2 ^ 8
      threshold := x 0 / 2 ^ 16 % 2 ^ 8
      delay := x 1 % 2 ^ 16
      address := w.read 2
      data := w.read 3 }

/-- The window, word by word (Table 11-1, R170). A WINDOW_WRITE of a command word is the row of its kind (bits 7:0) and NOTIFY (bit 8); of a credit word, the event read index or a re-arm
word it is the row of that word; writes that Table 11-1 gives no effect are discarded: byte and halfword accesses, unaligned accesses, unlisted offsets and read-only words; and a
read of such an access other than a read-only word returns zero. Every mapped word reads as Table 11-1 lays it out, with its codes, and every word reads as zero while RESET_n is
asserted (R159, R160, R165, R170). -/
def Obligations.OtherWindowAccessesAreDiscarded : Prop :=
  (∀ (p : PortId) (z : AccessSize) (o : BitVec 13) (w : Word) (s : State),
    (z ≠ .word ∨ o.toNat % 4 ≠ 0 ∨ (0x418 ≤ o.toNat ∧ o.toNat < 0x420) ∨ (0x440 ≤ o.toNat ∧ o.toNat < 0x500) ∨
        (0x544 ≤ o.toNat ∧ o.toNat < 0x550) ∨ (0x560 ≤ o.toNat ∧ o.toNat < 0x580) ∨ 0x58C ≤ o.toNat →
      exec (.windowWrite p z o w) s = .next s ∧ s.windowRead p z o = 0) ∧
    (z = .word → o.toNat ∈ [0x404, 0x408, 0x40C, 0x410, 0x414, 0x580, 0x584, 0x588] → exec (.windowWrite p z o w) s = .next s) ∧
    (s.resetPin = true → s.windowRead p z o = 0)) ∧
  (∀ (p : PortId) (w : Word) (s : State),
    (∀ i, commandWordOf i = some (p, BitVec.ofNat 8 w.toNat, w.getLsbD 8) → exec (.windowWrite p .word 0x400 w) s = exec i s) ∧
    (∀ k : SlotId, exec (.windowWrite p .word (BitVec.ofNat 13 (0x500 + 4 * k.val)) w) s = exec (.creditWrite p k w) s) ∧
    exec (.windowWrite p .word 0x540 w) s = exec (.eventReadIndexWrite p w) s ∧
    ∀ v : VectorId, exec (.windowWrite p .word (BitVec.ofNat 13 (0x550 + 4 * v.val)) w) s = exec (.rearm p v w) s) ∧
  (∀ (p : PortId) (s : State), s.resetPin = false →
    let read : Nat → Word := fun o => s.windowRead p .word (BitVec.ofNat 13 o)
    let u := s.piu p
    read 0x400 = BitVec.ofNat 32 (u.slot.kind.toNat + (if u.slot.notify = true then 2 ^ 8 else 0) + if u.slot.busy = true then 2 ^ 31 else 0) ∧
    read 0x404 = BitVec.ofNat 32 (u.slot.status.toNat + 2 ^ 8 * u.slot.responseKind.toNat + 2 ^ 16 * u.slot.completions.toNat) ∧
    (∀ k : Fin 4, read (0x408 + 4 * k.val) = u.slot.results.read k) ∧ (∀ k : Fin 8, read (0x420 + 4 * k.val) = u.slot.arguments.read k) ∧
    (∀ i : SlotId, read (0x500 + 4 * i.val) = BitVec.ofNat 32 (u.credit.read i).toNat) ∧ read 0x540 = BitVec.ofNat 32 u.eventRead.toNat ∧
    (∀ v : VectorId, read (0x550 + 4 * v.val) = 0) ∧
    read 0x580 = BitVec.ofNat 32 ([PortState.detached, .attached, .quiescing, .retained, .faulted].idxOf u.state +
      (if u.retainArmed = true then 2 ^ 3 else 0) + (if u.retainedLast = true then 2 ^ 4 else 0) +
      2 ^ 5 * [FaultKind.noFault, .busError, .timeout].idxOf (s.writer p).faultKind + (if s.pool.level = .low then 2 ^ 7 else 0) +
      (if u.clobbered = true then 2 ^ 8 else 0) + if u.slot.overrun = true then 2 ^ 9 else 0) ∧
    read 0x584 = (s.writer p).faultAddress ∧ read 0x588 = BitVec.ofNat 32 p.val) ∧
  [Command.offer, .accept, .decline, .close, .post, .land, .confirm, .query, .readCounters, .setVector, .attach, .detach, .armRetain, .disarmRetain].map
    kindOf = [1, 2, 3, 4, 5, 6, 7, 8, 9, 10, 11, 12, 13, 14] ∧
  [Status.done, .badCommand, .badState, .badArg, .badChannel, .noChannel, .slotInUse, .peerAbsent, .late, .ringTooSmall, .tooLong, .held, .quota, .noRecords,
    .noSegments, .closed, .noConsumer, .confirmRange].map Status.code = [1, 2, 3, 4, 5, 6, 7, 8, 9, 10, 11, 12, 13, 14, 15, 16, 17, 18]

/-! ## Opening and closing channels -/

/-- An OFFER that passes every test takes the lowest FREE entry: the generation rises by one, the entry is OFFERED with the offer's terms and the offeror's slot,
OFFER_RECEIVED goes to the peer, and the response carries channel and generation (R20, R25, R35). -/
def Obligations.OfferTakesTheLowestFreeEntry : Prop :=
  ∀ (p : PortId) (n : Bool) (s : State) (c : ChannelId),
    let a := offerArgs (s.piu p).slot.arguments
    let q : Party := ⟨p, Fin.ofNat 16 a.slot⟩
    let peer : PortId := Fin.ofNat 4 a.peer
    let g := (s.entry c).generation + 1
    s.SlotReady p → (s.piu p).state = .attached → a.inRange p = true → (a.role = 1 → a.maxLength + 16 ≤ 64 * a.ring.slotUnits) →
    s.SlotUnbound (if a.role = 0 then .producer else .consumer) q → (s.piu peer).state = .attached →
    s.use c = none → (∀ d, d < c → s.use d ≠ none) →
    ∃ t, exec (.offer p n) s = .next t ∧
      t.entry c = ⟨g, ⟨0, 0, 0, 0, 0, 0, 0⟩, some {
        stage := .offered ⟨p, peer, ⟨1000 * a.timeout, none⟩⟩
        producer := if a.role = 0 then some q else none
        consumer := if a.role = 0 then none else some q
        terms := ⟨if a.cls = 0 then .plain else .confirmed a.window, Fin.ofNat 4 a.priority, a.maxLength, a.quota, a.holdMark, a.releaseMark, a.holdInterval⟩
        held := 0
        queue := []
        unconfirmed := []
        nextSequence := 0
        fill := false
        ring := if a.role = 0 then none else some ⟨false, a.ring.base, a.ring.slotCount, a.ring.slotUnits, 0, 0⟩
        hold := none }⟩ ∧
      s.EntriesSameBut t c ∧
      t.piu p = { s.piu p with
        slot := (s.piu p).slot.answered (kindOf .offer) n .done (resultWords c.val g.toNat 0 0)
        credit := if a.role = 0 then (s.piu p).credit else (s.piu p).credit.write q.slot 0 } ∧
      s.PiusSameBut t p ∧
      s.EventsMade t (fun x => noticeToPort peer .offerReceived c (offerDetail g p (a.role ≠ 0) (a.cls ≠ 0)) x ++ noticeDone p n (kindOf .offer) .done x) ∧
      s.WordsSet t (if a.role = 0 then none else some q) (fun _ => ⟨true, c, 0⟩) (if a.role = 0 then some q else none) (fun _ => ⟨true, false, c, 65535⟩) ∧
      s.PoolSame t ∧ s.DeviceSame t

/-- The ranges of OFFER's arguments, and the tests of Table 3-1 in order: BAD_ARG, RING_TOO_SMALL, SLOT_IN_USE, PEER_ABSENT, NO_CHANNEL (R34). -/
def Obligations.OfferIsRefusedByTheFirstTestThatFails : Prop :=
  (∀ (a : OfferArgs) (p : PortId), a.inRange p = true ↔
    a.peer < 4 ∧ a.peer ≠ p.val ∧ a.role ≤ 1 ∧ a.cls ≤ 1 ∧ a.priority ≤ 3 ∧ (1 ≤ a.maxLength ∧ a.maxLength ≤ 1024) ∧ (1 ≤ a.quota ∧ a.quota ≤ 1024) ∧
      (1 ≤ a.holdMark ∧ a.holdMark ≤ a.quota) ∧ a.releaseMark < a.holdMark ∧ (1 ≤ a.holdInterval ∧ a.holdInterval ≤ 65535) ∧
      (a.cls = 1 → 1 ≤ a.window ∧ a.window ≤ 255) ∧ (1 ≤ a.timeout ∧ a.timeout ≤ 255) ∧ a.slot ≤ 15 ∧
      (a.role = 1 → a.ring.base.toNat % 64 = 0 ∧ (∃ k, 2 ≤ k ∧ k ≤ 10 ∧ a.ring.slotCount = 2 ^ k) ∧ 1 ≤ a.ring.slotUnits ∧ a.ring.slotUnits ≤ 17)) ∧
  ∀ (p : PortId) (n : Bool) (s : State),
    let a := offerArgs (s.piu p).slot.arguments
    let q : Party := ⟨p, Fin.ofNat 16 a.slot⟩
    let role : Role := if a.role = 0 then .producer else .consumer
    let fits := a.role = 1 → a.maxLength + 16 ≤ 64 * a.ring.slotUnits
    let refused := fun st => ∃ t, exec (.offer p n) s = .next t ∧ s.TurnedAway t p (kindOf .offer) n st
    s.SlotReady p → (s.piu p).state = .attached →
      (a.inRange p = false → refused .badArg) ∧
      (a.inRange p = true → ¬ fits → refused .ringTooSmall) ∧
      (a.inRange p = true → fits → ¬ s.SlotUnbound role q → refused .slotInUse) ∧
      (a.inRange p = true → fits → s.SlotUnbound role q → (s.piu (Fin.ofNat 4 a.peer)).state ≠ .attached → refused .peerAbsent) ∧
      (a.inRange p = true → fits → s.SlotUnbound role q → (s.piu (Fin.ofNat 4 a.peer)).state = .attached → (∀ c, s.use c ≠ none) → refused .noChannel)

/-- ACCEPT by a peer that becomes the consumer: the entry is OPEN, its slot is bound with credit value 0, its ring is ARMED with indices 0, CHANNEL_OPEN goes
to the offeror, and the response carries channel, generation and offeror (R25, R38, R90). -/
def Obligations.AcceptByTheConsumerOpensTheChannel : Prop :=
  ∀ (p : PortId) (n : Bool) (s : State) (c : ChannelId) (u : Use) (o : Offer) (i : SlotId),
    let w := (s.piu p).slot.arguments
    let r := ringArgs w
    let g := (s.entry c).generation
    s.SlotReady p → (s.piu p).state = .attached → s.OfferNamed p (channelArg w) (generationArg w) c u o → u.producer.isSome = true →
    acceptSlotArg w = i.val → s.SlotUnbound .consumer ⟨p, i⟩ → ringOk r = true → u.terms.maxLength + 16 ≤ 64 * r.slotUnits →
    ∃ t, exec (.accept p n) s = .next t ∧
      t.entry c = { s.entry c with use := some { u with
        stage := .opened, consumer := some ⟨p, i⟩, ring := some ⟨true, r.base, r.slotCount, r.slotUnits, 0, 0⟩ } } ∧
      s.EntriesSameBut t c ∧
      t.piu p = { s.piu p with
        slot := (s.piu p).slot.answered (kindOf .accept) n .done (resultWords c.val g.toNat o.offeror.val 0)
        credit := (s.piu p).credit.write i 0 } ∧
      s.PiusSameBut t p ∧
      s.EventsMade t (fun x => noticeTo u.producer .channelOpen 0 c (openDetail g p) x ++ noticeDone p n (kindOf .accept) .done x) ∧
      s.WordsSet t (some ⟨p, i⟩) (fun _ => ⟨true, c, 0⟩) none id ∧ s.PoolSame t ∧ s.DeviceSame t

/-- ACCEPT by a peer that becomes the producer: the entry is OPEN, its slot is bound, and the offered ring is ARMED with indices 0 and its write index handed to
the consumer's word; when the offering consumer is RETAINED or FAULTED the ring stays DISARMED and CONSUMER_AWAY goes to the new producer (R25, R38, R39).
That CONSUMER_AWAY comes before COMMAND_DONE at that port is the model's reading (log 12). -/
def Obligations.AcceptByTheProducerOpensTheChannel : Prop :=
  ∀ (p : PortId) (n : Bool) (s : State) (c : ChannelId) (u : Use) (o : Offer) (i : SlotId),
    let w := (s.piu p).slot.arguments
    let g := (s.entry c).generation
    let away := (s.piu o.offeror).state = .retained ∨ (s.piu o.offeror).state = .faulted
    s.SlotReady p → (s.piu p).state = .attached → s.OfferNamed p (channelArg w) (generationArg w) c u o → u.producer = none →
    acceptSlotArg w = i.val → s.SlotUnbound .producer ⟨p, i⟩ →
    ∃ t, exec (.accept p n) s = .next t ∧
      t.entry c = { s.entry c with use := some { u with
        stage := .opened, producer := some ⟨p, i⟩, ring := u.ring.map fun r => ⟨decide ¬ away, r.base, r.slotCount, r.slotUnits, 0, 0⟩ } } ∧
      s.EntriesSameBut t c ∧
      s.Answered t p (kindOf .accept) n .done (resultWords c.val g.toNat o.offeror.val 0) ∧
      s.EventsMade t (fun x => noticeTo u.consumer .channelOpen 0 c (openDetail g p) x ++
        ((if away then noticeTo (some ⟨p, i⟩) .consumerAway 0 c (generationDetail g) x else []) ++ noticeDone p n (kindOf .accept) .done x)) ∧
      s.WordsSet t (if away then none else u.consumer) (fun x => { x with writeIndex := 0 }) (some ⟨p, i⟩) (fun _ => ⟨true, false, c, 65535⟩) ∧
      s.PoolSame t ∧ s.DeviceSame t

/-- ACCEPT's tests 2 to 5 in order: LATE when the channel and generation name no offer to this port, SLOT_IN_USE, and for a consumer RING_TOO_SMALL; then BAD_ARG
for a slot above 15 or, for a consumer, a ring out of range (R37). -/
def Obligations.AcceptIsRefusedByTheFirstTestThatFails : Prop :=
  ∀ (p : PortId) (n : Bool) (s : State),
    let w := (s.piu p).slot.arguments
    let r := ringArgs w
    let refused := fun st => ∃ t, exec (.accept p n) s = .next t ∧ s.TurnedAway t p (kindOf .accept) n st
    s.SlotReady p → (s.piu p).state = .attached →
      ((∀ c u o, ¬ s.OfferNamed p (channelArg w) (generationArg w) c u o) → refused .late) ∧
      ∀ c u o, s.OfferNamed p (channelArg w) (generationArg w) c u o →
        let role : Role := if u.producer.isSome = true then .consumer else .producer
        let unbound := ∀ i : SlotId, acceptSlotArg w = i.val → s.SlotUnbound role ⟨p, i⟩
        (¬ unbound → refused .slotInUse) ∧
        (unbound → role = .consumer → 64 * r.slotUnits < u.terms.maxLength + 16 → refused .ringTooSmall) ∧
        (unbound → (role = .consumer → u.terms.maxLength + 16 ≤ 64 * r.slotUnits) → 15 < acceptSlotArg w ∨ (role = .consumer ∧ ringOk r = false) →
          refused .badArg)

/-- DECLINE is refused with BAD_STATE when the port is not ATTACHED and with LATE when the channel and generation name no offer to it; otherwise the entry becomes
FREE, OFFER_DECLINED goes to the offeror with channel and generation, and the response carries DONE (R40). -/
def Obligations.DeclineFreesTheEntry : Prop :=
  ∀ (p : PortId) (n : Bool) (s : State),
    let w := (s.piu p).slot.arguments
    s.SlotReady p →
      ((s.piu p).state ≠ .attached → ∃ t, exec (.decline p n) s = .next t ∧ s.TurnedAway t p (kindOf .decline) n .badState) ∧
      ((s.piu p).state = .attached → (∀ c u o, ¬ s.OfferNamed p (channelArg w) (generationArg w) c u o) →
        ∃ t, exec (.decline p n) s = .next t ∧ s.TurnedAway t p (kindOf .decline) n .late) ∧
      ∀ c u o, (s.piu p).state = .attached → s.OfferNamed p (channelArg w) (generationArg w) c u o →
        ∃ t, exec (.decline p n) s = .next t ∧ s.BecameFree t c u ∧ s.Answered t p (kindOf .decline) n .done (resultWords 0 0 0 0) ∧
          s.EventsMade t (fun x => noticeTo (u.producer <|> u.consumer) .offerDeclined 0 c (generationDetail (s.entry c).generation) x ++
            noticeDone p n (kindOf .decline) .done x) ∧
          s.PoolSame t ∧ s.DeviceSame t

/-- CLOSE's tests in order: BAD_ARG for a channel above 63, LATE for a FREE entry or another generation, BAD_CHANNEL for a port that is no party and for the
peer of an offer, CLOSED for the producer of a CLOSING entry and for any party of an ENDING one (R41, R43, Table 3-3). -/
def Obligations.CloseIsRefusedByTheFirstTestThatFails : Prop :=
  ∀ (p : PortId) (n : Bool) (s : State),
    let w := (s.piu p).slot.arguments
    let refused := fun st => ∃ t, exec (.close p n) s = .next t ∧ s.TurnedAway t p (kindOf .close) n st
    s.SlotReady p → (s.piu p).state = .attached →
      (63 < channelArg w → refused .badArg) ∧
      (∀ c : ChannelId, channelArg w = c.val → s.use c = none ∨ (s.entry c).generation ≠ generationArg w → refused .late) ∧
      ∀ c u, s.EntryNamed (channelArg w) (generationArg w) c u →
        (u.isParty p = false → refused .badChannel) ∧
        (∀ o, u.stage = .offered o → o.offeror ≠ p → refused .badChannel) ∧
        (u.stage = .closing → u.producedBy p = true → refused .closed) ∧
        (u.stage = .ending → u.isParty p = true → refused .closed)

/-- CLOSE by the offeror withdraws the offer: the entry becomes FREE, which stops the offer timer and releases the offeror's slot, and OFFER_WITHDRAWN goes to the peer. CLOSE by the peer is
refused with BAD_CHANNEL. CLOSE by the producer of an ORPHANED entry makes it FREE with no event. The response carries DONE and FREE, and the only event its sender gets is COMMAND_DONE
where it asked for one (R41). -/
def Obligations.CloseOfAnOfferOrAnOrphanFreesTheEntry : Prop :=
  ∀ (p : PortId) (n : Bool) (s : State) (c : ChannelId) (u : Use),
    let w := (s.piu p).slot.arguments
    s.SlotReady p → (s.piu p).state = .attached → s.EntryNamed (channelArg w) (generationArg w) c u →
      (∀ o, u.stage = .offered o → o.offeror = p →
        ∃ t, exec (.close p n) s = .next t ∧ s.BecameFree t c u ∧ s.Answered t p (kindOf .close) n .done (resultWords 0 0 0 0) ∧
          s.EventsMade t (fun x => noticeToPort o.peer .offerWithdrawn c (generationDetail (s.entry c).generation) x ++
            noticeDone p n (kindOf .close) .done x) ∧
          s.PoolSame t ∧ s.DeviceSame t) ∧
      (∀ o, u.stage = .offered o → o.offeror ≠ p → ∃ t, exec (.close p n) s = .next t ∧ s.TurnedAway t p (kindOf .close) n .badChannel) ∧
      (u.stage = .orphaned → u.isParty p = true →
        ∃ t, exec (.close p n) s = .next t ∧ s.BecameFree t c u ∧ s.Answered t p (kindOf .close) n .done (resultWords 0 0 0 0) ∧
          s.EventsMade t (noticeDone p n (kindOf .close) .done) ∧ s.PoolSame t ∧ s.DeviceSame t)

/-- CLOSE by the producer of an OPEN entry: an empty entry becomes FREE with CHANNEL_FREED (cause CLOSE) to both parties; any other becomes CLOSING, FLOWING, with
a clear hold flag handed and no event (R30, R44). That CHANNEL_FREED comes before COMMAND_DONE at the producer (log 12), and that the word of a HELD channel freed here keeps its hold flag (log 14),
are the model's readings. -/
def Obligations.ProducerCloseDrainsTheChannel : Prop :=
  ∀ (p : PortId) (n : Bool) (s : State) (c : ChannelId) (u : Use),
    let w := (s.piu p).slot.arguments
    let d := freedDetail (s.entry c).generation .close
    s.SlotReady p → (s.piu p).state = .attached → s.EntryNamed (channelArg w) (generationArg w) c u → u.stage = .opened → u.producedBy p = true →
      (u.queue = [] ∧ u.unconfirmed = [] ∧ u.fill = false →
        ∃ t, exec (.close p n) s = .next t ∧ s.BecameFree t c u ∧ s.Answered t p (kindOf .close) n .done (resultWords 0 0 0 0) ∧
          s.EventsMade t (fun x => noticeTo u.producer .channelFreed 0 c d x ++
            (noticeTo u.consumer .channelFreed 0 c d x ++ noticeDone p n (kindOf .close) .done x)) ∧
          s.PoolSame t ∧ s.DeviceSame t) ∧
      (¬ (u.queue = [] ∧ u.unconfirmed = [] ∧ u.fill = false) →
        ∃ t, exec (.close p n) s = .next t ∧ t.entry c = { s.entry c with use := some { u with stage := .closing, hold := none } } ∧
          s.EntriesSameBut t c ∧ s.Answered t p (kindOf .close) n .done (resultWords 3 0 0 0) ∧
          s.EventsMade t (noticeDone p n (kindOf .close) .done) ∧ s.WordsSet t none id u.producer (fun x => { x with hold := false }) ∧
          s.PoolSame t ∧ s.DeviceSame t)

/-- CLOSE by the consumer of an OPEN or CLOSING entry frees its unconfirmed and queued records, less a LANDING head, as one free; with nothing in flight the entry becomes
FREE, otherwise ENDING; PEER_CLOSED goes to the producer with the ENDING flag (R30, R47, R48). That the word of a HELD channel freed here keeps its hold flag is the
model's reading (log 14). -/
def Obligations.ConsumerCloseDiscardsTheMessages : Prop :=
  ∀ (p : PortId) (n : Bool) (s : State) (c : ChannelId) (u : Use),
    let w := (s.piu p).slot.arguments
    let head := s.landingHead u
    let rs := u.unconfirmed ++ if head.isSome = true then u.queue.tail else u.queue
    let ending := u.fill || head.isSome
    s.SlotReady p → (s.piu p).state = .attached → s.EntryNamed (channelArg w) (generationArg w) c u → u.stage = .opened ∨ u.stage = .closing →
    u.consumedBy p = true → u.producedBy p = false →
    ∃ t, exec (.close p n) s = .next t ∧ s.PoolFreed t rs ∧ s.DeviceSame t ∧
      s.EventsMade t (fun x => noticeTo u.producer .peerClosed 0 c (peerClosedDetail (s.entry c).generation ending) x ++
        noticeDone p n (kindOf .close) .done x) ∧
      (ending = false → s.BecameFree t c u ∧ s.Answered t p (kindOf .close) n .done (resultWords 0 0 0 0)) ∧
      (ending = true →
        t.entry c = { s.entry c with use := some { u with
          stage := .ending, held := u.held - s.pool.heldBy rs, queue := head.toList, unconfirmed := [], hold := none } } ∧
        s.EntriesSameBut t c ∧ s.WordsSet t none id u.producer (fun x => { x with hold := false }) ∧
        s.Answered t p (kindOf .close) n .done (resultWords 4 0 0 0))

/-- The offer timer's expiry, taken once timeout × 1000 µs have been counted, makes the entry FREE, with OFFER_EXPIRED to the offeror and OFFER_WITHDRAWN to the
peer; on an entry that is not OFFERED it is not taken (R36, R177). -/
def Obligations.OfferTimerExpiryFreesTheEntry : Prop :=
  ∀ (s : State) (c : ChannelId),
    (∀ u o, s.use c = some u → u.stage = .offered o → o.timer.RanOut →
      let d := generationDetail (s.entry c).generation
      ∃ t, exec (.offerTimerExpiry c) s = .next t ∧ s.BecameFree t c u ∧ s.PiusSame t ∧
        s.EventsMade t (fun x => noticeTo (u.producer <|> u.consumer) .offerExpired 0 c d x ++ noticeToPort o.peer .offerWithdrawn c d x) ∧
        s.PoolSame t ∧ s.DeviceSame t) ∧
    ((∀ u o, s.use c = some u → u.stage = .offered o → ¬ o.timer.RanOut) → exec (.offerTimerExpiry c) s = .next s)

/-! ## Posting -/

/-- A write of a compose-buffer word, over canonical memories: while UNLOCKED the word is replaced, the other words stay, and reads return it; while LOCKED the write is discarded and
COMPOSE_CLOBBERED is set (R55, R57). A word reads as the four bytes of the buffer at its offset, the lowest in bits 7:0, LOCKED or not, and a WINDOW_WRITE at its offset is this write
(R170, R171). -/
def Obligations.ComposeBufferWritesAreLocked : Prop :=
  ∀ (p : PortId) (k : Fin 256) (w : Word) (s : State), s.MemoriesCanonical →
    (s.WindowOpen p → (s.piu p).copy ≠ none → exec (.composeBufferWrite p k w) s = .next (s.modPiu p fun u => { u with clobbered := true })) ∧
    (s.WindowOpen p → (s.piu p).copy = none →
      ∃ t m, exec (.composeBufferWrite p k w) s = .next t ∧ t = s.modPiu p (fun u => { u with compose := m }) ∧
        (∀ j : Fin 256, t.windowRead p .word (BitVec.ofNat 13 (4 * j.val)) =
          if j = k then w else s.windowRead p .word (BitVec.ofNat 13 (4 * j.val))) ∧
        ∀ a, a < 4 * k.val ∨ 4 * k.val + 4 ≤ a → m.read a = (s.piu p).compose.read a) ∧
    exec (.windowWrite p .word (BitVec.ofNat 13 (4 * k.val)) w) s = exec (.composeBufferWrite p k w) s ∧
    (s.resetPin = false → ∀ j, j < 4 →
      (s.windowRead p .word (BitVec.ofNat 13 (4 * k.val))).extractLsb' (8 * j) 8 = (s.piu p).compose.read (4 * k.val + j))

/-- An accepted POST: a FILLING record from the head of the record free list with segments from the head of the segment free list, the sequence taken, the held
count raised, a fill in flight, the buffer LOCKED, the slot BUSY; when the held count reaches the hold mark a FLOWING channel becomes HELD with reason QUOTA
(R9, R10, R14, R61, R62, R111). -/
def Obligations.PostIsAccepted : Prop :=
  ∀ (p : PortId) (n : Bool) (s : State) (c : ChannelId) (u : Use) (r : RecordId) (rs : List RecordId),
    let w := (s.piu p).slot.arguments
    let length := lengthArg w
    let k := segmentCount length
    let enters := u.terms.holdMark ≤ u.held + k ∧ u.hold = none
    let low := s.pool.level = .normal ∧ s.pool.segFree.length - k < 192
    s.SlotReady p → (s.piu p).state = .attached → channelArg w = c.val → s.use c = some u → u.stage = .opened → u.producedBy p = true →
    1 ≤ length → length ≤ u.terms.maxLength → (u.hold = none ∨ urgentArg w = true) → u.held + k ≤ u.terms.quota →
    s.pool.recFree = r :: rs → (if urgentArg w = true then k else 64 + k) ≤ s.pool.segFree.length →
    ∃ t, exec (.post p n) s = .next t ∧
      t.entry c = ⟨(s.entry c).generation,
        { (s.entry c).counters with
          postsAccepted := (s.entry c).counters.postsAccepted + 1
          holdsEntered := if enters then (s.entry c).counters.holdsEntered + 1 else (s.entry c).counters.holdsEntered },
        some { u with
          nextSequence := u.nextSequence + 1
          held := u.held + k
          fill := true
          hold := if enters then some ⟨.quota, ⟨8 * u.terms.holdInterval, none⟩⟩ else u.hold }⟩ ∧
      s.EntriesSameBut t c ∧
      (∀ x, t.record x = if x = r
        then some ⟨c, (s.entry c).generation, u.nextSequence, length, userTagArg w, p, urgentArg w, false, s.pool.segFree.take k, .filling⟩
        else s.record x) ∧
      t.pool.segments = s.pool.segments ∧ t.pool.segFree = s.pool.segFree.drop k ∧ t.pool.recFree = rs ∧
      t.pool.level = (if low then .low else s.pool.level) ∧
      t.holdOwed = (if low then s.holdOwed ++ allChannels else s.holdOwed) ∧ t.retestOwed = s.retestOwed ∧
      t.piu p = { s.piu p with slot := (s.piu p).slot.taken (kindOf .post) n, clobbered := false, copy := some r } ∧ s.PiusSameBut t p ∧
      s.EventsMade t (noticeTo (if enters then u.producer else none) .hold (holdQualifier .quota false) c (BitVec.ofNat 16 u.terms.holdInterval)) ∧
      s.WordsSet t none id (if enters then u.producer else none) (fun x => { x with hold := true }) ∧ s.DeviceSame t

/-- POST's tests 2 to 8 in order: BAD_CHANNEL; then CLOSED, NO_CONSUMER, BAD_ARG, TOO_LONG, HELD, QUOTA, NO_RECORDS and NO_SEGMENTS, each with the count of the
refusal in the entry and nothing else of it changed (R59, R60, Table 4-1). That a channel byte above 63 is BAD_CHANNEL, as R59 has it, and not BAD_ARG or LATE, as R161 and R172 have it, is
the model's choice (log 25). -/
def Obligations.PostIsRefusedByTheFirstTestThatFails : Prop :=
  ∀ (p : PortId) (n : Bool) (s : State),
    let w := (s.piu p).slot.arguments
    let length := lengthArg w
    let k := segmentCount length
    s.SlotReady p → (s.piu p).state = .attached →
      (63 < channelArg w ∨
          (∃ c : ChannelId, channelArg w = c.val ∧ ∀ u, s.use c = some u → u.producedBy p = true → ∃ o, u.stage = .offered o) →
        ∃ t, exec (.post p n) s = .next t ∧ s.TurnedAway t p (kindOf .post) n .badChannel) ∧
      ∀ (c : ChannelId) (u : Use), channelArg w = c.val → s.use c = some u → u.producedBy p = true →
        let counted := s.modCounters c fun x => { x with refusedOther := x.refusedOther + 1 }
        let refused := fun st => ∃ t, exec (.post p n) s = .next t ∧ counted.TurnedAway t p (kindOf .post) n st
        let fits := u.stage = .opened ∧ 1 ≤ length ∧ length ≤ u.terms.maxLength
        let flows := u.hold = none ∨ urgentArg w = true
        (u.stage = .closing ∨ u.stage = .ending → refused .closed) ∧
        (u.stage = .orphaned → refused .noConsumer) ∧
        (u.stage = .opened → length = 0 → refused .badArg) ∧
        (u.stage = .opened → u.terms.maxLength < length → 1 ≤ length → refused .tooLong) ∧
        (fits → u.hold.isSome = true → urgentArg w = false →
          ∃ t, exec (.post p n) s = .next t ∧
            (s.modCounters c fun x => { x with refusedHold := x.refusedHold + 1 }).TurnedAway t p (kindOf .post) n .held) ∧
        (fits → flows → u.terms.quota < u.held + k → refused .quota) ∧
        (fits → flows → u.held + k ≤ u.terms.quota → s.pool.recFree = [] → refused .noRecords) ∧
        (fits → flows → u.held + k ≤ u.terms.quota → s.pool.recFree ≠ [] → s.pool.segFree.length < (if urgentArg w = true then k else 64 + k) →
          refused .noSegments)

/-- A copy that completes on an OPEN entry, over canonical memories: each segment of the record's chain, in chain order, holds 64 bytes of the buffer, also beyond the length, no byte of a
segment outside the chain changes, the record joins the queue as QUEUED, the buffer unlocks, and the POST completes DONE with its sequence (R6, R64, R66). -/
def Obligations.CopyCompletionQueuesTheMessage : Prop :=
  ∀ (p : PortId) (s : State) (r : RecordId) (rec : Record) (u : Use),
    let c := rec.channel
    s.MemoriesCanonical → (s.piu p).copy = some r → s.record r = some rec → (s.entry c).generation = rec.generation → s.use c = some u → u.stage = .opened → rec.ChainWhole →
    ∃ t, exec (.copyCompletion p) s = .next t ∧
      t.entry c = { s.entry c with use := some { u with queue := u.queue ++ [r], fill := false } } ∧ s.EntriesSameBut t c ∧
      (∀ x, t.record x = if x = r then some { rec with state := .queued } else s.record x) ∧
      (∀ i, i < 64 * segmentCount rec.length → t.pool.segments.read (segmentAddress rec.chain i) = (s.piu p).compose.read i) ∧
      (∀ a, (∀ x ∈ rec.chain, a / 64 ≠ x.val) → t.pool.segments.read a = s.pool.segments.read a) ∧
      t.pool.segFree = s.pool.segFree ∧ t.pool.recFree = s.pool.recFree ∧ t.pool.level = s.pool.level ∧
      t.holdOwed = s.holdOwed ∧ t.retestOwed = s.retestOwed ∧
      t.piu p = { s.piu p with copy := none, slot := (s.piu p).slot.completed .done (resultWords rec.sequence.toNat 1 0 0) } ∧ s.PiusSameBut t p ∧
      s.EventsMade t (noticeDone p (s.piu p).slot.notify (s.piu p).slot.kind .done) ∧ s.WordsSame t ∧ s.DeviceSame t

/-- A copy that completes on an ENDING or ORPHANED entry: its record is freed, the held count falls, the fill is over, and the POST completes with CLOSED or
NO_CONSUMER; an ENDING entry with nothing left in flight becomes FREE with CHANNEL_FREED (cause END) to both parties (R49, R50, R67). That COMMAND_DONE comes before
CHANNEL_FREED there is the model's reading (log 12). -/
def Obligations.CopyCompletionOnADepartedConsumer : Prop :=
  ∀ (p : PortId) (s : State) (r : RecordId) (rec : Record) (u : Use),
    let c := rec.channel
    let s1 := s.copyPayload p rec (64 * segmentCount rec.length)
    let d := freedDetail (s.entry c).generation .finish
    let freed := u.stage = .ending ∧ u.queue = []
    let st : Status := if u.stage = .ending then .closed else .noConsumer
    (s.piu p).copy = some r → s.record r = some rec → (s.entry c).generation = rec.generation → s.use c = some u →
    u.stage = .ending ∨ u.stage = .orphaned →
    ∃ t, exec (.copyCompletion p) s = .next t ∧ s1.PoolFreed t [r] ∧
      t.piu p = { s.piu p with copy := none, slot := (s.piu p).slot.completed st (resultWords rec.sequence.toNat 1 0 0) } ∧ s.PiusSameBut t p ∧
      s.EventsMade t (fun x => noticeDone p (s.piu p).slot.notify (s.piu p).slot.kind st x ++
        (noticeTo (if freed then u.producer else none) .channelFreed 0 c d x ++ noticeTo (if freed then u.consumer else none) .channelFreed 0 c d x)) ∧
      (freed → s.BecameFree t c u) ∧
      (¬ freed → t.entry c = { s.entry c with use := some { u with held := u.held - segmentCount rec.length, fill := false } } ∧
        s.EntriesSameBut t c ∧ s.WordsSame t) ∧
      s.DeviceSame t

/-! ## Landing and credit -/

/-- An IDLE Port Writer of an ATTACHED port with no due signal and no requested flush starts the landing of the head record of the first ready channel after the pointer of the lowest
priority that has a ready channel; the record becomes LANDING, the pointer names the channel, the job holds generation, record and write index, and its first write is issued with its
timeout started (R75, R76, R77, R79). A channel is ready when it is OPEN or CLOSING with its ring ARMED, its head record QUEUED, a free landing slot and, when CONFIRMED, fewer unconfirmed
records than its window (R31). With no ready channel, and in every other case, nothing is taken. That the writes are fixed at the start is the model's choice (log 4), and so is the number
of the job (log 26). -/
def Obligations.LandingJobStartServesTheChosenChannel : Prop :=
  ∀ (p : PortId) (s : State),
    let free := (s.writer p).state = .idle ∧ (s.piu p).state = .attached ∧ (∀ v, ((s.nu p).vectors.read v).due = false) ∧ (s.nu p).flushRequest = false
    let readyOn : ChannelId → Use → Ring → RecordId → Record → Prop := fun c u ring r rec =>
      s.use c = some u ∧ u.consumedBy p = true ∧ (u.stage = .opened ∨ u.stage = .closing) ∧ (u.ring = some ring ∧ ring.armed = true) ∧
        (u.queue.head? = some r ∧ s.record r = some rec ∧ rec.state = .queued) ∧ 1 ≤ ring.slotCount - (ring.writeIndex - ring.readIndex).toNat ∧
        ∀ w, u.terms.cls = .confirmed w → u.unconfirmed.length < w
    let ready : ChannelId → Fin 4 → Prop := fun c k => ∃ u ring r rec, readyOn c u ring r rec ∧ u.terms.priority = k
    (¬ free ∨ (∀ c k, ¬ ready c k) → exec (.landingJobStart p) s = .next s) ∧
    ∀ (k : Fin 4) (c : ChannelId) (u : Use) (r : RecordId) (rec : Record) (ring : Ring),
      let pointer := (s.roundRobin.read p).read k
      free → readyOn c u ring r rec → u.terms.priority = k → (∀ d j, ready d j → k ≤ j) →
      (∀ d, ready d k → (c - pointer - 1 : ChannelId) ≤ d - pointer - 1) →
      ∃ t, exec (.landingJobStart p) s = .next t ∧
        t.writer p = { s.writer p with
          state := .busy ⟨.landing c (s.entry c).generation r ring.writeIndex, landingWrites s.pool.segments rec u.terms.cls ring ring.writeIndex, ⟨64, none⟩⟩
          jobs := (s.writer p).jobs + 1 } ∧
        (∀ q, q ≠ p → t.writer q = s.writer q) ∧
        (∀ q j, (t.roundRobin.read q).read j = if q = p ∧ j = k then c else (s.roundRobin.read q).read j) ∧
        t.pool = { s.pool with records := s.pool.records.write r (some { rec with state := .landing }) } ∧
        t.holdOwed = s.holdOwed ∧ t.retestOwed = s.retestOwed ∧ t.entries = s.entries ∧ s.PiusSame t ∧ (∀ q, t.nu q = s.nu q) ∧
        t.pending = s.pending ∧ t.resetPin = s.resetPin ∧ t.onTick = s.onTick ∧ t.freeIndex = s.freeIndex ∧
        ∀ q, (t.port q).flushOwed = (s.port q).flushOwed ∧ (t.port q).requeueOwed = (s.port q).requeueOwed

/-- A landing writes its slot in two parts: the payload, its length rounded up to whole words, from slot address + 16 on, then the header as four words, word 3
zero, with the fields of Table 11-4 and every other bit zero (R174). The slot address is base + (index mod slot count) × slot size (R80). One 32-bit word a write, the payload ascending and
the header words in the order 0 to 3 are the model's reading (log 3); addresses wrap modulo 2^32, on which the spec is silent (log 23). -/
def Obligations.LandingWritesPayloadThenHeader : Prop :=
  ∀ (segments : Memory) (rec : Record) (cls : ChannelClass) (ring : Ring) (index : Half), rec.length < 65536 →
    let slot : Word := ring.base + BitVec.ofNat 32 (index.toNat % ring.slotCount * (64 * ring.slotUnits))
    let words := (rec.length + 3) / 4
    let ws := landingWrites segments rec cls ring index
    ws.length = words + 4 ∧
    (∀ k, k < words → ∃ data, ws[k]? = some ⟨slot + 16 + BitVec.ofNat 32 (4 * k), data⟩ ∧
      ∀ j, j < 4 → data.extractLsb' (8 * j) 8 = segments.read (64 * (rec.chain.getD ((4 * k + j) / 64) 0).val + (4 * k + j) % 64)) ∧
    ∃ h0 h1 h2 : Word,
      ws[words]? = some ⟨slot, h0⟩ ∧ ws[words + 1]? = some ⟨slot + 4, h1⟩ ∧ ws[words + 2]? = some ⟨slot + 8, h2⟩ ∧ ws[words + 3]? = some ⟨slot + 12, 0⟩ ∧
      bits h0 15 0 = rec.length ∧ bit h0 16 = rec.urgent ∧ bit h0 17 = cls.isConfirmed ∧ bit h0 18 = rec.replay ∧ bits h0 23 19 = 0 ∧
      bits h0 25 24 = rec.source.val ∧ bits h0 31 26 = 0 ∧
      bits h1 7 0 = rec.channel.val ∧ bits h1 15 8 = 0 ∧ bits h1 31 16 = rec.sequence.toNat ∧
      bits h2 15 0 = rec.userTag.toNat ∧ bits h2 31 16 = index.toNat

/-- LINK_WRITE_OK to the write in flight issues the next write of the job with its timeout started; the OK to the last write is the completion of the job, by its kind (R75). An answer
to a write of a job that has ended (its number is not that of the job in flight, or no job is in flight) is not taken, nor is a write timeout before its 64 ticks (R75, R177), nor a
completion row while more than one write of the job is left, or of another kind than the job in flight. The numbers by which answers name jobs are the model's own (log 26). -/
def Obligations.LinkWriteOkIssuesTheNextWrite : Prop :=
  ∀ (p : PortId) (s : State),
    (∀ job, (s.writer p).state = .busy job →
      let a : LinkAnswer := ⟨p, (s.writer p).jobs⟩
      (∀ x y ws, job.writes = x :: y :: ws →
        exec (.linkWriteOk a) s = .next (s.modWriter p fun w => { w with state := .busy ⟨job.kind, y :: ws, ⟨64, none⟩⟩ })) ∧
      (∀ x c g r i, job.writes = [x] → job.kind = .landing c g r i → exec (.linkWriteOk a) s = exec (.landingCompletion a) s) ∧
      (∀ x m tag vs, job.writes = [x] → job.kind = .flush m tag vs → exec (.linkWriteOk a) s = exec (.flushCompletion a) s) ∧
      (∀ x v, job.writes = [x] → job.kind = .signal v → exec (.linkWriteOk a) s = exec (.signalCompletion a) s) ∧
      (∀ x y ws, job.writes = x :: y :: ws →
        exec (.landingCompletion a) s = .next s ∧ exec (.flushCompletion a) s = .next s ∧ exec (.signalCompletion a) s = .next s) ∧
      ((∀ c g r i, job.kind ≠ .landing c g r i) → exec (.landingCompletion a) s = .next s) ∧
      ((∀ m tag vs, job.kind ≠ .flush m tag vs) → exec (.flushCompletion a) s = .next s) ∧
      ((∀ v, job.kind ≠ .signal v) → exec (.signalCompletion a) s = .next s)) ∧
    (∀ k, k ≠ (s.writer p).jobs ∨ (s.writer p).state = .idle ∨ (s.writer p).state = .stopped →
      (∀ i, i ∈ [Instr.linkWriteOk ⟨p, k⟩, .landingCompletion ⟨p, k⟩, .flushCompletion ⟨p, k⟩, .signalCompletion ⟨p, k⟩, .linkWriteError ⟨p, k, false⟩] →
        exec i s = .next s) ∧
      ((s.piu p).faultHanded = false → exec (.linkWriteError ⟨p, k, true⟩) s = .next s)) ∧
    ((∀ job, (s.writer p).state = .busy job → ¬ job.timeout.RanOut) →
      exec (.writeTimeout ⟨p, false⟩) s = .next s ∧ ((s.piu p).faultHanded = false → exec (.writeTimeout ⟨p, true⟩) s = .next s))

/-- A landing that completes on an OPEN entry: the record leaves the queue and is freed (PLAIN) or joins the unconfirmed list (CONFIRMED), the write index advances and is
handed to the consumer's word with one count toward its vector, "landed" and for a replay "replayed" rise, a hold at or below its release mark with the pool
NORMAL is released, and the Port Writer becomes IDLE (R28, R74, R82, R115). That the release check follows the landing of a CONFIRMED message too, as R82 has it, though R114 lists only
PLAIN landings, is the model's reading (log 22). -/
def Obligations.LandingCompletionOnAnOpenEntry : Prop :=
  ∀ (p : PortId) (s : State) (g : Byte) (r : RecordId) (i : Half) (x : LinkWrite) (m : Timer) (rec : Record) (u : Use) (ring : Ring) (a : Party),
    let c := rec.channel
    let plain := u.terms.cls = .plain
    let pool := if plain then s.pool.free [r] else { s.pool with records := s.pool.records.write r (some { rec with state := .unconfirmed }) }
    let held := if plain then u.held - segmentCount rec.length else u.held
    let released := u.hold.isSome = true ∧ held ≤ u.terms.releaseMark ∧ pool.level = .normal
    let counted := s.countVector a.port (slotVector (s.nu a.port).grant a.slot)
    (s.writer p).state = .busy ⟨.landing c g r i, [x], m⟩ → (s.piu p).state = .attached → s.record r = some rec →
    (s.entry c).generation = rec.generation → s.use c = some u → u.stage = .opened → u.ring = some ring → u.consumer = some a →
    ∃ t, exec (.landingCompletion ⟨p, (s.writer p).jobs⟩) s = .next t ∧
      t.entry c = ⟨(s.entry c).generation,
        { (s.entry c).counters with
          landed := (s.entry c).counters.landed + 1
          replayed := if rec.replay = true then (s.entry c).counters.replayed + 1 else (s.entry c).counters.replayed },
        some { u with
          queue := u.queue.erase r
          unconfirmed := if plain then u.unconfirmed else u.unconfirmed ++ [r]
          held := held
          ring := some { ring with writeIndex := ring.writeIndex + 1 }
          hold := if released then none else u.hold }⟩ ∧
      s.EntriesSameBut t c ∧
      (plain → s.PoolFreed t [r]) ∧ (¬ plain → t.pool = pool ∧ t.holdOwed = s.holdOwed ∧ t.retestOwed = s.retestOwed) ∧
      s.PiusSame t ∧
      counted.EventsMade t (noticeTo (if released then u.producer else none) .resume (resumeQualifier false) c (BitVec.ofNat 16 held)) ∧
      s.WordsSet t (some a) (fun w => { w with writeIndex := ring.writeIndex + 1 }) (if released then u.producer else none)
        (fun w => { w with hold := false }) ∧
      s.WriterBecameIdle t p

/-- A landing that completes on a CLOSING entry lands as on an OPEN one without a release; the one that drains a PLAIN channel makes its entry FREE with CHANNEL_FREED, cause DRAIN. On an
ENDING entry it frees its record with nothing counted or handed; with nothing left in flight the entry becomes FREE with cause END, and with a fill in flight it stays (R45, R49, R50, R82). -/
def Obligations.LandingCompletionDrainsTheEntry : Prop :=
  ∀ (p : PortId) (s : State) (g : Byte) (r : RecordId) (i : Half) (x : LinkWrite) (m : Timer) (rec : Record) (u : Use) (ring : Ring) (a : Party),
    let c := rec.channel
    let plain := u.terms.cls = .plain
    let drained := plain ∧ u.unconfirmed = [] ∧ u.queue.erase r = [] ∧ u.fill = false
    let ended := u.queue.erase r = [] ∧ u.fill = false
    let held := u.held - segmentCount rec.length
    let counted := s.countVector a.port (slotVector (s.nu a.port).grant a.slot)
    let landing := exec (.landingCompletion ⟨p, (s.writer p).jobs⟩) s
    (s.writer p).state = .busy ⟨.landing c g r i, [x], m⟩ → (s.piu p).state = .attached → s.record r = some rec →
    (s.entry c).generation = rec.generation → s.use c = some u → u.ring = some ring → u.consumer = some a →
      (u.stage = .closing → drained →
        let d := freedDetail (s.entry c).generation .drain
        ∃ t, landing = .next t ∧ t.entry c = ⟨(s.entry c).generation, Counters.zero, none⟩ ∧ s.EntriesSameBut t c ∧
          s.WordsSet t (some a) (fun w => { w with bound := false, writeIndex := ring.writeIndex + 1 }) u.producer (fun w => { w with bound := false }) ∧
          s.PoolFreed t [r] ∧ s.PiusSame t ∧
          counted.EventsMade t (fun y => noticeTo u.producer .channelFreed 0 c d y ++ noticeTo u.consumer .channelFreed 0 c d y) ∧ s.WriterBecameIdle t p) ∧
      (u.stage = .closing → ¬ drained →
        ∃ t, landing = .next t ∧
          t.entry c = ⟨(s.entry c).generation,
            { (s.entry c).counters with
              landed := (s.entry c).counters.landed + 1
              replayed := if rec.replay = true then (s.entry c).counters.replayed + 1 else (s.entry c).counters.replayed },
            some { u with
              queue := u.queue.erase r
              unconfirmed := if plain then u.unconfirmed else u.unconfirmed ++ [r]
              held := if plain then held else u.held
              ring := some { ring with writeIndex := ring.writeIndex + 1 } }⟩ ∧
          s.EntriesSameBut t c ∧
          (plain → s.PoolFreed t [r]) ∧
          (¬ plain → t.pool = { s.pool with records := s.pool.records.write r (some { rec with state := .unconfirmed }) } ∧
            t.holdOwed = s.holdOwed ∧ t.retestOwed = s.retestOwed) ∧
          s.PiusSame t ∧ counted.EventsMade t (fun _ => []) ∧ s.WordsSet t (some a) (fun w => { w with writeIndex := ring.writeIndex + 1 }) none id ∧
          s.WriterBecameIdle t p) ∧
      (u.stage = .ending → ended →
        let d := freedDetail (s.entry c).generation .finish
        ∃ t, landing = .next t ∧ s.BecameFree t c u ∧ s.PoolFreed t [r] ∧ s.PiusSame t ∧
          s.EventsMade t (fun y => noticeTo u.producer .channelFreed 0 c d y ++ noticeTo u.consumer .channelFreed 0 c d y) ∧ s.WriterBecameIdle t p) ∧
      (u.stage = .ending → ¬ ended →
        ∃ t, landing = .next t ∧ t.entry c = { s.entry c with use := some { u with queue := u.queue.erase r, held := held } } ∧ s.EntriesSameBut t c ∧
          s.PoolFreed t [r] ∧ s.PiusSame t ∧ (∀ q, t.nu q = s.nu q) ∧ s.WriterBecameIdle t p)

/-- A write answered ERROR, or unanswered for its 64 ticks, on an ATTACHED port: the fault record takes kind and address, the Port Writer stops, the job's failure is taken (a LANDING record on
an OPEN or CLOSING entry is QUEUED again, one on an ENDING entry is freed with the FREE check) and the failure is handed to the port state machine, the port still ATTACHED (R49, R50, R75, R84,
R85, R89, R137, Table 5-6). Taking it makes the port FAULTED with its vectors OFF, and the fault is owed to every entry of which the port is the consumer, offers apart (R142, R157); that an offer
with the port as consumer is not reached, as R157 has it against R103, is the model's choice (log 31). The row's operand, the model's own (log 27), says whether it is taken in the same step. The
owed flag of a vector clears with the vector (log 13). -/
def Obligations.LinkFailureFaultsThePort : Prop :=
  ∀ (p : PortId) (s : State),
    (∀ (kind : FaultKind) (job : Job) (x : LinkWrite) (xs : List LinkWrite),
      let answer : Bool → Instr := fun taken => if kind = .timeout then .writeTimeout ⟨p, taken⟩ else .linkWriteError ⟨p, (s.writer p).jobs, taken⟩
      kind = .busError ∨ (kind = .timeout ∧ job.timeout.RanOut) → (s.writer p).state = .busy job → job.writes = x :: xs → (s.piu p).state = .attached →
      (∀ c g r j, job.kind = .landing c g r j → ∃ rec u, s.record r = some rec ∧ (s.entry rec.channel).generation = rec.generation ∧
        s.use rec.channel = some u ∧ (u.stage = .opened ∨ u.stage = .closing ∨ u.stage = .ending)) →
      ∃ t, exec (answer false) s = .next t ∧ exec (answer true) s = exec (.linkWriteError ⟨p, (s.writer p).jobs, true⟩) t ∧
        t.writer p = ⟨.stopped, kind, x.address, (s.writer p).jobs⟩ ∧ s.DeviceSameButWriter t p ∧
        t.piu p = { s.piu p with faultHanded := true } ∧ s.PiusSameBut t p ∧
        ((∀ c g r j, job.kind ≠ .landing c g r j) → t.entries = s.entries ∧ s.PoolSame t ∧ ∀ q, t.nu q = s.nu q) ∧
        ∀ c g r j rec u, job.kind = .landing c g r j → s.record r = some rec → s.use rec.channel = some u →
          let freed := u.queue.erase r = [] ∧ u.fill = false
          let d := freedDetail (s.entry rec.channel).generation .finish
          (u.stage ≠ .ending → t.entries = s.entries ∧ (∀ q, t.nu q = s.nu q) ∧ t.holdOwed = s.holdOwed ∧ t.retestOwed = s.retestOwed ∧
            t.pool = { s.pool with records := s.pool.records.write r (some { rec with state := .queued }) }) ∧
          (u.stage = .ending → freed → s.BecameFree t rec.channel u ∧ s.PoolFreed t [r] ∧
            s.EventsMade t (fun y => noticeTo u.producer .channelFreed 0 rec.channel d y ++ noticeTo u.consumer .channelFreed 0 rec.channel d y)) ∧
          (u.stage = .ending → ¬ freed → s.PoolFreed t [r] ∧ s.EntriesSameBut t rec.channel ∧ (∀ q, t.nu q = s.nu q) ∧
            t.entry rec.channel =
              { s.entry rec.channel with use := some { u with queue := u.queue.erase r, held := u.held - segmentCount rec.length } })) ∧
    ∀ k, (s.writer p).state = .stopped → (s.piu p).state = .attached → (s.piu p).faultHanded = true →
      ∃ t, exec (.linkWriteError ⟨p, k, true⟩) s = .next t ∧ t.piu p = { s.piu p with state := .faulted, faultHanded := false } ∧ s.PiusSameBut t p ∧
        t.nu p = (s.nu p).departed Coalescer.turnedOff ∧ (∀ q, q ≠ p → t.nu q = s.nu q) ∧
        (∀ c, c ∈ (t.port p).requeueOwed ↔ c ∈ (s.port p).requeueOwed ∨ ∃ u, s.use c = some u ∧ u.consumedBy p = true ∧ ∀ o, u.stage ≠ .offered o) ∧
        (t.port p).flushOwed = (s.port p).flushOwed ∧ s.DeviceSameButOwed t p ∧ t.entries = s.entries ∧ s.PoolSame t

/-- A credit write on a slot bound to a channel with an ARMED ring: a value from the read index up to the write index becomes the read index and the slot's credit
value; any other changes neither and queues CREDIT_RANGE with the slot and the value written (R91). A write on an unbound slot or a DISARMED ring is discarded
(R90). That a value equal to the read index is written to the credit word also where the word held another value is the model's choice (log 29). -/
def Obligations.CreditWriteMovesTheReadIndex : Prop :=
  ∀ (p : PortId) (i : SlotId) (w : Word) (s : State), s.WindowOpen p →
    (s.SlotUnbound .consumer ⟨p, i⟩ → exec (.creditWrite p i w) s = .next s) ∧
    ∀ (c : ChannelId) (u : Use) (ring : Ring),
      let new := BitVec.ofNat 16 (bits w 15 0)
      let accepted := (new - ring.readIndex).toNat ≤ (ring.writeIndex - ring.readIndex).toNat
      s.use c = some u → u.binds .consumer ⟨p, i⟩ = true → u.ring = some ring → s.SlotsBoundOnce →
        (ring.armed = false → exec (.creditWrite p i w) s = .next s) ∧
        (ring.armed = true → accepted →
          ∃ t, exec (.creditWrite p i w) s = .next t ∧
            t.entry c = { s.entry c with use := some { u with ring := some { ring with readIndex := new } } } ∧ s.EntriesSameBut t c ∧
            t.piu p = { s.piu p with credit := (s.piu p).credit.write i new } ∧ s.PiusSameBut t p ∧ (∀ q, t.nu q = s.nu q) ∧ s.PoolSame t ∧ s.DeviceSame t) ∧
        (ring.armed = true → ¬ accepted →
          ∃ t, exec (.creditWrite p i w) s = .next t ∧
            s.EventsMade t (fun q => if q = p then [⟨.creditRange, 0, BitVec.ofNat 8 i.val, new, some i⟩] else []) ∧
            t.entries = s.entries ∧ s.PiusSame t ∧ s.WordsSame t ∧ s.PoolSame t ∧ s.DeviceSame t)

/-- An accepted LAND gives an OPEN or CLOSING entry a fresh ARMED ring with indices 0 and the slot credit value 0, hands write index 0, sends CONSUMER_BACK to the
producer, and answers with the queued count; nothing else of the entry changes (R94). -/
def Obligations.LandArmsAFreshRing : Prop :=
  ∀ (p : PortId) (n : Bool) (s : State) (c : ChannelId) (u : Use) (i : SlotId),
    let w := (s.piu p).slot.arguments
    let r := ringArgs w
    s.SlotReady p → (s.piu p).state = .attached → s.EntryNamed (channelArg w) (generationArg w) c u → u.consumer = some ⟨p, i⟩ →
    u.stage = .opened ∨ u.stage = .closing → (∀ x, u.ring = some x → x.armed = false) → ringOk r = true → u.terms.maxLength + 16 ≤ 64 * r.slotUnits →
    ∃ t, exec (.land p n) s = .next t ∧
      t.entry c = { s.entry c with use := some { u with ring := some ⟨true, r.base, r.slotCount, r.slotUnits, 0, 0⟩ } } ∧ s.EntriesSameBut t c ∧
      t.piu p = { s.piu p with
        slot := (s.piu p).slot.answered (kindOf .land) n .done (resultWords u.queue.length 0 0 0)
        credit := (s.piu p).credit.write i 0 } ∧
      s.PiusSameBut t p ∧
      s.EventsMade t (fun x => noticeTo u.producer .consumerBack 0 c (generationDetail (s.entry c).generation) x ++ noticeDone p n (kindOf .land) .done x) ∧
      s.WordsSet t (some ⟨p, i⟩) (fun x => { x with writeIndex := 0 }) none id ∧ s.PoolSame t ∧ s.DeviceSame t

/-- LAND's tests in order (R93): BAD_ARG, LATE, BAD_CHANNEL, CLOSED, BAD_STATE, BAD_ARG, RING_TOO_SMALL; and CONFIRM's (Table 6-1): BAD_ARG, BAD_CHANNEL, CLOSED, BAD_CHANNEL on a
PLAIN channel, CONFIRM_RANGE. -/
def Obligations.LandAndConfirmAreRefusedByTheFirstTestThatFails : Prop :=
  ∀ (p : PortId) (n : Bool) (s : State),
    let w := (s.piu p).slot.arguments
    let r := ringArgs w
    let land := fun st => ∃ t, exec (.land p n) s = .next t ∧ s.TurnedAway t p (kindOf .land) n st
    let confirm := fun st => ∃ t, exec (.confirm p n) s = .next t ∧ s.TurnedAway t p (kindOf .confirm) n st
    s.SlotReady p → (s.piu p).state = .attached →
      (63 < channelArg w → land .badArg ∧ confirm .badArg) ∧
      (∀ c : ChannelId, channelArg w = c.val → s.use c = none → land .late ∧ confirm .badChannel) ∧
      (∀ c : ChannelId, channelArg w = c.val → (s.entry c).generation ≠ generationArg w → land .late) ∧
      (∀ c u, s.EntryNamed (channelArg w) (generationArg w) c u →
        let going := u.stage = .opened ∨ u.stage = .closing
        let disarmed := ∀ x, u.ring = some x → x.armed = false
        (u.consumedBy p = false → land .badChannel) ∧
        (u.consumedBy p = true → u.stage = .ending → land .closed) ∧
        (u.consumedBy p = true → u.stage ≠ .ending → ¬ going ∨ ¬ disarmed → land .badState) ∧
        (u.consumedBy p = true → going → disarmed → ringOk r = false → land .badArg) ∧
        (u.consumedBy p = true → going → disarmed → ringOk r = true → 64 * r.slotUnits < u.terms.maxLength + 16 → land .ringTooSmall)) ∧
      ∀ (c : ChannelId) (u : Use), channelArg w = c.val → s.use c = some u →
        let going := u.stage = .opened ∨ u.stage = .closing
        (u.consumedBy p = false ∨ (∃ o, u.stage = .offered o) ∨ u.stage = .orphaned → confirm .badChannel) ∧
        (u.consumedBy p = true → u.stage = .ending → confirm .closed) ∧
        (u.consumedBy p = true → going → u.terms.cls = .plain → confirm .badChannel) ∧
        (u.consumedBy p = true → going → u.terms.cls ≠ .plain → (∀ x ∈ u.unconfirmed, ∀ rec, s.record x = some rec → rec.sequence ≠ sequenceArg w) →
          confirm .confirmRange)

/-! ## Confirmation and redelivery -/

/-- An accepted CONFIRM releases the record that carries the sequence and every one before it in the unconfirmed list, as one free; the held count falls, the sequence is
handed to the producer's word with one count toward its vector; on OPEN a hold at or below its release mark with the pool NORMAL is released, a CLOSING entry
left empty becomes FREE with cause DRAIN and any other stays CLOSING; the response carries the numbers released and remaining (R45, R100, R101, R115). That COMMAND_DONE comes after
the other events of the step is the model's reading (log 12). -/
def Obligations.ConfirmReleasesTheConfirmedMessages : Prop :=
  ∀ (p : PortId) (n : Bool) (s : State) (c : ChannelId) (u : Use) (pre rest : List RecordId) (r : RecordId) (rec : Record) (b : Party),
    let w := (s.piu p).slot.arguments
    let rs := pre ++ [r]
    let held := u.held - s.pool.heldBy rs
    let released := u.hold.isSome = true ∧ held ≤ u.terms.releaseMark ∧ (s.pool.free rs).level = .normal
    let drained := rest = [] ∧ u.queue = [] ∧ u.fill = false
    let counted := s.countVector b.port (slotVector (s.nu b.port).grant b.slot)
    let results := resultWords rs.length rest.length 0 0
    s.SlotReady p → (s.piu p).state = .attached → channelArg w = c.val → s.use c = some u → u.consumedBy p = true → u.terms.cls ≠ .plain →
    u.producer = some b → u.unconfirmed = pre ++ r :: rest → s.record r = some rec → rec.sequence = sequenceArg w →
    (∀ x ∈ pre, ∀ y, s.record x = some y → y.sequence ≠ sequenceArg w) →
      (u.stage = .opened →
        ∃ t, exec (.confirm p n) s = .next t ∧
          t.entry c = { s.entry c with use := some { u with held := held, unconfirmed := rest, hold := if released then none else u.hold } } ∧
          s.EntriesSameBut t c ∧ s.PoolFreed t rs ∧ s.Answered t p (kindOf .confirm) n .done results ∧
          counted.EventsMade t (fun x => noticeTo (if released then u.producer else none) .resume (resumeQualifier false) c (BitVec.ofNat 16 held) x ++
            noticeDone p n (kindOf .confirm) .done x) ∧
          s.WordsSet t none id (some b) (fun x => { x with lastConfirmed := sequenceArg w, hold := if released then false else x.hold }) ∧ s.DeviceSame t) ∧
      (u.stage = .closing → drained →
        let d := freedDetail (s.entry c).generation .drain
        ∃ t, exec (.confirm p n) s = .next t ∧ t.entry c = ⟨(s.entry c).generation, Counters.zero, none⟩ ∧ s.EntriesSameBut t c ∧ s.PoolFreed t rs ∧
          s.Answered t p (kindOf .confirm) n .done results ∧
          counted.EventsMade t (fun x => noticeTo u.producer .channelFreed 0 c d x ++
            (noticeTo u.consumer .channelFreed 0 c d x ++ noticeDone p n (kindOf .confirm) .done x)) ∧
          s.WordsSet t u.consumer (fun x => { x with bound := false }) (some b) (fun x => { x with bound := false, lastConfirmed := sequenceArg w }) ∧
          s.DeviceSame t) ∧
      (u.stage = .closing → ¬ drained →
        ∃ t, exec (.confirm p n) s = .next t ∧ t.entry c = { s.entry c with use := some { u with held := held, unconfirmed := rest } } ∧
          s.EntriesSameBut t c ∧ s.PoolFreed t rs ∧ s.Answered t p (kindOf .confirm) n .done results ∧
          counted.EventsMade t (noticeDone p n (kindOf .confirm) .done) ∧
          s.WordsSet t none id (some b) (fun x => { x with lastConfirmed := sequenceArg w }) ∧ s.DeviceSame t)

/-- The requeue of an OPEN or CLOSING entry: every unconfirmed record, in list order, moves to the front of the queue as QUEUED with replay yes, the ring becomes DISARMED
with its other fields kept, and when it was ARMED CONSUMER_AWAY goes to the producer (R104). On any other entry, an entry of which the port is the producer among them, the request
changes nothing (R103, R151); a request that is
not owed is not taken (log 2), and one that was taken is owed no more (log 9), the model's readings. -/
def Obligations.RequeueMovesTheUnconfirmedToTheFront : Prop :=
  ∀ (p : PortId) (c : ChannelId) (s : State),
    (c ∉ (s.port p).requeueOwed → exec (.requeue p c) s = .next s) ∧
    (c ∈ (s.port p).requeueOwed →
      ∃ t, exec (.requeue p c) s = .next t ∧ (t.port p).requeueOwed = (s.port p).requeueOwed.erase c ∧ (t.port p).flushOwed = (s.port p).flushOwed ∧
        s.DeviceSameButOwed t p ∧ s.PiusSame t ∧ s.WordsSame t ∧ t.holdOwed = s.holdOwed ∧ t.retestOwed = s.retestOwed ∧
        t.pool.segments = s.pool.segments ∧ t.pool.segFree = s.pool.segFree ∧ t.pool.recFree = s.pool.recFree ∧ t.pool.level = s.pool.level ∧
        ((∀ u, s.use c = some u → ¬ (u.consumedBy p = true ∧ (u.stage = .opened ∨ u.stage = .closing))) →
          t.entries = s.entries ∧ t.pool = s.pool ∧ ∀ q, t.nu q = s.nu q) ∧
        ∀ u, s.use c = some u → u.consumedBy p = true → u.stage = .opened ∨ u.stage = .closing →
          t.entry c = { s.entry c with use := some { u with
            queue := u.unconfirmed ++ u.queue
            unconfirmed := []
            ring := u.ring.map fun x => { x with armed := false } } } ∧
          s.EntriesSameBut t c ∧
          (∀ x, t.record x = if x ∈ u.unconfirmed then (s.record x).map (fun rec => { rec with state := .queued, replay := true }) else s.record x) ∧
          s.EventsMade t (noticeTo (if u.ring.any (fun x => x.armed) = true then u.producer else none) .consumerAway 0 c
            (generationDetail (s.entry c).generation)))

/-! ## Hold and resume -/

/-- A pool hold request holds an OPEN FLOWING channel above its release mark with reason POOL; a retest releases an OPEN HELD channel at or below its release mark when it
sees the pool NORMAL: the pool is NORMAL, or its new entry into LOW is still owed to the entry as a pool hold request, the model's reading of which request is which (log 10); each is taken
once and otherwise changes nothing (R111, R112, R115, R116). A free of records in use puts their chains at the tail of the segment free list and the records at
the tail of the record free list, in the order named, leaves the segments' bytes, and makes a LOW pool NORMAL when 384 or more segments are free (R1, R12, R15); what they held is the sum
of their segment counts (R28). -/
def Obligations.PoolChangesReachTheEntries : Prop :=
  (∀ (pool : Pool) (rs : List RecordId), rs.Nodup → (∀ r ∈ rs, (pool.records.read r).isSome = true) →
    let freed := pool.free rs
    freed.segFree = pool.segFree ++ rs.flatMap (fun r => ((pool.records.read r).map fun rec => rec.chain).getD []) ∧
    freed.recFree = pool.recFree ++ rs ∧ (∀ r, freed.records.read r = if r ∈ rs then none else pool.records.read r) ∧
    freed.segments = pool.segments ∧ freed.level = (if pool.level = .low ∧ 384 ≤ freed.segFree.length then .normal else pool.level) ∧
    pool.heldBy rs = (rs.map fun r => ((pool.records.read r).map fun rec => (rec.length + 63) / 64).getD 0).sum) ∧
  ∀ (c : ChannelId) (s : State),
    (c ∉ s.holdOwed → exec (.poolHoldRequest c) s = .next s) ∧ (c ∉ s.retestOwed → exec (.poolRetest c) s = .next s) ∧
    (c ∈ s.holdOwed →
      ∃ t, exec (.poolHoldRequest c) s = .next t ∧ t.holdOwed = s.holdOwed.erase c ∧ t.retestOwed = s.retestOwed ∧ t.pool = s.pool ∧ s.PiusSame t ∧
        s.DeviceSame t ∧ s.EntriesSameBut t c ∧
        ((∀ u, s.use c = some u → ¬ (u.stage = .opened ∧ u.hold = none ∧ u.terms.releaseMark < u.held)) →
          t.entry c = s.entry c ∧ ∀ q, t.nu q = s.nu q) ∧
        ∀ u, s.use c = some u → u.stage = .opened → u.hold = none → u.terms.releaseMark < u.held →
          t.entry c = ⟨(s.entry c).generation, { (s.entry c).counters with holdsEntered := (s.entry c).counters.holdsEntered + 1 },
            some { u with hold := some ⟨.pool, ⟨8 * u.terms.holdInterval, none⟩⟩ }⟩ ∧
          s.EventsMade t (noticeTo u.producer .hold (holdQualifier .pool false) c (BitVec.ofNat 16 u.terms.holdInterval)) ∧
          s.WordsSet t none id u.producer (fun x => { x with hold := true })) ∧
    (c ∈ s.retestOwed →
      ∃ t, exec (.poolRetest c) s = .next t ∧ t.retestOwed = s.retestOwed.erase c ∧ t.holdOwed = s.holdOwed ∧ t.pool = s.pool ∧ s.PiusSame t ∧
        s.DeviceSame t ∧ s.EntriesSameBut t c ∧
        ((∀ u, s.use c = some u → ¬ (u.stage = .opened ∧ u.hold ≠ none ∧ u.held ≤ u.terms.releaseMark ∧ (s.pool.level = .normal ∨ c ∈ s.holdOwed))) →
          t.entry c = s.entry c ∧ ∀ q, t.nu q = s.nu q) ∧
        ∀ u, s.use c = some u → u.stage = .opened → u.hold ≠ none → u.held ≤ u.terms.releaseMark → s.pool.level = .normal ∨ c ∈ s.holdOwed →
          t.entry c = { s.entry c with use := some { u with hold := none } } ∧
          s.EventsMade t (noticeTo u.producer .resume (resumeQualifier false) c (BitVec.ofNat 16 u.held)) ∧
          s.WordsSet t none id u.producer (fun x => { x with hold := false }))

/-- The hold timer's expiry on an OPEN HELD entry. Below the hold mark with the pool NORMAL: FLOWING, a clear hold flag handed, RESUME with reason EXPIRY, no counter. In every
other case the hold is renewed: the reason follows the pool, the timer restarts, "hold renewals" rises, HOLD with renewal yes, nothing handed (R118). The row on an entry that is not OPEN
and HELD, whose timer is stopped, or with a timer that has not run out, has no expiry to take and changes nothing (R110, R117, R177; log 2). That the
expiry acts so on the count it finds, also where a fall that meets it then leaves another hold state than in the other order (R121), is the model's choice (log 32). -/
def Obligations.HoldTimerExpiryReleasesOrRenews : Prop :=
  ∀ (c : ChannelId) (s : State),
    let reason : HoldReason := if s.pool.level = .low then .pool else .quota
    ((∀ u h, s.use c = some u → u.stage = .opened → u.hold = some h → ¬ h.timer.RanOut) → exec (.holdTimerExpiry c) s = .next s) ∧
    ∀ (u : Use) (h : Hold), s.use c = some u → u.stage = .opened → u.hold = some h → h.timer.RanOut →
      (u.held < u.terms.holdMark ∧ s.pool.level = .normal →
        ∃ t, exec (.holdTimerExpiry c) s = .next t ∧ t.entry c = { s.entry c with use := some { u with hold := none } } ∧ s.EntriesSameBut t c ∧
          s.EventsMade t (noticeTo u.producer .resume (resumeQualifier true) c (BitVec.ofNat 16 u.held)) ∧
          s.WordsSet t none id u.producer (fun x => { x with hold := false }) ∧ s.PiusSame t ∧ s.PoolSame t ∧ s.DeviceSame t) ∧
      (¬ (u.held < u.terms.holdMark ∧ s.pool.level = .normal) →
        ∃ t, exec (.holdTimerExpiry c) s = .next t ∧
          t.entry c = ⟨(s.entry c).generation, { (s.entry c).counters with renewals := (s.entry c).counters.renewals + 1 },
            some { u with hold := some ⟨reason, ⟨8 * u.terms.holdInterval, none⟩⟩ }⟩ ∧
          s.EntriesSameBut t c ∧ s.EventsMade t (noticeTo u.producer .hold (holdQualifier reason true) c (BitVec.ofNat 16 u.terms.holdInterval)) ∧
          s.WordsSame t ∧ s.PiusSame t ∧ s.PoolSame t ∧ s.DeviceSame t)

/-! ## Events, vectors, flushes, signals -/

/-- An event takes the port's event sequence and joins the backlog, or with 32 waiting is lost and counted; a count raises the pending count of its vector up to 65535,
starts the delay timer from 0, and fires the vector at its threshold; a firing stops the timer, sets the fired mark and requests a flush; COALESCING_DELAY_EXPIRY of
a timer that has run out on a vector whose fired mark is clear is such a firing (R125, R127, R128, R133, R134). An event of slot s counts toward vector s mod G, one of no slot toward
vector 0 (R126). -/
def Obligations.EventsAreQueuedAndCountsFireVectors : Prop :=
  (∀ (nu : Nu) (kind : EventKind) (q ch : Byte) (d : Half),
    (nu.backlog.length < 32 → nu.take kind q ch d =
      { nu with nextSequence := nu.nextSequence + 1, backlog := nu.backlog ++ [⟨kind, q, ch, d, nu.nextSequence⟩] }) ∧
    (32 ≤ nu.backlog.length → nu.take kind q ch d =
      { nu with nextSequence := nu.nextSequence + 1, lost := if nu.lost = 255 then 255 else nu.lost + 1, eventsLost := true })) ∧
  (∀ (nu : Nu) (v : VectorId),
    let c := nu.vectors.read v
    let raised := min (c.pending + 1) 65535
    let fires := c.fired = false ∧ c.threshold ≤ raised
    nu.count v = { nu with
      flushRequest := nu.flushRequest || decide fires
      vectors := nu.vectors.write v { c with
        pending := raised
        timer := if fires then none else if c.pending = 0 ∧ c.fired = false then some ⟨c.delay, none⟩ else c.timer
        fired := c.fired || decide fires } }) ∧
  (∀ (g : Grant) (i : SlotId),
    let count := match g with
      | .one => 1
      | .two => 2
      | .four => 4
    (slotVector g i).val = i.val % count ∧ eventVector g (some i) = slotVector g i ∧ eventVector g none = 0) ∧
  ∀ (p : PortId) (v : VectorId) (s : State) (x : Timer),
    let c := (s.nu p).vectors.read v
    c.timer = some x →
      (c.fired = false → x.RanOut →
        exec (.coalescingDelayExpiry p v) s = .next (s.modNu p fun nu =>
          { nu with flushRequest := true, vectors := nu.vectors.write v { c with timer := none, fired := true } })) ∧
      (¬ x.RanOut → exec (.coalescingDelayExpiry p v) s = .next s)

/-- The event read index of a port that is not DETACHED takes a value from the old one up to the write index, and when it moved with events waiting counts one toward
vector 0 on an ATTACHED port; a value beyond the write index, or on a DETACHED port, is ignored (R130). -/
def Obligations.EventReadIndexMakesRoom : Prop :=
  ∀ (p : PortId) (w : Word) (s : State), s.WindowOpen p →
    let new := BitVec.ofNat 8 (bits w 7 0)
    let old := (s.piu p).eventRead
    let accepted := (new - old).toNat ≤ ((s.nu p).eventWrite - old).toNat
    ((s.piu p).state = .detached ∨ ¬ accepted → exec (.eventReadIndexWrite p w) s = .next s) ∧
    ((s.piu p).state ≠ .detached → accepted →
      ∃ t, exec (.eventReadIndexWrite p w) s = .next t ∧ t.piu p = { s.piu p with eventRead := new } ∧ s.PiusSameBut t p ∧
        (∀ q, t.nu q = if q = p ∧ new ≠ old ∧ (s.nu p).backlog ≠ [] ∧ (s.piu p).state = .attached then (s.nu p).count 0 else s.nu q) ∧
        t.entries = s.entries ∧ s.PoolSame t ∧ s.DeviceSame t)

/-- A re-arm on an ATTACHED port for a vector below G that is not OFF and has no signal due: vector 0 in LINE mode deasserts PnIRQ; with the current tag and the owed flag clear the
vector becomes ARMED, otherwise SIGNALLED with its signal due and its owed flag clear; in every other case the write is discarded; the word reads as 0 (R140). -/
def Obligations.RearmAnswersTheTag : Prop :=
  ∀ (p : PortId) (v : VectorId) (w : Word) (s : State), s.WindowOpen p →
    let c := (s.nu p).vectors.read v
    let tag := BitVec.ofNat 8 (bits w 7 0)
    let line := v = 0 ∧ c.target = .line
    let taken := (s.piu p).state = .attached ∧ v.val < (s.nu p).grant.count ∧ c.state ≠ .off ∧ c.due = false
    (¬ taken → exec (.rearm p v w) s = .next s) ∧
    (taken → exec (.rearm p v w) s = .next (s.modNu p fun nu => { nu with
      irq := if line then false else nu.irq
      vectors := nu.vectors.write v
        (if tag = nu.tag ∧ c.owed = false then { c with state := .armed } else { c with state := .signalled, due := true, owed := false }) })) ∧
    s.windowRead p .word (BitVec.ofNat 13 (0x550 + 4 * v.val)) = 0

/-- SET_VECTOR: the ranges of its arguments and BAD_ARG outside them; inside, threshold, delay and for LINE or MESSAGE the target are stored, the vector becomes OFF, ARMED or stays
SIGNALLED with its signal due, owed clears, PnIRQ stays only while vector 0 is SIGNALLED in LINE mode, and the vector fires when its pending count is at the new
threshold with the fired mark clear (R141). In mode OFF the stored target stays, the model's choice (log 15). -/
def Obligations.SetVectorConfiguresTheVector : Prop :=
  ∀ (p : PortId) (n : Bool) (s : State),
    let a := vectorArgs (s.piu p).slot.arguments
    let v : VectorId := Fin.ofNat 4 a.vector
    let c := (s.nu p).vectors.read v
    let target : VectorTarget := if a.mode = 1 then .line else if a.mode = 2 then .message a.address a.data else c.target
    let state : VectorState := if a.mode = 0 then .off else if c.due = true then .signalled else .armed
    let fires := c.fired = false ∧ a.threshold ≤ c.pending
    let inRange := a.vector < (s.nu p).grant.count ∧ a.mode ≤ 2 ∧ (a.mode = 1 → a.vector = 0) ∧ (1 ≤ a.threshold ∧ a.threshold ≤ 255) ∧
      (1 ≤ a.delay ∧ a.delay ≤ 65535) ∧ (a.mode = 2 → a.address.toNat % 4 = 0)
    s.SlotReady p → (s.piu p).state = .attached →
      (¬ inRange → ∃ t, exec (.setVector p n) s = .next t ∧ s.TurnedAway t p (kindOf .setVector) n .badArg) ∧
      (inRange →
        ∃ t, exec (.setVector p n) s = .next t ∧ s.Answered t p (kindOf .setVector) n .done (resultWords 0 0 0 0) ∧
          t.nu p = Nu.handAll { s.nu p with
            irq := (s.nu p).irq && (v ≠ 0 || (state = .signalled && target = .line))
            flushRequest := (s.nu p).flushRequest || decide fires
            vectors := (s.nu p).vectors.write v { c with
              state := state
              target := target
              threshold := a.threshold
              delay := a.delay
              timer := if fires then none else c.timer
              fired := c.fired || decide fires
              due := if a.mode = 0 then false else c.due
              owed := false } } true (noticeDone p n (kindOf .setVector) .done p) ∧
          (∀ q, q ≠ p → t.nu q = s.nu q) ∧ t.entries = s.entries ∧ s.PoolSame t ∧ s.DeviceSame t)

/-- The start of a flush fixes what it carries: as many waiting events as fit the ring, the tag plus one, the vectors whose fired mark is set; their marks clear, their pending counts
become 0, the request goes. Its writes are the event records from the write index on, oldest first, the 32 slot words from notice base + 516, and the header word
at notice base + 512 last (R76, R129, R135, R136), with the fields of R175 and Tables 11-5 and 11-6 and every other bit zero. One 32-bit word a write, word 0 of an event record before word 1,
is the model's reading (log 3). On a Port Writer that is not IDLE, a port that is not ATTACHED, with a signal due or with no flush requested, nothing is taken (R74, R76). -/
def Obligations.FlushJobStartFixesTheFlush : Prop :=
  (∀ (p : PortId) (s : State),
    ¬ ((s.writer p).state = .idle ∧ (s.piu p).state = .attached ∧ (∀ v, ((s.nu p).vectors.read v).due = false) ∧ (s.nu p).flushRequest = true) →
      exec (.flushJobStart p) s = .next s) ∧
  (∀ (p : PortId) (s : State),
    let nu := s.nu p
    let m := min nu.backlog.length (64 - (nu.eventWrite - (s.piu p).eventRead).toNat)
    (s.writer p).state = .idle → (s.piu p).state = .attached → (∀ v, (nu.vectors.read v).due = false) → nu.flushRequest = true →
    ∃ t vs, exec (.flushJobStart p) s = .next t ∧
      t.writer p = { s.writer p with
        state := .busy ⟨.flush m (nu.tag + 1) vs, flushWrites nu (s.pool.level = .low) m, ⟨64, none⟩⟩
        jobs := (s.writer p).jobs + 1 } ∧
      (∀ v, v ∈ vs ↔ (nu.vectors.read v).fired = true) ∧
      t.nu p = { nu with
        flushRequest := false
        vectors := Table.build fun v => { nu.vectors.read v with
          fired := false, pending := if (nu.vectors.read v).fired = true then 0 else (nu.vectors.read v).pending } } ∧
      (∀ q, q ≠ p → t.nu q = s.nu q) ∧ s.PiusSame t ∧ t.entries = s.entries ∧ s.PoolSame t ∧ s.DeviceSameButWriter t p) ∧
  (∀ (nu : Nu) (low : Bool) (m : Nat), m ≤ nu.backlog.length →
    let ws := flushWrites nu low m
    let kindNumber : EventKind → Nat := fun k => 1 + [EventKind.offerReceived, .offerDeclined, .offerExpired, .offerWithdrawn, .channelOpen, .peerClosed, .channelFreed,
      .orphaned, .consumerAway, .consumerBack, .hold, .resume, .creditRange, .commandDone].idxOf k
    ws.length = 2 * m + 33 ∧
    (∀ k e, k < m → nu.backlog[k]? = some e →
      let address := nu.noticeBase + BitVec.ofNat 32 ((nu.eventWrite.toNat + k) % 64 * 8)
      ws[2 * k]? = some ⟨address, BitVec.ofNat 32 (kindNumber e.kind + 2 ^ 8 * e.qualifier.toNat + 2 ^ 16 * e.channel.toNat)⟩ ∧
      ws[2 * k + 1]? = some ⟨address + 4, BitVec.ofNat 32 (e.detail.toNat + 2 ^ 16 * e.sequence.toNat)⟩) ∧
    (∀ i : SlotId,
      let x := nu.consumerWords.read i
      let y := nu.producerWords.read i
      ws[2 * m + i.val]? = some ⟨nu.noticeBase + 516 + BitVec.ofNat 32 (4 * i.val),
        BitVec.ofNat 32 (x.writeIndex.toNat + 2 ^ 16 * x.channel.val + if x.bound = true then 2 ^ 31 else 0)⟩ ∧
      ws[2 * m + 16 + i.val]? = some ⟨nu.noticeBase + 580 + BitVec.ofNat 32 (4 * i.val),
        BitVec.ofNat 32 (y.lastConfirmed.toNat + 2 ^ 16 * y.channel.val + (if y.hold = true then 2 ^ 30 else 0) + if y.bound = true then 2 ^ 31 else 0)⟩) ∧
    ws[2 * m + 32]? = some ⟨nu.noticeBase + 512, BitVec.ofNat 32 (1 + (if low = true then 2 else 0) + (if nu.eventsLost = true then 4 else 0) +
      2 ^ 8 * (nu.tag + 1).toNat + 2 ^ 16 * nu.lost.toNat + 2 ^ 24 * (nu.eventWrite + BitVec.ofNat 8 m).toNat)⟩) ∧
  ∀ (g : Byte) (p : PortId) (a b : Bool) (cause : FreedCause) (kind status : Byte) (reason : HoldReason),
    generationDetail g = BitVec.ofNat 16 g.toNat ∧
    offerDetail g p a b = BitVec.ofNat 16 (g.toNat + 2 ^ 8 * p.val + (if a = true then 2 ^ 10 else 0) + if b = true then 2 ^ 11 else 0) ∧
    openDetail g p = BitVec.ofNat 16 (g.toNat + 2 ^ 8 * p.val) ∧
    peerClosedDetail g a = BitVec.ofNat 16 (g.toNat + if a = true then 2 ^ 8 else 0) ∧
    freedDetail g cause = BitVec.ofNat 16 (g.toNat + 2 ^ 8 * (1 + [FreedCause.close, .drain, .finish].idxOf cause)) ∧
    commandDoneDetail kind status = BitVec.ofNat 16 (kind.toNat + 2 ^ 8 * status.toNat) ∧
    holdQualifier reason a = BitVec.ofNat 8 ((if reason = .pool then 1 else 0) + if a = true then 2 else 0) ∧
    resumeQualifier a = if a = true then 1 else 0

/-- The completion of a flush on an ATTACHED port: its events leave the backlog, the write index advances by their number, the tag becomes the flush's, each ARMED vector of its
set becomes SIGNALLED with its signal due, each SIGNALLED one takes the owed flag, an OFF one stays, and the Port Writer becomes IDLE (R74, R136). -/
def Obligations.FlushCompletionServesTheVectors : Prop :=
  ∀ (p : PortId) (s : State) (m : Nat) (tag : Byte) (vs : List VectorId) (x : LinkWrite) (k : Timer),
    (s.writer p).state = .busy ⟨.flush m tag vs, [x], k⟩ → (s.piu p).state = .attached →
    ∃ t, exec (.flushCompletion ⟨p, (s.writer p).jobs⟩) s = .next t ∧
      t.nu p = { s.nu p with
        backlog := (s.nu p).backlog.drop m
        eventWrite := (s.nu p).eventWrite + BitVec.ofNat 8 m
        tag := tag
        vectors := Table.build fun v =>
          let c := (s.nu p).vectors.read v
          if v ∉ vs then c
          else if c.state = .armed then { c with state := .signalled, due := true }
          else if c.state = .signalled then { c with owed := true }
          else c } ∧
      (∀ q, q ≠ p → t.nu q = s.nu q) ∧ s.PiusSame t ∧ t.entries = s.entries ∧ s.PoolSame t ∧ s.WriterBecameIdle t p

/-- An IDLE Port Writer of an ATTACHED port takes the lowest-numbered due signal before any other work: on LINE it asserts PnIRQ and the mark clears at once; on MESSAGE it writes
the data word to the address, and the completion of that write clears the mark (R76, R138, R139), also a mark that was set anew while the write was in flight, the model's choice (log 30).
With no signal due, on a Port Writer that is not IDLE, or on a port that is not ATTACHED, nothing is taken (R74, R76). -/
def Obligations.SignalJobsGiveTheSignal : Prop :=
  ∀ (p : PortId) (s : State),
    ((∀ v, ((s.nu p).vectors.read v).due = false) ∨ (s.writer p).state ≠ .idle ∨ (s.piu p).state ≠ .attached → exec (.signalJobStart p) s = .next s) ∧
    (∀ v : VectorId, (s.writer p).state = .idle → (s.piu p).state = .attached → ((s.nu p).vectors.read v).due = true →
      (∀ x : VectorId, x < v → ((s.nu p).vectors.read x).due = false) →
        exec (.flushJobStart p) s = .next s ∧ exec (.landingJobStart p) s = .next s ∧
        (((s.nu p).vectors.read v).target = .line → exec (.signalJobStart p) s = .next (s.modNu p fun nu => { nu with
          irq := true, vectors := nu.vectors.write v { nu.vectors.read v with due := false } })) ∧
        ∀ a d, ((s.nu p).vectors.read v).target = .message a d → exec (.signalJobStart p) s = .next (s.modWriter p fun w =>
          { w with state := .busy ⟨.signal v, [⟨a, d⟩], ⟨64, none⟩⟩, jobs := w.jobs + 1 })) ∧
    ∀ v x k, (s.writer p).state = .busy ⟨.signal v, [x], k⟩ → (s.piu p).state = .attached →
      ∃ t, exec (.signalCompletion ⟨p, (s.writer p).jobs⟩) s = .next t ∧
        t.nu p = { s.nu p with vectors := (s.nu p).vectors.write v { (s.nu p).vectors.read v with due := false } } ∧
        (∀ q, q ≠ p → t.nu q = s.nu q) ∧ s.PiusSame t ∧ t.entries = s.entries ∧ s.PoolSame t ∧ s.WriterBecameIdle t p

/-! ## Attachment, detachment, retention, resets -/

/-- ATTACH from DETACHED, RETAINED or FAULTED with no request of the last departure outstanding: the port is ATTACHED, its Port Writer IDLE with the fault record kept, the Notice Unit
has a fresh configuration with vector 0 fired, backlog and slot words kept; the response says whether the port was attached before and how many events wait; an
argument out of range is BAD_ARG, an outstanding request BAD_STATE (R74, R142, R145, R146). Outstanding is a detachment or fault not yet taken on an entry of which the port is a party, whatever
it does there (R145, R148, R157); the lists of requests, and that what is owed to other entries goes with the ATTACH, are the model's (log 9). That write index and tag become 0 after a
flush that did not complete too, for which R137 has the same indices, is the model's choice (log 28), and so is it that vector 0, when it starts OFF, has no target (log 15). -/
def Obligations.AttachGivesAFreshConfiguration : Prop :=
  ∀ (p : PortId) (n : Bool) (s : State),
    let w := (s.piu p).slot.arguments
    let base := w.read 0
    let mode := bits (w.read 1) 15 8
    let line := mode = 1
    let again := (s.piu p).state ≠ .detached
    let outstanding :=
      ∃ c u, (c ∈ (s.port p).flushOwed ∨ c ∈ (s.port p).requeueOwed) ∧ s.use c = some u ∧ u.isParty p = true
    s.SlotReady p → (s.piu p).state = .detached ∨ (s.piu p).state = .retained ∨ (s.piu p).state = .faulted →
      (outstanding → ∃ t, exec (.attach p n) s = .next t ∧ s.TurnedAway t p (kindOf .attach) n .badState) ∧
      (¬ outstanding → base.toNat % 1024 ≠ 0 ∨ 1 < mode ∨ bits (w.read 1) 7 0 ∉ [1, 2, 4] →
        ∃ t, exec (.attach p n) s = .next t ∧ s.TurnedAway t p (kindOf .attach) n .badArg) ∧
      ∀ g, ¬ outstanding → base.toNat % 1024 = 0 → mode ≤ 1 → grantOf (bits (w.read 1) 7 0) = some g →
        ∃ t, exec (.attach p n) s = .next t ∧
          t.piu p = { s.piu p with
            state := .attached
            retainedLast := false
            eventRead := 0
            slot := (s.piu p).slot.answered (kindOf .attach) n .done (resultWords (if again then 1 else 0) (s.nu p).backlog.length 0 0) } ∧
          s.PiusSameBut t p ∧ t.writer p = { s.writer p with state := .idle } ∧ (∀ q, q ≠ p → t.writer q = s.writer q) ∧
          t.nu p = Nu.handAll { s.nu p with
            noticeBase := base
            grant := g
            nextSequence := 0
            eventWrite := 0
            tag := 0
            lost := 0
            eventsLost := false
            flushRequest := true
            vectors := Table.build fun v => ⟨if line ∧ v = 0 then .armed else .off, if line ∧ v = 0 then .line else .noTarget, 1, 64, 0, none,
              decide (v = 0), false, false⟩ } true (noticeDone p n (kindOf .attach) .done p) ∧
          (∀ q, q ≠ p → t.nu q = s.nu q) ∧ t.entries = s.entries ∧ s.PoolSame t ∧
          (t.port p).flushOwed = [] ∧ (t.port p).requeueOwed = [] ∧
          (∀ q, q ≠ p → (t.port q).flushOwed = (s.port q).flushOwed ∧ (t.port q).requeueOwed = (s.port q).requeueOwed) ∧
          t.pending = s.pending ∧ t.resetPin = s.resetPin ∧ t.roundRobin = s.roundRobin ∧ t.onTick = s.onTick ∧ t.freeIndex = s.freeIndex

/-- DETACH. A mode that is neither FLUSH nor RETAIN is BAD_ARG. On an ATTACHED port with a job in flight the port is QUIESCING and the slot stays BUSY; without one the quiesce ends in the
same step, and so it does at once on a FAULTED port and, by FLUSH, on a RETAINED one: the vectors are OFF, the Port Writer STOPPED; by FLUSH the port is DETACHED with an empty
backlog, retain-armed and RETAINED_LAST clear, and every entry of which it is a party is owed the detachment; by RETAIN it is RETAINED with RETAINED_LAST set, and every entry of which
it is a party is owed the retain (the lists of requests: log 9). A RETAINED port takes RETAIN with nothing changed (R74, R142, R147, R148). A failure handed over before is taken first (R158, log 27). The owed flag
of a vector clears with the vector (log 13). -/
def Obligations.DetachQuiescesThePort : Prop :=
  ∀ (p : PortId) (n : Bool) (s : State),
    let arg := bits ((s.piu p).slot.arguments.read 0) 7 0
    let attached := (s.piu p).state = .attached
    let retained := (s.piu p).state = .retained
    let faulted := (s.piu p).state = .faulted
    let slot := (s.piu p).slot.answered (kindOf .detach) n .done (resultWords 0 0 0 0)
    s.SlotReady p → attached ∨ retained ∨ faulted →
      (1 < arg → ∃ t, exec (.detach p n) s = .next t ∧ s.TurnedAway t p (kindOf .detach) n .badArg) ∧
      ∀ mode, detachModeOf arg = some mode →
        (retained → (s.piu p).faultHanded = false → mode = .retain →
          ∃ t, exec (.detach p n) s = .next t ∧ s.Answered t p (kindOf .detach) n .done (resultWords 0 0 0 0) ∧
            s.EventsMade t (noticeDone p n (kindOf .detach) .done) ∧ s.WordsSame t ∧ t.entries = s.entries ∧ s.PoolSame t ∧ s.DeviceSame t) ∧
        (attached → (s.piu p).faultHanded = true → (s.writer p).state = .stopped →
          ∀ k t, exec (.linkWriteError ⟨p, k, true⟩) s = .next t → exec (.detach p n) s = exec (.detach p n) t) ∧
        ((s.piu p).faultHanded = false → attached ∨ faulted ∨ mode = .flush →
          let quiet : Nu := if attached then (s.nu p).departed Coalescer.turnedOff
            else { s.nu p with vectors := Table.build fun v => ((s.nu p).vectors.read v).turnedOff }
          ∃ t, exec (.detach p n) s = .next t ∧ s.PiusSameBut t p ∧ (∀ q, q ≠ p → t.nu q = s.nu q) ∧ (∀ q, q ≠ p → t.writer q = s.writer q) ∧
            t.entries = s.entries ∧ s.PoolSame t ∧ t.pending = s.pending ∧ t.resetPin = s.resetPin ∧ t.roundRobin = s.roundRobin ∧ t.onTick = s.onTick ∧
            t.freeIndex = s.freeIndex ∧
            (∀ q, q ≠ p → (t.port q).flushOwed = (s.port q).flushOwed ∧ (t.port q).requeueOwed = (s.port q).requeueOwed) ∧
            (∀ job, attached → (s.writer p).state = .busy job →
              t.writer p = s.writer p ∧
              t.piu p = { s.piu p with state := .quiescing, leaveMode := some mode, slot := (s.piu p).slot.taken (kindOf .detach) n } ∧
              t.nu p = (s.nu p).departed (fun c => { c with timer := none, fired := false, due := false }) ∧
              (t.port p).flushOwed = (s.port p).flushOwed ∧ (t.port p).requeueOwed = (s.port p).requeueOwed) ∧
            (¬ attached ∨ (∀ job, (s.writer p).state ≠ .busy job) →
              t.writer p = (if attached then { s.writer p with state := .stopped } else s.writer p) ∧
              (mode = .flush →
                t.piu p = { s.piu p with state := .detached, leaveMode := none, retainArmed := false, retainedLast := false, slot := slot } ∧
                t.nu p = { quiet with backlog := [] } ∧
                (∀ c, c ∈ (t.port p).flushOwed ↔ c ∈ (s.port p).flushOwed ∨ ∃ u, s.use c = some u ∧ u.isParty p = true) ∧
                (t.port p).requeueOwed = (s.port p).requeueOwed) ∧
              (mode = .retain →
                t.piu p = { s.piu p with state := .retained, leaveMode := none, retainedLast := true, slot := slot } ∧
                t.nu p = quiet.handAll false (noticeDone p n (kindOf .detach) .done p) ∧
                (∀ c, c ∈ (t.port p).requeueOwed ↔ c ∈ (s.port p).requeueOwed ∨ ∃ u, s.use c = some u ∧ u.isParty p = true) ∧
                (t.port p).flushOwed = (s.port p).flushOwed)))

/-- QUIESCE_END: a QUIESCING port whose Port Writer holds no job and whose PnRST_n is deasserted reaches the state of its detach, by the mode, and so does a FAULTED port for which a port
reset decided one (R156); a DETACH that waits in the slot completes DONE, with COMMAND_DONE in the backlog of a RETAINED port; every entry of
which the port is a party is owed the detachment (R148; the lists of requests: log 9); while a job is in flight, PnRST_n is asserted or no detach
is decided nothing is taken. The last job of a QUIESCING port ends the quiesce in its own step: its completion (a landing does what it does on an ATTACHED port but counts toward no vector of
the port, R133; a flush moves its events, index and tag and serves no vector, R136; a signal clears its mark, R138), or its failure by ERROR or timeout without a fault (a LANDING record on
an OPEN or CLOSING entry is QUEUED again, one on an ENDING entry is freed with the FREE check, R84, R85), is taken first (R87, R148; the model's choice log 8). The owed flag of a vector
clears with the vector (log 13). -/
def Obligations.QuiesceEndReachesTheStateOfTheDetach : Prop :=
  ∀ (p : PortId) (s : State), (s.piu p).state = .quiescing ∨ (s.piu p).state = .faulted →
    ((s.piu p).resetPin = true ∨ (s.writer p).isBusy = true ∨ (s.piu p).leaveMode = none → exec (.quiesceEnd p) s = .next s) ∧
    (∀ mode, (s.piu p).leaveMode = some mode → (s.piu p).resetPin = false → (s.writer p).isBusy = false →
      let slot := (s.piu p).slot
      let waits := slot.busy = true ∧ slot.kind = kindOf .detach
      let slot' := if waits then slot.completed .done (resultWords 0 0 0 0) else slot
      let quiet := { s.nu p with vectors := Table.build fun v => ((s.nu p).vectors.read v).turnedOff }
      ∃ t, exec (.quiesceEnd p) s = .next t ∧
        t.piu p = (if mode = .flush then { s.piu p with state := .detached, leaveMode := none, retainArmed := false, retainedLast := false, slot := slot' }
          else { s.piu p with state := .retained, leaveMode := none, retainedLast := true, slot := slot' }) ∧
        s.PiusSameBut t p ∧
        t.nu p = (if mode = .flush then { quiet with backlog := [] }
          else if waits then quiet.handAll false (noticeDone p slot.notify (kindOf .detach) .done p) else quiet) ∧
        (∀ q, q ≠ p → t.nu q = s.nu q) ∧ (∀ q, t.writer q = s.writer q) ∧ t.entries = s.entries ∧ s.PoolSame t ∧
        (∀ c, c ∈ (t.port p).flushOwed ↔ c ∈ (s.port p).flushOwed ∨ (mode = .flush ∧ ∃ u, s.use c = some u ∧ u.isParty p = true)) ∧
        (∀ c, c ∈ (t.port p).requeueOwed ↔ c ∈ (s.port p).requeueOwed ∨ (mode = .retain ∧ ∃ u, s.use c = some u ∧ u.isParty p = true))) ∧
    ∀ job x xs, (s.piu p).state = .quiescing → (s.writer p).state = .busy job → job.writes = x :: xs → (s.piu p).faultHanded = false →
      let a : LinkAnswer := ⟨p, (s.writer p).jobs⟩
      let stopped := fun kind => s.modWriter p fun w => { w with state := .stopped, faultKind := kind, faultAddress := x.address }
      let failed := fun kind => (stopped kind).failWork job.kind
      let done := s.completeWork p job.kind
      (∀ taken, exec (.linkWriteError ⟨p, (s.writer p).jobs, taken⟩) s = exec (.quiesceEnd p) (failed .busError)) ∧
      (∀ taken, job.timeout.RanOut → exec (.writeTimeout ⟨p, taken⟩) s = exec (.quiesceEnd p) (failed .timeout)) ∧
      (∀ kind, (∀ c g r i, job.kind ≠ .landing c g r i) → failed kind = stopped kind) ∧
      (∀ kind c g r i rec u, job.kind = .landing c g r i → s.record r = some rec → (s.entry rec.channel).generation = rec.generation →
        s.use rec.channel = some u →
        let freed := u.queue.erase r = [] ∧ u.fill = false
        let d := freedDetail (s.entry rec.channel).generation .finish
        (u.stage = .opened ∨ u.stage = .closing →
          failed kind = { stopped kind with pool := { s.pool with records := s.pool.records.write r (some { rec with state := .queued }) } }) ∧
        (u.stage = .ending → (stopped kind).PiusSame (failed kind) ∧ (stopped kind).DeviceSame (failed kind) ∧ s.PoolFreed (failed kind) [r] ∧
          (freed → s.BecameFree (failed kind) rec.channel u ∧
            s.EventsMade (failed kind) (fun y => noticeTo u.producer .channelFreed 0 rec.channel d y ++ noticeTo u.consumer .channelFreed 0 rec.channel d y)) ∧
          (¬ freed → s.EntriesSameBut (failed kind) rec.channel ∧ (∀ q, (failed kind).nu q = s.nu q) ∧ (failed kind).entry rec.channel =
            { s.entry rec.channel with use := some { u with queue := u.queue.erase r, held := u.held - segmentCount rec.length } }))) ∧
      (xs = [] →
        exec (.linkWriteOk a) s = exec (.quiesceEnd p) (done.modWriter p fun w => { w with state := .stopped }) ∧
        (∀ m tag vs, job.kind = .flush m tag vs → done = s.modNu p fun nu =>
          { nu with backlog := nu.backlog.drop m, eventWrite := nu.eventWrite + BitVec.ofNat 8 m, tag := tag }) ∧
        (∀ v, job.kind = .signal v → done = s.modNu p fun nu => { nu with vectors := nu.vectors.write v { nu.vectors.read v with due := false } }) ∧
        ∀ c g r i t, job.kind = .landing c g r i → exec (.linkWriteOk a) (s.modPiu p fun u => { u with state := .attached }) = .next t →
          done.entries = t.entries ∧ done.pool = t.pool ∧ done.holdOwed = t.holdOwed ∧ done.retestOwed = t.retestOwed ∧ s.PiusSame done ∧
          s.DeviceSame done ∧ (∀ q, q ≠ p → done.nu q = t.nu q) ∧
          done.nu p = { t.nu p with vectors := (s.nu p).vectors, flushRequest := (s.nu p).flushRequest })

/-- ARM_RETAIN sets and DISARM_RETAIN clears the retain-armed flag and completes DONE, in ATTACHED, RETAINED and FAULTED (R153). -/
def Obligations.RetainArmedFollowsItsCommands : Prop :=
  ∀ (p : PortId) (n : Bool) (s : State), s.SlotReady p → (s.piu p).state = .attached ∨ (s.piu p).state = .retained ∨ (s.piu p).state = .faulted →
    ∀ (i : Instr) (k : Command) (armed : Bool), (i = .armRetain p n ∧ k = .armRetain ∧ armed = true) ∨ (i = .disarmRetain p n ∧ k = .disarmRetain ∧ armed = false) →
      ∃ t, exec i s = .next t ∧
        t.piu p = { s.piu p with retainArmed := armed, slot := (s.piu p).slot.answered (kindOf k) n .done (resultWords 0 0 0 0) } ∧ s.PiusSameBut t p ∧
        s.EventsMade t (noticeDone p n (kindOf k) .done) ∧ s.WordsSame t ∧ t.entries = s.entries ∧ s.PoolSame t ∧ s.DeviceSame t

/-- A FLUSH detachment taken on an entry, by the entry's state and the port's role: an offer is withdrawn or declined, an OPEN entry is ORPHANED by its consumer, a CLOSING entry is
discarded by its consumer and freed with PEER_CLOSED, an ENDING entry stays, an ORPHANED entry is freed; a producer leaves an OPEN entry CLOSING, or freed with cause DRAIN
when it is empty, and a CLOSING one as it is (R30, R40, R41, R48, R149, R150). An entry that is FREE, or of which the port is no party, is not reached (R148). A detachment that is not owed is
not taken (log 2), and one that was taken is owed no more (log 9), the model's readings; that an empty OPEN entry becomes FREE also when its consumer's RETAIN was taken first, for which
R152 has CLOSING, is the model's choice (log 24). -/
def Obligations.DetachmentReachesTheEntry : Prop :=
  ∀ (p : PortId) (c : ChannelId) (s : State),
    (c ∉ (s.port p).flushOwed → exec (.detachmentOnEntry p c) s = .next s) ∧
    (c ∈ (s.port p).flushOwed → (∀ u, s.use c = some u → u.isParty p = false) →
      exec (.detachmentOnEntry p c) s = .next (s.modPort p fun b => { b with flushOwed := b.flushOwed.erase c })) ∧
    ∀ u, c ∈ (s.port p).flushOwed → s.use c = some u → u.isParty p = true →
      let g := (s.entry c).generation
      let rs := u.unconfirmed ++ u.queue
      let released : ProducerWord → ProducerWord := fun x => { x with hold := false }
      ∃ t, exec (.detachmentOnEntry p c) s = .next t ∧ (t.port p).flushOwed = (s.port p).flushOwed.erase c ∧
        (t.port p).requeueOwed = (s.port p).requeueOwed ∧ s.DeviceSameButOwed t p ∧ s.PiusSame t ∧
        (∀ o, u.stage = .offered o → o.offeror = p →
          s.BecameFree t c u ∧ s.PoolSame t ∧ s.EventsMade t (noticeToPort o.peer .offerWithdrawn c (generationDetail g))) ∧
        (∀ o, u.stage = .offered o → o.offeror ≠ p →
          s.BecameFree t c u ∧ s.PoolSame t ∧ s.EventsMade t (noticeTo (u.producer <|> u.consumer) .offerDeclined 0 c (generationDetail g))) ∧
        (u.stage = .opened → u.consumedBy p = true →
          t.entry c = { s.entry c with use := some { u with
            stage := .orphaned, consumer := none, ring := none, queue := [], unconfirmed := [], held := u.held - s.pool.heldBy rs, hold := none } } ∧
          s.EntriesSameBut t c ∧ s.PoolFreed t rs ∧ s.EventsMade t (noticeTo u.producer .orphaned 0 c (generationDetail g)) ∧
          s.WordsSet t u.consumer (fun x => { x with bound := false }) u.producer released) ∧
        (u.stage = .opened → u.consumedBy p = false → ¬ (u.queue = [] ∧ u.unconfirmed = [] ∧ u.fill = false) →
          t.entry c = { s.entry c with use := some { u with stage := .closing, hold := none } } ∧ s.EntriesSameBut t c ∧ s.PoolSame t ∧
          s.EventsMade t (fun _ => []) ∧ s.WordsSet t none id u.producer released) ∧
        (u.stage = .opened → u.consumedBy p = false → u.queue = [] ∧ u.unconfirmed = [] ∧ u.fill = false →
          t.entry c = ⟨g, Counters.zero, none⟩ ∧ s.EntriesSameBut t c ∧ s.PoolSame t ∧
          s.EventsMade t (fun x => noticeTo u.producer .channelFreed 0 c (freedDetail g .drain) x ++ noticeTo u.consumer .channelFreed 0 c (freedDetail g .drain) x) ∧
          s.WordsSet t u.consumer (fun x => { x with bound := false }) u.producer (fun x => { x with bound := false, hold := false })) ∧
        (u.stage = .closing → u.consumedBy p = true →
          s.BecameFree t c u ∧ s.PoolFreed t rs ∧ s.EventsMade t (noticeTo u.producer .peerClosed 0 c (peerClosedDetail g false))) ∧
        ((u.stage = .closing ∧ u.consumedBy p = false) ∨ u.stage = .ending → t.entries = s.entries ∧ s.PoolSame t ∧ ∀ q, t.nu q = s.nu q) ∧
        (u.stage = .orphaned → s.BecameFree t c u ∧ s.PoolSame t ∧ s.EventsMade t (fun _ => []))

/-- The assertion of PnRST_n, on a port with no copy in flight, and what it adds on any port when it ends a landing. Slot, buffer, COMPOSE_CLOBBERED, credit values and retain-armed are
cleared, and the Port Writer stops with its job ended, its fault record kept; an ATTACHED port is QUIESCING, and an ATTACHED, QUIESCING or FAULTED one has its detach decided: RETAIN if
retain was armed and FLUSH otherwise; a RETAINED or DETACHED port keeps its state. A landing that is ended returns its record to QUEUED on an OPEN or CLOSING entry; on an ENDING one the
record is freed with the FREE check; a copy in flight as well, on another channel since no port is both parties of one (R34), is abandoned before (R154). A failure handed over before
is taken first (R158, log 27). A port whose PnRST_n is asserted is not reset again. The deassertion ends the wait of the port, and what QUIESCE_END does follows at once (R88, R148, R153 to
R156). The slot's latched argument words, for which the spec gives no reset value, become 0 (log 6). -/
def Obligations.PortResetClearsThePort : Prop :=
  ∀ (p : PortId) (s : State), s.resetPin = false →
    ((s.piu p).resetPin = true → exec (.portReset p) s = .next s) ∧
    ((s.piu p).resetPin = true →
      exec (.portResetRelease p) s = exec (.quiesceEnd p) (s.modPiu p fun u => { u with resetPin := false }) ∧
      ((s.piu p).state = .retained ∨ (s.piu p).state = .detached ∨ (s.piu p).state = .attached →
        exec (.portResetRelease p) s = .next (s.modPiu p fun u => { u with resetPin := false }))) ∧
    ((s.piu p).resetPin = false → (s.piu p).state = .attached → (s.piu p).faultHanded = true → (s.writer p).state = .stopped →
      ∀ k t, exec (.linkWriteError ⟨p, k, true⟩) s = .next t → exec (.portReset p) s = exec (.portReset p) t) ∧
    ((s.piu p).resetPin = false → (s.piu p).faultHanded = false →
      let attached := (s.piu p).state = .attached
      let decides := attached ∨ (s.piu p).state = .quiescing ∨ (s.piu p).state = .faulted
      ((s.piu p).copy = none → (∀ job c g r j, (s.writer p).state = .busy job → job.kind ≠ .landing c g r j) →
        ∃ t, exec (.portReset p) s = .next t ∧
          t.piu p = { s.piu p with
            resetPin := true
            state := if attached then .quiescing else (s.piu p).state
            leaveMode := if decides then some (if (s.piu p).retainArmed = true then .retain else .flush) else (s.piu p).leaveMode
            slot := ⟨false, Table.fill 8 0, Table.fill 8 0, 0, false, 0, 0, 0, Table.fill 4 0, false⟩
            compose := []
            clobbered := false
            credit := Table.fill 16 0
            retainArmed := false } ∧
          s.PiusSameBut t p ∧ t.writer p = { s.writer p with state := .stopped } ∧ s.DeviceSameButWriter t p ∧
          t.nu p = (if attached then (s.nu p).departed (fun c => { c with timer := none, fired := false, due := false }) else s.nu p) ∧
          (∀ q, q ≠ p → t.nu q = s.nu q) ∧ t.entries = s.entries ∧ s.PoolSame t) ∧
      ∀ job c g r j rec u t0, (s.writer p).state = .busy job → job.kind = .landing c g r j → s.record r = some rec →
        (s.entry rec.channel).generation = rec.generation → s.use rec.channel = some u →
        (∀ x copied, (s.piu p).copy = some x → s.record x = some copied → x ≠ r ∧ copied.channel ≠ rec.channel) →
        exec (.portReset p) (s.modWriter p fun w => { w with state := .stopped }) = .next t0 →
        let freed := u.queue.erase r = [] ∧ u.fill = false
        let d := freedDetail (s.entry rec.channel).generation .finish
        (u.stage = .opened ∨ u.stage = .closing →
          exec (.portReset p) s = .next { t0 with pool := { t0.pool with records := t0.pool.records.write r (some { rec with state := .queued }) } }) ∧
        (u.stage = .ending →
          ∃ t, exec (.portReset p) s = .next t ∧ t0.PiusSame t ∧ t0.DeviceSame t ∧ t0.PoolFreed t [r] ∧
            (freed → t0.BecameFree t rec.channel u ∧
              t0.EventsMade t (fun y => noticeTo u.producer .channelFreed 0 rec.channel d y ++ noticeTo u.consumer .channelFreed 0 rec.channel d y)) ∧
            (¬ freed → t0.EntriesSameBut t rec.channel ∧ (∀ q, t.nu q = t0.nu q) ∧
              t.entry rec.channel =
                { s.entry rec.channel with use := some { u with queue := u.queue.erase r, held := u.held - segmentCount rec.length } })))

/-- A port reset abandons the copy in flight, in every port state, on a port with no landing job in flight (with one, PortResetClearsThePort gives what the end of the job adds to what stands
here): it does what it does without a copy, and the record is freed, the held count falls and the fill is over with next sequence and counters kept, no segment byte outside the record's
chain changes, the buffer is unlocked and cleared, and the POST gets no response and no event. The check of the entry's state follows: a release on OPEN, the drain check on CLOSING, the
FREE check on ENDING, none on ORPHANED; a record of another use of the entry is freed and no entry changes (R8, R69, R156). How much of the payload the segments hold is a free value,
written in this step (log 5). The slot's latched argument words, for which the spec gives no reset value, become 0 (log 6). -/
def Obligations.PortResetAbandonsTheCopy : Prop :=
  ∀ (p : PortId) (s t0 : State) (r : RecordId) (rec : Record),
    let c := rec.channel
    s.resetPin = false → (s.piu p).resetPin = false → (s.piu p).faultHanded = false → (∀ job k g x j, (s.writer p).state = .busy job → job.kind ≠ .landing k g x j) →
    (s.piu p).copy = some r → s.record r = some rec → rec.ChainWhole →
    exec (.portReset p) (s.modPiu p fun x => { x with copy := none }) = .next t0 →
    ∃ t m, exec (.portReset p) s = .next t ∧ t.pool = ({ s.pool with segments := m }).free [r] ∧
      t.holdOwed = s.holdOwed ∧ t.retestOwed = (if s.pool.level = .low ∧ t.pool.level = .normal then s.retestOwed ++ allChannels else s.retestOwed) ∧
      (∀ a, (∀ x ∈ rec.chain, a / 64 ≠ x.val) → m.read a = s.pool.segments.read a) ∧
      (t.piu p).copy = none ∧ (t.piu p).compose = [] ∧
      (t.piu p).slot = ⟨false, Table.fill 8 0, Table.fill 8 0, 0, false, 0, 0, 0, Table.fill 4 0, false⟩ ∧ t0.PiusSame t ∧
      (∀ q, t.writer q = t0.writer q ∧ (t.port q).flushOwed = (s.port q).flushOwed ∧ (t.port q).requeueOwed = (s.port q).requeueOwed) ∧
      t.pending = s.pending ∧ t.resetPin = s.resetPin ∧ t.roundRobin = s.roundRobin ∧ t.onTick = s.onTick ∧ s.EntriesSameBut t c ∧
      (s.use c = none ∨ (s.entry c).generation ≠ rec.generation → t.entry c = s.entry c ∧ ∀ q, t.nu q = t0.nu q) ∧
      ∀ u, s.use c = some u → (s.entry c).generation = rec.generation →
        let held := u.held - segmentCount rec.length
        let released := u.stage = .opened ∧ u.hold.isSome = true ∧ held ≤ u.terms.releaseMark ∧ t.pool.level = .normal
        let drained := u.stage = .closing ∧ u.queue = [] ∧ u.unconfirmed = []
        let ended := u.stage = .ending ∧ u.queue = []
        let d := freedDetail (s.entry c).generation (if ended then .finish else .drain)
        (drained ∨ ended → s.BecameFree t c u ∧
          t0.EventsMade t (fun y => noticeTo u.producer .channelFreed 0 c d y ++ noticeTo u.consumer .channelFreed 0 c d y)) ∧
        (¬ (drained ∨ ended) →
          t.entry c = { s.entry c with use := some { u with held := held, fill := false, hold := if released then none else u.hold } } ∧
          t0.EventsMade t (noticeTo (if released then u.producer else none) .resume (resumeQualifier false) c (BitVec.ofNat 16 held)) ∧
          s.WordsSet t none id (if released then u.producer else none) (fun x => { x with hold := false }))

/-! ## Reading commands -/

/-- QUERY answers a party of the entry with the words of the page it names (Tables 10-4 and 11-3, an absent ring as zero), READ_COUNTERS with the counters of the group, cleared when asked;
BAD_ARG for a channel above 63 or a page or group that is none, BAD_CHANNEL for a FREE entry and for a port that is no party (R167, R168, R173). -/
def Obligations.QueryAndReadCountersAnswerFromTheEntry : Prop :=
  ∀ (p : PortId) (n : Bool) (s : State),
    let w := (s.piu p).slot.arguments
    let query := fun st => ∃ t, exec (.query p n) s = .next t ∧ s.TurnedAway t p (kindOf .query) n st
    let counters := fun st => ∃ t, exec (.readCounters p n) s = .next t ∧ s.TurnedAway t p (kindOf .readCounters) n st
    s.SlotReady p → (s.piu p).state = .attached ∨ (s.piu p).state = .retained ∨ (s.piu p).state = .faulted →
      (63 < channelArg w ∨ 2 < pageArg w → query .badArg) ∧ (63 < channelArg w ∨ 1 < pageArg w → counters .badArg) ∧
      ∀ c : ChannelId, channelArg w = c.val →
        ((∀ u, s.use c = some u → u.isParty p = false) → (pageArg w ≤ 2 → query .badChannel) ∧ (pageArg w ≤ 1 → counters .badChannel)) ∧
        ∀ u, s.use c = some u → u.isParty p = true →
          (pageArg w ≤ 2 →
            let t := u.terms
            let low : Nat → Nat := fun x => x % 2 ^ 16
            let stageCode := match u.stage with
              | .offered _ => 1
              | .opened => 2
              | .closing => 3
              | .ending => 4
              | .orphaned => 5
            let ringCode := match u.ring with
              | none => 0
              | some r => if r.armed = true then 2 else 1
            let party : Option Party → Nat := fun a => match a with
              | none => 0
              | some a => 2 ^ 7 + 2 ^ 4 * a.port.val + a.slot.val
            let offer := match u.stage with
              | .offered o => 2 ^ 7 + o.offeror.val + 2 ^ 4 * o.peer.val
              | _ => 0
            let confirmed := match t.cls with
              | .plain => false
              | .confirmed _ => true
            let window := match t.cls with
              | .plain => 0
              | .confirmed w => w % 2 ^ 8
            let page0 : Table Word 4 := #v[
              BitVec.ofNat 32 (stageCode + 2 ^ 8 * (s.entry c).generation.toNat + (if confirmed = true then 2 ^ 16 else 0) +
                (if u.hold ≠ none then 2 ^ 17 else 0) + (if u.hold.any (fun h => h.reason = .pool) = true then 2 ^ 18 else 0) + 2 ^ 19 * ringCode +
                if u.fill = true then 2 ^ 21 else 0),
              BitVec.ofNat 32 (party u.producer + 2 ^ 8 * party u.consumer + 2 ^ 16 * offer),
              BitVec.ofNat 32 (low u.held + 2 ^ 16 * u.queue.length),
              BitVec.ofNat 32 (low u.unconfirmed.length + 2 ^ 16 * u.nextSequence.toNat)]
            let page1 : Table Word 4 := match u.ring with
              | none => #v[0, 0, 0, 0]
              | some r => #v[r.base, BitVec.ofNat 32 (low r.slotCount + 2 ^ 16 * (r.slotUnits % 2 ^ 8)),
                  BitVec.ofNat 32 (r.writeIndex.toNat + 2 ^ 16 * r.readIndex.toNat), 0]
            let page2 : Table Word 4 := #v[
              BitVec.ofNat 32 (t.priority.val + 2 ^ 16 * t.maxLength),
              BitVec.ofNat 32 (low t.quota + 2 ^ 16 * t.holdMark),
              BitVec.ofNat 32 (low t.releaseMark + 2 ^ 16 * t.holdInterval),
              BitVec.ofNat 32 window]
            ∃ t, exec (.query p n) s = .next t ∧
              s.Answered t p (kindOf .query) n .done (if pageArg w = 0 then page0 else if pageArg w = 1 then page1 else page2) ∧
              s.EventsMade t (noticeDone p n (kindOf .query) .done) ∧ s.WordsSame t ∧ t.entries = s.entries ∧ s.PoolSame t ∧ s.DeviceSame t) ∧
          (pageArg w ≤ 1 →
            let k := (s.entry c).counters
            ∃ t, exec (.readCounters p n) s = .next t ∧
              s.Answered t p (kindOf .readCounters) n .done
                (if pageArg w = 0 then #v[k.postsAccepted, k.refusedHold, k.refusedOther, k.landed] else #v[k.replayed, k.holdsEntered, k.renewals, 0]) ∧
              t.entry c = { s.entry c with
                counters := if clearArg w = false then k else if pageArg w = 0 then ⟨0, 0, 0, 0, k.replayed, k.holdsEntered, k.renewals⟩
                  else ⟨k.postsAccepted, k.refusedHold, k.refusedOther, k.landed, 0, 0, 0⟩ } ∧
              s.EntriesSameBut t c ∧ s.EventsMade t (noticeDone p n (kindOf .readCounters) .done) ∧ s.WordsSame t ∧ s.PoolSame t ∧ s.DeviceSame t)
end

