-- ==== Sys2Proof/Laws/State.lean ====
section
/-! SUPPORT. What each update of the state does to each field and each reader of the state: one lemma per field per update. -/

namespace Sys2Proof

/-- Reading a table after writing it. -/
@[simp] theorem Table.read_write {α : Type} {n : Nat} (t : Table α n) (i j : Fin n) (a : α) :
    (t.write i a).read j = if j = i then a else t.read j := by
  by_cases h : j = i
  · subst h
    simp [Table.read, Table.write]
  · have h' : ¬ i.val = j.val := fun e => h (Fin.ext e.symm)
    simp [Table.read, Table.write, h, h']

/-- Reading a built table. -/
@[simp] theorem Table.read_build {α : Type} {n : Nat} (f : Fin n → α) (i : Fin n) : (Table.build f).read i = f i := by
  simp [Table.read, Table.build]

/-- Reading a filled table. -/
@[simp] theorem Table.read_fill {α : Type} {n : Nat} (a : α) (i : Fin n) : (Table.fill n a).read i = a := by
  simp [Table.read, Table.fill]

/-- Two tables that read alike are equal. -/
theorem Table.ext {α : Type} {n : Nat} {t u : Table α n} (h : ∀ i, t.read i = u.read i) : t = u := by
  apply Vector.ext
  intro i hi
  exact h ⟨i, hi⟩

end Sys2Proof

namespace Sys2Proof.Machine

/-! ## Fields -/

section setPort

variable (s : State) (p : PortId) (b : Port)

@[simp] theorem State.setPort_pending : (s.setPort p b).pending = s.pending := rfl
@[simp] theorem State.setPort_resetPin : (s.setPort p b).resetPin = s.resetPin := rfl
@[simp] theorem State.setPort_entries : (s.setPort p b).entries = s.entries := rfl
@[simp] theorem State.setPort_pool : (s.setPort p b).pool = s.pool := rfl
@[simp] theorem State.setPort_roundRobin : (s.setPort p b).roundRobin = s.roundRobin := rfl
@[simp] theorem State.setPort_holdOwed : (s.setPort p b).holdOwed = s.holdOwed := rfl
@[simp] theorem State.setPort_retestOwed : (s.setPort p b).retestOwed = s.retestOwed := rfl
@[simp] theorem State.setPort_onTick : (s.setPort p b).onTick = s.onTick := rfl
@[simp] theorem State.setPort_freeIndex : (s.setPort p b).freeIndex = s.freeIndex := rfl

end setPort

section modPort

variable (s : State) (p : PortId) (f : Port → Port)

@[simp] theorem State.modPort_pending : (s.modPort p f).pending = s.pending := rfl
@[simp] theorem State.modPort_resetPin : (s.modPort p f).resetPin = s.resetPin := rfl
@[simp] theorem State.modPort_entries : (s.modPort p f).entries = s.entries := rfl
@[simp] theorem State.modPort_pool : (s.modPort p f).pool = s.pool := rfl
@[simp] theorem State.modPort_roundRobin : (s.modPort p f).roundRobin = s.roundRobin := rfl
@[simp] theorem State.modPort_holdOwed : (s.modPort p f).holdOwed = s.holdOwed := rfl
@[simp] theorem State.modPort_retestOwed : (s.modPort p f).retestOwed = s.retestOwed := rfl
@[simp] theorem State.modPort_onTick : (s.modPort p f).onTick = s.onTick := rfl
@[simp] theorem State.modPort_freeIndex : (s.modPort p f).freeIndex = s.freeIndex := rfl

end modPort

section modPiu

variable (s : State) (p : PortId) (f : Piu → Piu)

@[simp] theorem State.modPiu_pending : (s.modPiu p f).pending = s.pending := rfl
@[simp] theorem State.modPiu_resetPin : (s.modPiu p f).resetPin = s.resetPin := rfl
@[simp] theorem State.modPiu_entries : (s.modPiu p f).entries = s.entries := rfl
@[simp] theorem State.modPiu_pool : (s.modPiu p f).pool = s.pool := rfl
@[simp] theorem State.modPiu_roundRobin : (s.modPiu p f).roundRobin = s.roundRobin := rfl
@[simp] theorem State.modPiu_holdOwed : (s.modPiu p f).holdOwed = s.holdOwed := rfl
@[simp] theorem State.modPiu_retestOwed : (s.modPiu p f).retestOwed = s.retestOwed := rfl
@[simp] theorem State.modPiu_onTick : (s.modPiu p f).onTick = s.onTick := rfl
@[simp] theorem State.modPiu_freeIndex : (s.modPiu p f).freeIndex = s.freeIndex := rfl

end modPiu

section modWriter

variable (s : State) (p : PortId) (f : Writer → Writer)

@[simp] theorem State.modWriter_pending : (s.modWriter p f).pending = s.pending := rfl
@[simp] theorem State.modWriter_resetPin : (s.modWriter p f).resetPin = s.resetPin := rfl
@[simp] theorem State.modWriter_entries : (s.modWriter p f).entries = s.entries := rfl
@[simp] theorem State.modWriter_pool : (s.modWriter p f).pool = s.pool := rfl
@[simp] theorem State.modWriter_roundRobin : (s.modWriter p f).roundRobin = s.roundRobin := rfl
@[simp] theorem State.modWriter_holdOwed : (s.modWriter p f).holdOwed = s.holdOwed := rfl
@[simp] theorem State.modWriter_retestOwed : (s.modWriter p f).retestOwed = s.retestOwed := rfl
@[simp] theorem State.modWriter_onTick : (s.modWriter p f).onTick = s.onTick := rfl
@[simp] theorem State.modWriter_freeIndex : (s.modWriter p f).freeIndex = s.freeIndex := rfl

end modWriter

section modNu

variable (s : State) (p : PortId) (f : Nu → Nu)

@[simp] theorem State.modNu_pending : (s.modNu p f).pending = s.pending := rfl
@[simp] theorem State.modNu_resetPin : (s.modNu p f).resetPin = s.resetPin := rfl
@[simp] theorem State.modNu_entries : (s.modNu p f).entries = s.entries := rfl
@[simp] theorem State.modNu_pool : (s.modNu p f).pool = s.pool := rfl
@[simp] theorem State.modNu_roundRobin : (s.modNu p f).roundRobin = s.roundRobin := rfl
@[simp] theorem State.modNu_holdOwed : (s.modNu p f).holdOwed = s.holdOwed := rfl
@[simp] theorem State.modNu_retestOwed : (s.modNu p f).retestOwed = s.retestOwed := rfl
@[simp] theorem State.modNu_onTick : (s.modNu p f).onTick = s.onTick := rfl
@[simp] theorem State.modNu_freeIndex : (s.modNu p f).freeIndex = s.freeIndex := rfl

end modNu

section setEntry

variable (s : State) (c : ChannelId) (e : Entry)

@[simp] theorem State.setEntry_pending : (s.setEntry c e).pending = s.pending := rfl
@[simp] theorem State.setEntry_resetPin : (s.setEntry c e).resetPin = s.resetPin := rfl
@[simp] theorem State.setEntry_ports : (s.setEntry c e).ports = s.ports := rfl
@[simp] theorem State.setEntry_pool : (s.setEntry c e).pool = s.pool := rfl
@[simp] theorem State.setEntry_roundRobin : (s.setEntry c e).roundRobin = s.roundRobin := rfl
@[simp] theorem State.setEntry_holdOwed : (s.setEntry c e).holdOwed = s.holdOwed := rfl
@[simp] theorem State.setEntry_retestOwed : (s.setEntry c e).retestOwed = s.retestOwed := rfl
@[simp] theorem State.setEntry_onTick : (s.setEntry c e).onTick = s.onTick := rfl
@[simp] theorem State.setEntry_freeIndex : (s.setEntry c e).freeIndex = s.freeIndex := rfl

end setEntry

section modUse

variable (s : State) (c : ChannelId) (f : Use → Use)

@[simp] theorem State.modUse_pending : (s.modUse c f).pending = s.pending := rfl
@[simp] theorem State.modUse_resetPin : (s.modUse c f).resetPin = s.resetPin := rfl
@[simp] theorem State.modUse_ports : (s.modUse c f).ports = s.ports := rfl
@[simp] theorem State.modUse_pool : (s.modUse c f).pool = s.pool := rfl
@[simp] theorem State.modUse_roundRobin : (s.modUse c f).roundRobin = s.roundRobin := rfl
@[simp] theorem State.modUse_holdOwed : (s.modUse c f).holdOwed = s.holdOwed := rfl
@[simp] theorem State.modUse_retestOwed : (s.modUse c f).retestOwed = s.retestOwed := rfl
@[simp] theorem State.modUse_onTick : (s.modUse c f).onTick = s.onTick := rfl
@[simp] theorem State.modUse_freeIndex : (s.modUse c f).freeIndex = s.freeIndex := rfl

end modUse

section modCounters

variable (s : State) (c : ChannelId) (f : Counters → Counters)

@[simp] theorem State.modCounters_pending : (s.modCounters c f).pending = s.pending := rfl
@[simp] theorem State.modCounters_resetPin : (s.modCounters c f).resetPin = s.resetPin := rfl
@[simp] theorem State.modCounters_ports : (s.modCounters c f).ports = s.ports := rfl
@[simp] theorem State.modCounters_pool : (s.modCounters c f).pool = s.pool := rfl
@[simp] theorem State.modCounters_roundRobin : (s.modCounters c f).roundRobin = s.roundRobin := rfl
@[simp] theorem State.modCounters_holdOwed : (s.modCounters c f).holdOwed = s.holdOwed := rfl
@[simp] theorem State.modCounters_retestOwed : (s.modCounters c f).retestOwed = s.retestOwed := rfl
@[simp] theorem State.modCounters_onTick : (s.modCounters c f).onTick = s.onTick := rfl
@[simp] theorem State.modCounters_freeIndex : (s.modCounters c f).freeIndex = s.freeIndex := rfl

end modCounters

section setPool

variable (s : State) (pool : Pool)

@[simp] theorem State.setPool_pending : (s.setPool pool).pending = s.pending := rfl
@[simp] theorem State.setPool_resetPin : (s.setPool pool).resetPin = s.resetPin := rfl
@[simp] theorem State.setPool_ports : (s.setPool pool).ports = s.ports := rfl
@[simp] theorem State.setPool_entries : (s.setPool pool).entries = s.entries := rfl
@[simp] theorem State.setPool_roundRobin : (s.setPool pool).roundRobin = s.roundRobin := rfl
@[simp] theorem State.setPool_onTick : (s.setPool pool).onTick = s.onTick := rfl
@[simp] theorem State.setPool_freeIndex : (s.setPool pool).freeIndex = s.freeIndex := rfl
@[simp] theorem State.setPool_pool : (s.setPool pool).pool = pool := rfl

end setPool

section modRecord

variable (s : State) (r : RecordId) (f : Record → Record)

@[simp] theorem State.modRecord_pending : (s.modRecord r f).pending = s.pending := rfl
@[simp] theorem State.modRecord_resetPin : (s.modRecord r f).resetPin = s.resetPin := rfl
@[simp] theorem State.modRecord_ports : (s.modRecord r f).ports = s.ports := rfl
@[simp] theorem State.modRecord_entries : (s.modRecord r f).entries = s.entries := rfl
@[simp] theorem State.modRecord_roundRobin : (s.modRecord r f).roundRobin = s.roundRobin := rfl
@[simp] theorem State.modRecord_holdOwed : (s.modRecord r f).holdOwed = s.holdOwed := rfl
@[simp] theorem State.modRecord_retestOwed : (s.modRecord r f).retestOwed = s.retestOwed := rfl
@[simp] theorem State.modRecord_onTick : (s.modRecord r f).onTick = s.onTick := rfl
@[simp] theorem State.modRecord_freeIndex : (s.modRecord r f).freeIndex = s.freeIndex := rfl

end modRecord

section countFreeValue

variable (s : State) 

@[simp] theorem State.countFreeValue_pending : (s.countFreeValue).pending = s.pending := rfl
@[simp] theorem State.countFreeValue_resetPin : (s.countFreeValue).resetPin = s.resetPin := rfl
@[simp] theorem State.countFreeValue_ports : (s.countFreeValue).ports = s.ports := rfl
@[simp] theorem State.countFreeValue_entries : (s.countFreeValue).entries = s.entries := rfl
@[simp] theorem State.countFreeValue_pool : (s.countFreeValue).pool = s.pool := rfl
@[simp] theorem State.countFreeValue_roundRobin : (s.countFreeValue).roundRobin = s.roundRobin := rfl
@[simp] theorem State.countFreeValue_holdOwed : (s.countFreeValue).holdOwed = s.holdOwed := rfl
@[simp] theorem State.countFreeValue_retestOwed : (s.countFreeValue).retestOwed = s.retestOwed := rfl
@[simp] theorem State.countFreeValue_onTick : (s.countFreeValue).onTick = s.onTick := rfl
@[simp] theorem State.countFreeValue_port (q : PortId) : (s.countFreeValue).port q = s.port q := rfl
@[simp] theorem State.countFreeValue_piu (q : PortId) : (s.countFreeValue).piu q = s.piu q := rfl
@[simp] theorem State.countFreeValue_writer (q : PortId) : (s.countFreeValue).writer q = s.writer q := rfl
@[simp] theorem State.countFreeValue_nu (q : PortId) : (s.countFreeValue).nu q = s.nu q := rfl
@[simp] theorem State.countFreeValue_entry (d : ChannelId) : (s.countFreeValue).entry d = s.entry d := rfl
@[simp] theorem State.countFreeValue_use (d : ChannelId) : (s.countFreeValue).use d = s.use d := rfl
@[simp] theorem State.countFreeValue_record (n : RecordId) : (s.countFreeValue).record n = s.record n := rfl

end countFreeValue

section pointAt

variable (s : State) (p : PortId) (k : Fin 4) (c : ChannelId)

@[simp] theorem State.pointAt_pending : (s.pointAt p k c).pending = s.pending := rfl
@[simp] theorem State.pointAt_resetPin : (s.pointAt p k c).resetPin = s.resetPin := rfl
@[simp] theorem State.pointAt_ports : (s.pointAt p k c).ports = s.ports := rfl
@[simp] theorem State.pointAt_entries : (s.pointAt p k c).entries = s.entries := rfl
@[simp] theorem State.pointAt_pool : (s.pointAt p k c).pool = s.pool := rfl
@[simp] theorem State.pointAt_holdOwed : (s.pointAt p k c).holdOwed = s.holdOwed := rfl
@[simp] theorem State.pointAt_retestOwed : (s.pointAt p k c).retestOwed = s.retestOwed := rfl
@[simp] theorem State.pointAt_onTick : (s.pointAt p k c).onTick = s.onTick := rfl
@[simp] theorem State.pointAt_freeIndex : (s.pointAt p k c).freeIndex = s.freeIndex := rfl
@[simp] theorem State.pointAt_port (q : PortId) : (s.pointAt p k c).port q = s.port q := rfl
@[simp] theorem State.pointAt_piu (q : PortId) : (s.pointAt p k c).piu q = s.piu q := rfl
@[simp] theorem State.pointAt_writer (q : PortId) : (s.pointAt p k c).writer q = s.writer q := rfl
@[simp] theorem State.pointAt_nu (q : PortId) : (s.pointAt p k c).nu q = s.nu q := rfl
@[simp] theorem State.pointAt_entry (d : ChannelId) : (s.pointAt p k c).entry d = s.entry d := rfl
@[simp] theorem State.pointAt_use (d : ChannelId) : (s.pointAt p k c).use d = s.use d := rfl
@[simp] theorem State.pointAt_record (n : RecordId) : (s.pointAt p k c).record n = s.record n := rfl

end pointAt

section takeHoldOwed

variable (s : State) (c : ChannelId)

@[simp] theorem State.takeHoldOwed_pending : (s.takeHoldOwed c).pending = s.pending := rfl
@[simp] theorem State.takeHoldOwed_resetPin : (s.takeHoldOwed c).resetPin = s.resetPin := rfl
@[simp] theorem State.takeHoldOwed_ports : (s.takeHoldOwed c).ports = s.ports := rfl
@[simp] theorem State.takeHoldOwed_entries : (s.takeHoldOwed c).entries = s.entries := rfl
@[simp] theorem State.takeHoldOwed_pool : (s.takeHoldOwed c).pool = s.pool := rfl
@[simp] theorem State.takeHoldOwed_roundRobin : (s.takeHoldOwed c).roundRobin = s.roundRobin := rfl
@[simp] theorem State.takeHoldOwed_retestOwed : (s.takeHoldOwed c).retestOwed = s.retestOwed := rfl
@[simp] theorem State.takeHoldOwed_onTick : (s.takeHoldOwed c).onTick = s.onTick := rfl
@[simp] theorem State.takeHoldOwed_freeIndex : (s.takeHoldOwed c).freeIndex = s.freeIndex := rfl
@[simp] theorem State.takeHoldOwed_port (q : PortId) : (s.takeHoldOwed c).port q = s.port q := rfl
@[simp] theorem State.takeHoldOwed_piu (q : PortId) : (s.takeHoldOwed c).piu q = s.piu q := rfl
@[simp] theorem State.takeHoldOwed_writer (q : PortId) : (s.takeHoldOwed c).writer q = s.writer q := rfl
@[simp] theorem State.takeHoldOwed_nu (q : PortId) : (s.takeHoldOwed c).nu q = s.nu q := rfl
@[simp] theorem State.takeHoldOwed_entry (d : ChannelId) : (s.takeHoldOwed c).entry d = s.entry d := rfl
@[simp] theorem State.takeHoldOwed_use (d : ChannelId) : (s.takeHoldOwed c).use d = s.use d := rfl
@[simp] theorem State.takeHoldOwed_record (n : RecordId) : (s.takeHoldOwed c).record n = s.record n := rfl

end takeHoldOwed

section takeRetestOwed

variable (s : State) (c : ChannelId)

@[simp] theorem State.takeRetestOwed_pending : (s.takeRetestOwed c).pending = s.pending := rfl
@[simp] theorem State.takeRetestOwed_resetPin : (s.takeRetestOwed c).resetPin = s.resetPin := rfl
@[simp] theorem State.takeRetestOwed_ports : (s.takeRetestOwed c).ports = s.ports := rfl
@[simp] theorem State.takeRetestOwed_entries : (s.takeRetestOwed c).entries = s.entries := rfl
@[simp] theorem State.takeRetestOwed_pool : (s.takeRetestOwed c).pool = s.pool := rfl
@[simp] theorem State.takeRetestOwed_roundRobin : (s.takeRetestOwed c).roundRobin = s.roundRobin := rfl
@[simp] theorem State.takeRetestOwed_holdOwed : (s.takeRetestOwed c).holdOwed = s.holdOwed := rfl
@[simp] theorem State.takeRetestOwed_onTick : (s.takeRetestOwed c).onTick = s.onTick := rfl
@[simp] theorem State.takeRetestOwed_freeIndex : (s.takeRetestOwed c).freeIndex = s.freeIndex := rfl
@[simp] theorem State.takeRetestOwed_port (q : PortId) : (s.takeRetestOwed c).port q = s.port q := rfl
@[simp] theorem State.takeRetestOwed_piu (q : PortId) : (s.takeRetestOwed c).piu q = s.piu q := rfl
@[simp] theorem State.takeRetestOwed_writer (q : PortId) : (s.takeRetestOwed c).writer q = s.writer q := rfl
@[simp] theorem State.takeRetestOwed_nu (q : PortId) : (s.takeRetestOwed c).nu q = s.nu q := rfl
@[simp] theorem State.takeRetestOwed_entry (d : ChannelId) : (s.takeRetestOwed c).entry d = s.entry d := rfl
@[simp] theorem State.takeRetestOwed_use (d : ChannelId) : (s.takeRetestOwed c).use d = s.use d := rfl
@[simp] theorem State.takeRetestOwed_record (n : RecordId) : (s.takeRetestOwed c).record n = s.record n := rfl

end takeRetestOwed

/-! ## Readers of a port -/

section ports

variable (s : State) (p q : PortId)

@[simp] theorem State.setPort_port (b : Port) : (s.setPort p b).port q = if q = p then b else s.port q := by
  simp [State.port, State.setPort]
@[simp] theorem State.modPort_port (f : Port → Port) : (s.modPort p f).port q = if q = p then f (s.port p) else s.port q := by
  simp [State.modPort]
@[simp] theorem State.modPiu_piu (f : Piu → Piu) : (s.modPiu p f).piu q = if q = p then f (s.piu p) else s.piu q := by
  by_cases h : q = p <;> simp [State.piu, State.modPiu, h]
@[simp] theorem State.modPiu_writer (f : Piu → Piu) : (s.modPiu p f).writer q = s.writer q := by
  by_cases h : q = p <;> simp [State.writer, State.modPiu, h]
@[simp] theorem State.modPiu_nu (f : Piu → Piu) : (s.modPiu p f).nu q = s.nu q := by
  by_cases h : q = p <;> simp [State.nu, State.modPiu, h]
@[simp] theorem State.modPiu_flushOwed (f : Piu → Piu) : ((s.modPiu p f).port q).flushOwed = (s.port q).flushOwed := by
  by_cases h : q = p <;> simp [State.modPiu, h]
@[simp] theorem State.modPiu_requeueOwed (f : Piu → Piu) : ((s.modPiu p f).port q).requeueOwed = (s.port q).requeueOwed := by
  by_cases h : q = p <;> simp [State.modPiu, h]
@[simp] theorem State.modWriter_writer (f : Writer → Writer) : (s.modWriter p f).writer q = if q = p then f (s.writer p) else s.writer q := by
  by_cases h : q = p <;> simp [State.writer, State.modWriter, h]
@[simp] theorem State.modWriter_piu (f : Writer → Writer) : (s.modWriter p f).piu q = s.piu q := by
  by_cases h : q = p <;> simp [State.piu, State.modWriter, h]
@[simp] theorem State.modWriter_nu (f : Writer → Writer) : (s.modWriter p f).nu q = s.nu q := by
  by_cases h : q = p <;> simp [State.nu, State.modWriter, h]
@[simp] theorem State.modWriter_flushOwed (f : Writer → Writer) : ((s.modWriter p f).port q).flushOwed = (s.port q).flushOwed := by
  by_cases h : q = p <;> simp [State.modWriter, h]
@[simp] theorem State.modWriter_requeueOwed (f : Writer → Writer) : ((s.modWriter p f).port q).requeueOwed = (s.port q).requeueOwed := by
  by_cases h : q = p <;> simp [State.modWriter, h]
@[simp] theorem State.modNu_nu (f : Nu → Nu) : (s.modNu p f).nu q = if q = p then f (s.nu p) else s.nu q := by
  by_cases h : q = p <;> simp [State.nu, State.modNu, h]
@[simp] theorem State.modNu_piu (f : Nu → Nu) : (s.modNu p f).piu q = s.piu q := by
  by_cases h : q = p <;> simp [State.piu, State.modNu, h]
@[simp] theorem State.modNu_writer (f : Nu → Nu) : (s.modNu p f).writer q = s.writer q := by
  by_cases h : q = p <;> simp [State.writer, State.modNu, h]
@[simp] theorem State.modNu_flushOwed (f : Nu → Nu) : ((s.modNu p f).port q).flushOwed = (s.port q).flushOwed := by
  by_cases h : q = p <;> simp [State.modNu, h]
@[simp] theorem State.modNu_requeueOwed (f : Nu → Nu) : ((s.modNu p f).port q).requeueOwed = (s.port q).requeueOwed := by
  by_cases h : q = p <;> simp [State.modNu, h]
@[simp] theorem State.setPort_self (b : Port) : (s.setPort p b).port p = b := by simp
theorem State.port_piu : (s.port p).piu = s.piu p := rfl
theorem State.port_writer : (s.port p).writer = s.writer p := rfl
theorem State.port_nu : (s.port p).nu = s.nu p := rfl

end ports

/-- Two readings of the ports agree when the ports do. -/
theorem State.port_congr {s t : State} (h : t.ports = s.ports) (q : PortId) : t.port q = s.port q := by rw [State.port, State.port, h]

/-! ## Readers that an update of something else leaves -/

section others

variable (s : State) (q : PortId) (d : ChannelId) (k : RecordId)

@[simp] theorem State.setPort_entry (p : PortId) (b : Port) : (s.setPort p b).entry d = s.entry d := rfl
@[simp] theorem State.setPort_use (p : PortId) (b : Port) : (s.setPort p b).use d = s.use d := rfl
@[simp] theorem State.setPort_record (p : PortId) (b : Port) : (s.setPort p b).record k = s.record k := rfl
@[simp] theorem State.modPort_entry (p : PortId) (f : Port → Port) : (s.modPort p f).entry d = s.entry d := rfl
@[simp] theorem State.modPort_use (p : PortId) (f : Port → Port) : (s.modPort p f).use d = s.use d := rfl
@[simp] theorem State.modPort_record (p : PortId) (f : Port → Port) : (s.modPort p f).record k = s.record k := rfl
@[simp] theorem State.modPiu_entry (p : PortId) (f : Piu → Piu) : (s.modPiu p f).entry d = s.entry d := rfl
@[simp] theorem State.modPiu_use (p : PortId) (f : Piu → Piu) : (s.modPiu p f).use d = s.use d := rfl
@[simp] theorem State.modPiu_record (p : PortId) (f : Piu → Piu) : (s.modPiu p f).record k = s.record k := rfl
@[simp] theorem State.modWriter_entry (p : PortId) (f : Writer → Writer) : (s.modWriter p f).entry d = s.entry d := rfl
@[simp] theorem State.modWriter_use (p : PortId) (f : Writer → Writer) : (s.modWriter p f).use d = s.use d := rfl
@[simp] theorem State.modWriter_record (p : PortId) (f : Writer → Writer) : (s.modWriter p f).record k = s.record k := rfl
@[simp] theorem State.modNu_entry (p : PortId) (f : Nu → Nu) : (s.modNu p f).entry d = s.entry d := rfl
@[simp] theorem State.modNu_use (p : PortId) (f : Nu → Nu) : (s.modNu p f).use d = s.use d := rfl
@[simp] theorem State.modNu_record (p : PortId) (f : Nu → Nu) : (s.modNu p f).record k = s.record k := rfl
@[simp] theorem State.setEntry_port (c : ChannelId) (e : Entry) : (s.setEntry c e).port q = s.port q := rfl
@[simp] theorem State.setEntry_piu (c : ChannelId) (e : Entry) : (s.setEntry c e).piu q = s.piu q := rfl
@[simp] theorem State.setEntry_writer (c : ChannelId) (e : Entry) : (s.setEntry c e).writer q = s.writer q := rfl
@[simp] theorem State.setEntry_nu (c : ChannelId) (e : Entry) : (s.setEntry c e).nu q = s.nu q := rfl
@[simp] theorem State.setEntry_record (c : ChannelId) (e : Entry) : (s.setEntry c e).record k = s.record k := rfl
@[simp] theorem State.modUse_port (c : ChannelId) (f : Use → Use) : (s.modUse c f).port q = s.port q := rfl
@[simp] theorem State.modUse_piu (c : ChannelId) (f : Use → Use) : (s.modUse c f).piu q = s.piu q := rfl
@[simp] theorem State.modUse_writer (c : ChannelId) (f : Use → Use) : (s.modUse c f).writer q = s.writer q := rfl
@[simp] theorem State.modUse_nu (c : ChannelId) (f : Use → Use) : (s.modUse c f).nu q = s.nu q := rfl
@[simp] theorem State.modUse_record (c : ChannelId) (f : Use → Use) : (s.modUse c f).record k = s.record k := rfl
@[simp] theorem State.modCounters_port (c : ChannelId) (f : Counters → Counters) : (s.modCounters c f).port q = s.port q := rfl
@[simp] theorem State.modCounters_piu (c : ChannelId) (f : Counters → Counters) : (s.modCounters c f).piu q = s.piu q := rfl
@[simp] theorem State.modCounters_writer (c : ChannelId) (f : Counters → Counters) : (s.modCounters c f).writer q = s.writer q := rfl
@[simp] theorem State.modCounters_nu (c : ChannelId) (f : Counters → Counters) : (s.modCounters c f).nu q = s.nu q := rfl
@[simp] theorem State.modCounters_record (c : ChannelId) (f : Counters → Counters) : (s.modCounters c f).record k = s.record k := rfl
@[simp] theorem State.setPool_port (pool : Pool) : (s.setPool pool).port q = s.port q := rfl
@[simp] theorem State.setPool_piu (pool : Pool) : (s.setPool pool).piu q = s.piu q := rfl
@[simp] theorem State.setPool_writer (pool : Pool) : (s.setPool pool).writer q = s.writer q := rfl
@[simp] theorem State.setPool_nu (pool : Pool) : (s.setPool pool).nu q = s.nu q := rfl
@[simp] theorem State.setPool_entry (pool : Pool) : (s.setPool pool).entry d = s.entry d := rfl
@[simp] theorem State.setPool_use (pool : Pool) : (s.setPool pool).use d = s.use d := rfl
@[simp] theorem State.modRecord_port (r : RecordId) (f : Record → Record) : (s.modRecord r f).port q = s.port q := rfl
@[simp] theorem State.modRecord_piu (r : RecordId) (f : Record → Record) : (s.modRecord r f).piu q = s.piu q := rfl
@[simp] theorem State.modRecord_writer (r : RecordId) (f : Record → Record) : (s.modRecord r f).writer q = s.writer q := rfl
@[simp] theorem State.modRecord_nu (r : RecordId) (f : Record → Record) : (s.modRecord r f).nu q = s.nu q := rfl
@[simp] theorem State.modRecord_entry (r : RecordId) (f : Record → Record) : (s.modRecord r f).entry d = s.entry d := rfl
@[simp] theorem State.modRecord_use (r : RecordId) (f : Record → Record) : (s.modRecord r f).use d = s.use d := rfl

end others

/-! ## Readers of an entry -/

section entries

variable (s : State) (c d : ChannelId)

@[simp] theorem State.setEntry_entry (e : Entry) : (s.setEntry c e).entry d = if d = c then e else s.entry d := by
  simp [State.entry, State.setEntry]
@[simp] theorem State.setEntry_use (e : Entry) : (s.setEntry c e).use d = if d = c then e.use else s.use d := by
  by_cases h : d = c <;> simp [State.use, h]
@[simp] theorem State.modUse_entry (f : Use → Use) :
    (s.modUse c f).entry d = if d = c then { s.entry c with use := (s.use c).map f } else s.entry d := by
  simp [State.modUse, State.use]
@[simp] theorem State.modUse_use (f : Use → Use) : (s.modUse c f).use d = if d = c then (s.use c).map f else s.use d := by
  by_cases h : d = c <;> simp [State.modUse, State.use, h]
@[simp] theorem State.modCounters_entry (f : Counters → Counters) :
    (s.modCounters c f).entry d = if d = c then { s.entry c with counters := f (s.entry c).counters } else s.entry d := by
  simp [State.modCounters]
@[simp] theorem State.modCounters_use (f : Counters → Counters) : (s.modCounters c f).use d = s.use d := by
  by_cases h : d = c <;> simp [State.modCounters, State.use, h]
theorem State.entry_use : (s.entry c).use = s.use c := rfl

end entries

/-! ## Readers of the pool -/

section records

variable (s : State) (r k : RecordId)

@[simp] theorem State.modRecord_record (f : Record → Record) :
    (s.modRecord r f).record k = if k = r then (s.record r).map f else s.record k := by
  simp [State.modRecord, State.record]
@[simp] theorem State.modRecord_segments (f : Record → Record) : (s.modRecord r f).pool.segments = s.pool.segments := rfl
@[simp] theorem State.modRecord_segFree (f : Record → Record) : (s.modRecord r f).pool.segFree = s.pool.segFree := rfl
@[simp] theorem State.modRecord_recFree (f : Record → Record) : (s.modRecord r f).pool.recFree = s.pool.recFree := rfl
@[simp] theorem State.modRecord_level (f : Record → Record) : (s.modRecord r f).pool.level = s.pool.level := rfl
@[simp] theorem State.setPool_record (pool : Pool) : (s.setPool pool).record k = pool.records.read k := rfl

end records

end Sys2Proof.Machine
end

