-- ==== Sys2Proof/Laws/Notice.lean ====
section
/-! SUPPORT. Events and handings change nothing but Notice Units (a binding of a consumer slot, also a credit value): one lemma per field per operation,
and what they do to the Notice Units. -/

namespace Sys2Proof.Machine

section countVector

variable (s : State) (p : PortId) (v : VectorId)

@[simp] theorem State.countVector_pending : (s.countVector p v).pending = s.pending := by
 unfold State.countVector; (repeat' split) <;> simp
@[simp] theorem State.countVector_resetPin : (s.countVector p v).resetPin = s.resetPin := by
 unfold State.countVector; (repeat' split) <;> simp
@[simp] theorem State.countVector_entries : (s.countVector p v).entries = s.entries := by
 unfold State.countVector; (repeat' split) <;> simp
@[simp] theorem State.countVector_pool : (s.countVector p v).pool = s.pool := by
 unfold State.countVector; (repeat' split) <;> simp
@[simp] theorem State.countVector_roundRobin : (s.countVector p v).roundRobin = s.roundRobin := by
 unfold State.countVector; (repeat' split) <;> simp
@[simp] theorem State.countVector_holdOwed : (s.countVector p v).holdOwed = s.holdOwed := by
 unfold State.countVector; (repeat' split) <;> simp
@[simp] theorem State.countVector_retestOwed : (s.countVector p v).retestOwed = s.retestOwed := by
 unfold State.countVector; (repeat' split) <;> simp
@[simp] theorem State.countVector_onTick : (s.countVector p v).onTick = s.onTick := by
 unfold State.countVector; (repeat' split) <;> simp
@[simp] theorem State.countVector_freeIndex : (s.countVector p v).freeIndex = s.freeIndex := by
 unfold State.countVector; (repeat' split) <;> simp
@[simp] theorem State.countVector_entry (d : ChannelId) : (s.countVector p v).entry d = s.entry d := by
 unfold State.countVector; (repeat' split) <;> simp
@[simp] theorem State.countVector_use (d : ChannelId) : (s.countVector p v).use d = s.use d := by
 unfold State.countVector; (repeat' split) <;> simp
@[simp] theorem State.countVector_record (r : RecordId) : (s.countVector p v).record r = s.record r := by
 unfold State.countVector; (repeat' split) <;> simp
@[simp] theorem State.countVector_piu (q : PortId) : (s.countVector p v).piu q = s.piu q := by
 unfold State.countVector; (repeat' split) <;> simp
@[simp] theorem State.countVector_writer (q : PortId) : (s.countVector p v).writer q = s.writer q := by
 unfold State.countVector; (repeat' split) <;> simp
@[simp] theorem State.countVector_flushOwed (q : PortId) : ((s.countVector p v).port q).flushOwed = (s.port q).flushOwed := by
 unfold State.countVector; (repeat' split) <;> simp
@[simp] theorem State.countVector_requeueOwed (q : PortId) : ((s.countVector p v).port q).requeueOwed = (s.port q).requeueOwed := by
 unfold State.countVector; (repeat' split) <;> simp

end countVector

section event

variable (s : State) (p : PortId) (kind : EventKind) (qualifier channel : Byte) (detail : Half) (slot : Option SlotId)

@[simp] theorem State.event_pending : (s.event p kind qualifier channel detail slot).pending = s.pending := by
 unfold State.event; (repeat' split) <;> simp
@[simp] theorem State.event_resetPin : (s.event p kind qualifier channel detail slot).resetPin = s.resetPin := by
 unfold State.event; (repeat' split) <;> simp
@[simp] theorem State.event_entries : (s.event p kind qualifier channel detail slot).entries = s.entries := by
 unfold State.event; (repeat' split) <;> simp
@[simp] theorem State.event_pool : (s.event p kind qualifier channel detail slot).pool = s.pool := by
 unfold State.event; (repeat' split) <;> simp
@[simp] theorem State.event_roundRobin : (s.event p kind qualifier channel detail slot).roundRobin = s.roundRobin := by
 unfold State.event; (repeat' split) <;> simp
@[simp] theorem State.event_holdOwed : (s.event p kind qualifier channel detail slot).holdOwed = s.holdOwed := by
 unfold State.event; (repeat' split) <;> simp
@[simp] theorem State.event_retestOwed : (s.event p kind qualifier channel detail slot).retestOwed = s.retestOwed := by
 unfold State.event; (repeat' split) <;> simp
@[simp] theorem State.event_onTick : (s.event p kind qualifier channel detail slot).onTick = s.onTick := by
 unfold State.event; (repeat' split) <;> simp
@[simp] theorem State.event_freeIndex : (s.event p kind qualifier channel detail slot).freeIndex = s.freeIndex := by
 unfold State.event; (repeat' split) <;> simp
@[simp] theorem State.event_entry (d : ChannelId) : (s.event p kind qualifier channel detail slot).entry d = s.entry d := by
 unfold State.event; (repeat' split) <;> simp
@[simp] theorem State.event_use (d : ChannelId) : (s.event p kind qualifier channel detail slot).use d = s.use d := by
 unfold State.event; (repeat' split) <;> simp
@[simp] theorem State.event_record (r : RecordId) : (s.event p kind qualifier channel detail slot).record r = s.record r := by
 unfold State.event; (repeat' split) <;> simp
@[simp] theorem State.event_piu (q : PortId) : (s.event p kind qualifier channel detail slot).piu q = s.piu q := by
 unfold State.event; (repeat' split) <;> simp
@[simp] theorem State.event_writer (q : PortId) : (s.event p kind qualifier channel detail slot).writer q = s.writer q := by
 unfold State.event; (repeat' split) <;> simp
@[simp] theorem State.event_flushOwed (q : PortId) : ((s.event p kind qualifier channel detail slot).port q).flushOwed = (s.port q).flushOwed := by
 unfold State.event; (repeat' split) <;> simp
@[simp] theorem State.event_requeueOwed (q : PortId) : ((s.event p kind qualifier channel detail slot).port q).requeueOwed = (s.port q).requeueOwed := by
 unfold State.event; (repeat' split) <;> simp

end event

section partyEvent

variable (s : State) (a : Party) (kind : EventKind) (qualifier : Byte) (c : ChannelId) (detail : Half)

@[simp] theorem State.partyEvent_pending : (s.partyEvent a kind qualifier c detail).pending = s.pending := by simp [State.partyEvent]
@[simp] theorem State.partyEvent_resetPin : (s.partyEvent a kind qualifier c detail).resetPin = s.resetPin := by simp [State.partyEvent]
@[simp] theorem State.partyEvent_entries : (s.partyEvent a kind qualifier c detail).entries = s.entries := by simp [State.partyEvent]
@[simp] theorem State.partyEvent_pool : (s.partyEvent a kind qualifier c detail).pool = s.pool := by simp [State.partyEvent]
@[simp] theorem State.partyEvent_roundRobin : (s.partyEvent a kind qualifier c detail).roundRobin = s.roundRobin := by simp [State.partyEvent]
@[simp] theorem State.partyEvent_holdOwed : (s.partyEvent a kind qualifier c detail).holdOwed = s.holdOwed := by simp [State.partyEvent]
@[simp] theorem State.partyEvent_retestOwed : (s.partyEvent a kind qualifier c detail).retestOwed = s.retestOwed := by simp [State.partyEvent]
@[simp] theorem State.partyEvent_onTick : (s.partyEvent a kind qualifier c detail).onTick = s.onTick := by simp [State.partyEvent]
@[simp] theorem State.partyEvent_freeIndex : (s.partyEvent a kind qualifier c detail).freeIndex = s.freeIndex := by simp [State.partyEvent]
@[simp] theorem State.partyEvent_entry (d : ChannelId) : (s.partyEvent a kind qualifier c detail).entry d = s.entry d := by simp [State.partyEvent]
@[simp] theorem State.partyEvent_use (d : ChannelId) : (s.partyEvent a kind qualifier c detail).use d = s.use d := by simp [State.partyEvent]
@[simp] theorem State.partyEvent_record (r : RecordId) : (s.partyEvent a kind qualifier c detail).record r = s.record r := by simp [State.partyEvent]
@[simp] theorem State.partyEvent_piu (q : PortId) : (s.partyEvent a kind qualifier c detail).piu q = s.piu q := by simp [State.partyEvent]
@[simp] theorem State.partyEvent_writer (q : PortId) : (s.partyEvent a kind qualifier c detail).writer q = s.writer q := by simp [State.partyEvent]
@[simp] theorem State.partyEvent_flushOwed (q : PortId) : ((s.partyEvent a kind qualifier c detail).port q).flushOwed = (s.port q).flushOwed := by simp [State.partyEvent]
@[simp] theorem State.partyEvent_requeueOwed (q : PortId) : ((s.partyEvent a kind qualifier c detail).port q).requeueOwed = (s.port q).requeueOwed := by simp [State.partyEvent]

end partyEvent

section portEvent

variable (s : State) (p : PortId) (kind : EventKind) (c : ChannelId) (detail : Half)

@[simp] theorem State.portEvent_pending : (s.portEvent p kind c detail).pending = s.pending := by simp [State.portEvent]
@[simp] theorem State.portEvent_resetPin : (s.portEvent p kind c detail).resetPin = s.resetPin := by simp [State.portEvent]
@[simp] theorem State.portEvent_entries : (s.portEvent p kind c detail).entries = s.entries := by simp [State.portEvent]
@[simp] theorem State.portEvent_pool : (s.portEvent p kind c detail).pool = s.pool := by simp [State.portEvent]
@[simp] theorem State.portEvent_roundRobin : (s.portEvent p kind c detail).roundRobin = s.roundRobin := by simp [State.portEvent]
@[simp] theorem State.portEvent_holdOwed : (s.portEvent p kind c detail).holdOwed = s.holdOwed := by simp [State.portEvent]
@[simp] theorem State.portEvent_retestOwed : (s.portEvent p kind c detail).retestOwed = s.retestOwed := by simp [State.portEvent]
@[simp] theorem State.portEvent_onTick : (s.portEvent p kind c detail).onTick = s.onTick := by simp [State.portEvent]
@[simp] theorem State.portEvent_freeIndex : (s.portEvent p kind c detail).freeIndex = s.freeIndex := by simp [State.portEvent]
@[simp] theorem State.portEvent_entry (d : ChannelId) : (s.portEvent p kind c detail).entry d = s.entry d := by simp [State.portEvent]
@[simp] theorem State.portEvent_use (d : ChannelId) : (s.portEvent p kind c detail).use d = s.use d := by simp [State.portEvent]
@[simp] theorem State.portEvent_record (r : RecordId) : (s.portEvent p kind c detail).record r = s.record r := by simp [State.portEvent]
@[simp] theorem State.portEvent_piu (q : PortId) : (s.portEvent p kind c detail).piu q = s.piu q := by simp [State.portEvent]
@[simp] theorem State.portEvent_writer (q : PortId) : (s.portEvent p kind c detail).writer q = s.writer q := by simp [State.portEvent]
@[simp] theorem State.portEvent_flushOwed (q : PortId) : ((s.portEvent p kind c detail).port q).flushOwed = (s.port q).flushOwed := by simp [State.portEvent]
@[simp] theorem State.portEvent_requeueOwed (q : PortId) : ((s.portEvent p kind c detail).port q).requeueOwed = (s.port q).requeueOwed := by simp [State.portEvent]

end portEvent

section tellParty

variable (s : State) (a : Option Party) (kind : EventKind) (qualifier : Byte) (c : ChannelId) (detail : Half)

@[simp] theorem State.tellParty_pending : (s.tellParty a kind qualifier c detail).pending = s.pending := by
 unfold State.tellParty; (repeat' split) <;> simp
@[simp] theorem State.tellParty_resetPin : (s.tellParty a kind qualifier c detail).resetPin = s.resetPin := by
 unfold State.tellParty; (repeat' split) <;> simp
@[simp] theorem State.tellParty_entries : (s.tellParty a kind qualifier c detail).entries = s.entries := by
 unfold State.tellParty; (repeat' split) <;> simp
@[simp] theorem State.tellParty_pool : (s.tellParty a kind qualifier c detail).pool = s.pool := by
 unfold State.tellParty; (repeat' split) <;> simp
@[simp] theorem State.tellParty_roundRobin : (s.tellParty a kind qualifier c detail).roundRobin = s.roundRobin := by
 unfold State.tellParty; (repeat' split) <;> simp
@[simp] theorem State.tellParty_holdOwed : (s.tellParty a kind qualifier c detail).holdOwed = s.holdOwed := by
 unfold State.tellParty; (repeat' split) <;> simp
@[simp] theorem State.tellParty_retestOwed : (s.tellParty a kind qualifier c detail).retestOwed = s.retestOwed := by
 unfold State.tellParty; (repeat' split) <;> simp
@[simp] theorem State.tellParty_onTick : (s.tellParty a kind qualifier c detail).onTick = s.onTick := by
 unfold State.tellParty; (repeat' split) <;> simp
@[simp] theorem State.tellParty_freeIndex : (s.tellParty a kind qualifier c detail).freeIndex = s.freeIndex := by
 unfold State.tellParty; (repeat' split) <;> simp
@[simp] theorem State.tellParty_entry (d : ChannelId) : (s.tellParty a kind qualifier c detail).entry d = s.entry d := by
 unfold State.tellParty; (repeat' split) <;> simp
@[simp] theorem State.tellParty_use (d : ChannelId) : (s.tellParty a kind qualifier c detail).use d = s.use d := by
 unfold State.tellParty; (repeat' split) <;> simp
@[simp] theorem State.tellParty_record (r : RecordId) : (s.tellParty a kind qualifier c detail).record r = s.record r := by
 unfold State.tellParty; (repeat' split) <;> simp
@[simp] theorem State.tellParty_piu (q : PortId) : (s.tellParty a kind qualifier c detail).piu q = s.piu q := by
 unfold State.tellParty; (repeat' split) <;> simp
@[simp] theorem State.tellParty_writer (q : PortId) : (s.tellParty a kind qualifier c detail).writer q = s.writer q := by
 unfold State.tellParty; (repeat' split) <;> simp
@[simp] theorem State.tellParty_flushOwed (q : PortId) : ((s.tellParty a kind qualifier c detail).port q).flushOwed = (s.port q).flushOwed := by
 unfold State.tellParty; (repeat' split) <;> simp
@[simp] theorem State.tellParty_requeueOwed (q : PortId) : ((s.tellParty a kind qualifier c detail).port q).requeueOwed = (s.port q).requeueOwed := by
 unfold State.tellParty; (repeat' split) <;> simp

end tellParty

section modConsumerWord

variable (s : State) (a : Party) (f : ConsumerWord → ConsumerWord)

@[simp] theorem State.modConsumerWord_pending : (s.modConsumerWord a f).pending = s.pending := by simp [State.modConsumerWord]
@[simp] theorem State.modConsumerWord_resetPin : (s.modConsumerWord a f).resetPin = s.resetPin := by simp [State.modConsumerWord]
@[simp] theorem State.modConsumerWord_entries : (s.modConsumerWord a f).entries = s.entries := by simp [State.modConsumerWord]
@[simp] theorem State.modConsumerWord_pool : (s.modConsumerWord a f).pool = s.pool := by simp [State.modConsumerWord]
@[simp] theorem State.modConsumerWord_roundRobin : (s.modConsumerWord a f).roundRobin = s.roundRobin := by simp [State.modConsumerWord]
@[simp] theorem State.modConsumerWord_holdOwed : (s.modConsumerWord a f).holdOwed = s.holdOwed := by simp [State.modConsumerWord]
@[simp] theorem State.modConsumerWord_retestOwed : (s.modConsumerWord a f).retestOwed = s.retestOwed := by simp [State.modConsumerWord]
@[simp] theorem State.modConsumerWord_onTick : (s.modConsumerWord a f).onTick = s.onTick := by simp [State.modConsumerWord]
@[simp] theorem State.modConsumerWord_freeIndex : (s.modConsumerWord a f).freeIndex = s.freeIndex := by simp [State.modConsumerWord]
@[simp] theorem State.modConsumerWord_entry (d : ChannelId) : (s.modConsumerWord a f).entry d = s.entry d := by simp [State.modConsumerWord]
@[simp] theorem State.modConsumerWord_use (d : ChannelId) : (s.modConsumerWord a f).use d = s.use d := by simp [State.modConsumerWord]
@[simp] theorem State.modConsumerWord_record (r : RecordId) : (s.modConsumerWord a f).record r = s.record r := by simp [State.modConsumerWord]
@[simp] theorem State.modConsumerWord_piu (q : PortId) : (s.modConsumerWord a f).piu q = s.piu q := by simp [State.modConsumerWord]
@[simp] theorem State.modConsumerWord_writer (q : PortId) : (s.modConsumerWord a f).writer q = s.writer q := by simp [State.modConsumerWord]
@[simp] theorem State.modConsumerWord_flushOwed (q : PortId) : ((s.modConsumerWord a f).port q).flushOwed = (s.port q).flushOwed := by simp [State.modConsumerWord]
@[simp] theorem State.modConsumerWord_requeueOwed (q : PortId) : ((s.modConsumerWord a f).port q).requeueOwed = (s.port q).requeueOwed := by simp [State.modConsumerWord]

end modConsumerWord

section modProducerWord

variable (s : State) (a : Party) (f : ProducerWord → ProducerWord)

@[simp] theorem State.modProducerWord_pending : (s.modProducerWord a f).pending = s.pending := by simp [State.modProducerWord]
@[simp] theorem State.modProducerWord_resetPin : (s.modProducerWord a f).resetPin = s.resetPin := by simp [State.modProducerWord]
@[simp] theorem State.modProducerWord_entries : (s.modProducerWord a f).entries = s.entries := by simp [State.modProducerWord]
@[simp] theorem State.modProducerWord_pool : (s.modProducerWord a f).pool = s.pool := by simp [State.modProducerWord]
@[simp] theorem State.modProducerWord_roundRobin : (s.modProducerWord a f).roundRobin = s.roundRobin := by simp [State.modProducerWord]
@[simp] theorem State.modProducerWord_holdOwed : (s.modProducerWord a f).holdOwed = s.holdOwed := by simp [State.modProducerWord]
@[simp] theorem State.modProducerWord_retestOwed : (s.modProducerWord a f).retestOwed = s.retestOwed := by simp [State.modProducerWord]
@[simp] theorem State.modProducerWord_onTick : (s.modProducerWord a f).onTick = s.onTick := by simp [State.modProducerWord]
@[simp] theorem State.modProducerWord_freeIndex : (s.modProducerWord a f).freeIndex = s.freeIndex := by simp [State.modProducerWord]
@[simp] theorem State.modProducerWord_entry (d : ChannelId) : (s.modProducerWord a f).entry d = s.entry d := by simp [State.modProducerWord]
@[simp] theorem State.modProducerWord_use (d : ChannelId) : (s.modProducerWord a f).use d = s.use d := by simp [State.modProducerWord]
@[simp] theorem State.modProducerWord_record (r : RecordId) : (s.modProducerWord a f).record r = s.record r := by simp [State.modProducerWord]
@[simp] theorem State.modProducerWord_piu (q : PortId) : (s.modProducerWord a f).piu q = s.piu q := by simp [State.modProducerWord]
@[simp] theorem State.modProducerWord_writer (q : PortId) : (s.modProducerWord a f).writer q = s.writer q := by simp [State.modProducerWord]
@[simp] theorem State.modProducerWord_flushOwed (q : PortId) : ((s.modProducerWord a f).port q).flushOwed = (s.port q).flushOwed := by simp [State.modProducerWord]
@[simp] theorem State.modProducerWord_requeueOwed (q : PortId) : ((s.modProducerWord a f).port q).requeueOwed = (s.port q).requeueOwed := by simp [State.modProducerWord]

end modProducerWord

section bindConsumer

variable (s : State) (a : Party) (c : ChannelId)

@[simp] theorem State.bindConsumer_pending : (s.bindConsumer a c).pending = s.pending := by simp [State.bindConsumer]
@[simp] theorem State.bindConsumer_resetPin : (s.bindConsumer a c).resetPin = s.resetPin := by simp [State.bindConsumer]
@[simp] theorem State.bindConsumer_entries : (s.bindConsumer a c).entries = s.entries := by simp [State.bindConsumer]
@[simp] theorem State.bindConsumer_pool : (s.bindConsumer a c).pool = s.pool := by simp [State.bindConsumer]
@[simp] theorem State.bindConsumer_roundRobin : (s.bindConsumer a c).roundRobin = s.roundRobin := by simp [State.bindConsumer]
@[simp] theorem State.bindConsumer_holdOwed : (s.bindConsumer a c).holdOwed = s.holdOwed := by simp [State.bindConsumer]
@[simp] theorem State.bindConsumer_retestOwed : (s.bindConsumer a c).retestOwed = s.retestOwed := by simp [State.bindConsumer]
@[simp] theorem State.bindConsumer_onTick : (s.bindConsumer a c).onTick = s.onTick := by simp [State.bindConsumer]
@[simp] theorem State.bindConsumer_freeIndex : (s.bindConsumer a c).freeIndex = s.freeIndex := by simp [State.bindConsumer]
@[simp] theorem State.bindConsumer_entry (d : ChannelId) : (s.bindConsumer a c).entry d = s.entry d := by simp [State.bindConsumer]
@[simp] theorem State.bindConsumer_use (d : ChannelId) : (s.bindConsumer a c).use d = s.use d := by simp [State.bindConsumer]
@[simp] theorem State.bindConsumer_record (r : RecordId) : (s.bindConsumer a c).record r = s.record r := by simp [State.bindConsumer]
@[simp] theorem State.bindConsumer_writer (q : PortId) : (s.bindConsumer a c).writer q = s.writer q := by simp [State.bindConsumer]
@[simp] theorem State.bindConsumer_flushOwed (q : PortId) : ((s.bindConsumer a c).port q).flushOwed = (s.port q).flushOwed := by simp [State.bindConsumer]
@[simp] theorem State.bindConsumer_requeueOwed (q : PortId) : ((s.bindConsumer a c).port q).requeueOwed = (s.port q).requeueOwed := by simp [State.bindConsumer]

end bindConsumer

section bindProducer

variable (s : State) (a : Party) (c : ChannelId)

@[simp] theorem State.bindProducer_pending : (s.bindProducer a c).pending = s.pending := by simp [State.bindProducer]
@[simp] theorem State.bindProducer_resetPin : (s.bindProducer a c).resetPin = s.resetPin := by simp [State.bindProducer]
@[simp] theorem State.bindProducer_entries : (s.bindProducer a c).entries = s.entries := by simp [State.bindProducer]
@[simp] theorem State.bindProducer_pool : (s.bindProducer a c).pool = s.pool := by simp [State.bindProducer]
@[simp] theorem State.bindProducer_roundRobin : (s.bindProducer a c).roundRobin = s.roundRobin := by simp [State.bindProducer]
@[simp] theorem State.bindProducer_holdOwed : (s.bindProducer a c).holdOwed = s.holdOwed := by simp [State.bindProducer]
@[simp] theorem State.bindProducer_retestOwed : (s.bindProducer a c).retestOwed = s.retestOwed := by simp [State.bindProducer]
@[simp] theorem State.bindProducer_onTick : (s.bindProducer a c).onTick = s.onTick := by simp [State.bindProducer]
@[simp] theorem State.bindProducer_freeIndex : (s.bindProducer a c).freeIndex = s.freeIndex := by simp [State.bindProducer]
@[simp] theorem State.bindProducer_entry (d : ChannelId) : (s.bindProducer a c).entry d = s.entry d := by simp [State.bindProducer]
@[simp] theorem State.bindProducer_use (d : ChannelId) : (s.bindProducer a c).use d = s.use d := by simp [State.bindProducer]
@[simp] theorem State.bindProducer_record (r : RecordId) : (s.bindProducer a c).record r = s.record r := by simp [State.bindProducer]
@[simp] theorem State.bindProducer_piu (q : PortId) : (s.bindProducer a c).piu q = s.piu q := by simp [State.bindProducer]
@[simp] theorem State.bindProducer_writer (q : PortId) : (s.bindProducer a c).writer q = s.writer q := by simp [State.bindProducer]
@[simp] theorem State.bindProducer_flushOwed (q : PortId) : ((s.bindProducer a c).port q).flushOwed = (s.port q).flushOwed := by simp [State.bindProducer]
@[simp] theorem State.bindProducer_requeueOwed (q : PortId) : ((s.bindProducer a c).port q).requeueOwed = (s.port q).requeueOwed := by simp [State.bindProducer]

end bindProducer

section unbindConsumer

variable (s : State) (a : Option Party)

@[simp] theorem State.unbindConsumer_pending : (s.unbindConsumer a).pending = s.pending := by
 unfold State.unbindConsumer; (repeat' split) <;> simp
@[simp] theorem State.unbindConsumer_resetPin : (s.unbindConsumer a).resetPin = s.resetPin := by
 unfold State.unbindConsumer; (repeat' split) <;> simp
@[simp] theorem State.unbindConsumer_entries : (s.unbindConsumer a).entries = s.entries := by
 unfold State.unbindConsumer; (repeat' split) <;> simp
@[simp] theorem State.unbindConsumer_pool : (s.unbindConsumer a).pool = s.pool := by
 unfold State.unbindConsumer; (repeat' split) <;> simp
@[simp] theorem State.unbindConsumer_roundRobin : (s.unbindConsumer a).roundRobin = s.roundRobin := by
 unfold State.unbindConsumer; (repeat' split) <;> simp
@[simp] theorem State.unbindConsumer_holdOwed : (s.unbindConsumer a).holdOwed = s.holdOwed := by
 unfold State.unbindConsumer; (repeat' split) <;> simp
@[simp] theorem State.unbindConsumer_retestOwed : (s.unbindConsumer a).retestOwed = s.retestOwed := by
 unfold State.unbindConsumer; (repeat' split) <;> simp
@[simp] theorem State.unbindConsumer_onTick : (s.unbindConsumer a).onTick = s.onTick := by
 unfold State.unbindConsumer; (repeat' split) <;> simp
@[simp] theorem State.unbindConsumer_freeIndex : (s.unbindConsumer a).freeIndex = s.freeIndex := by
 unfold State.unbindConsumer; (repeat' split) <;> simp
@[simp] theorem State.unbindConsumer_entry (d : ChannelId) : (s.unbindConsumer a).entry d = s.entry d := by
 unfold State.unbindConsumer; (repeat' split) <;> simp
@[simp] theorem State.unbindConsumer_use (d : ChannelId) : (s.unbindConsumer a).use d = s.use d := by
 unfold State.unbindConsumer; (repeat' split) <;> simp
@[simp] theorem State.unbindConsumer_record (r : RecordId) : (s.unbindConsumer a).record r = s.record r := by
 unfold State.unbindConsumer; (repeat' split) <;> simp
@[simp] theorem State.unbindConsumer_piu (q : PortId) : (s.unbindConsumer a).piu q = s.piu q := by
 unfold State.unbindConsumer; (repeat' split) <;> simp
@[simp] theorem State.unbindConsumer_writer (q : PortId) : (s.unbindConsumer a).writer q = s.writer q := by
 unfold State.unbindConsumer; (repeat' split) <;> simp
@[simp] theorem State.unbindConsumer_flushOwed (q : PortId) : ((s.unbindConsumer a).port q).flushOwed = (s.port q).flushOwed := by
 unfold State.unbindConsumer; (repeat' split) <;> simp
@[simp] theorem State.unbindConsumer_requeueOwed (q : PortId) : ((s.unbindConsumer a).port q).requeueOwed = (s.port q).requeueOwed := by
 unfold State.unbindConsumer; (repeat' split) <;> simp

end unbindConsumer

section unbindProducer

variable (s : State) (a : Option Party)

@[simp] theorem State.unbindProducer_pending : (s.unbindProducer a).pending = s.pending := by
 unfold State.unbindProducer; (repeat' split) <;> simp
@[simp] theorem State.unbindProducer_resetPin : (s.unbindProducer a).resetPin = s.resetPin := by
 unfold State.unbindProducer; (repeat' split) <;> simp
@[simp] theorem State.unbindProducer_entries : (s.unbindProducer a).entries = s.entries := by
 unfold State.unbindProducer; (repeat' split) <;> simp
@[simp] theorem State.unbindProducer_pool : (s.unbindProducer a).pool = s.pool := by
 unfold State.unbindProducer; (repeat' split) <;> simp
@[simp] theorem State.unbindProducer_roundRobin : (s.unbindProducer a).roundRobin = s.roundRobin := by
 unfold State.unbindProducer; (repeat' split) <;> simp
@[simp] theorem State.unbindProducer_holdOwed : (s.unbindProducer a).holdOwed = s.holdOwed := by
 unfold State.unbindProducer; (repeat' split) <;> simp
@[simp] theorem State.unbindProducer_retestOwed : (s.unbindProducer a).retestOwed = s.retestOwed := by
 unfold State.unbindProducer; (repeat' split) <;> simp
@[simp] theorem State.unbindProducer_onTick : (s.unbindProducer a).onTick = s.onTick := by
 unfold State.unbindProducer; (repeat' split) <;> simp
@[simp] theorem State.unbindProducer_freeIndex : (s.unbindProducer a).freeIndex = s.freeIndex := by
 unfold State.unbindProducer; (repeat' split) <;> simp
@[simp] theorem State.unbindProducer_entry (d : ChannelId) : (s.unbindProducer a).entry d = s.entry d := by
 unfold State.unbindProducer; (repeat' split) <;> simp
@[simp] theorem State.unbindProducer_use (d : ChannelId) : (s.unbindProducer a).use d = s.use d := by
 unfold State.unbindProducer; (repeat' split) <;> simp
@[simp] theorem State.unbindProducer_record (r : RecordId) : (s.unbindProducer a).record r = s.record r := by
 unfold State.unbindProducer; (repeat' split) <;> simp
@[simp] theorem State.unbindProducer_piu (q : PortId) : (s.unbindProducer a).piu q = s.piu q := by
 unfold State.unbindProducer; (repeat' split) <;> simp
@[simp] theorem State.unbindProducer_writer (q : PortId) : (s.unbindProducer a).writer q = s.writer q := by
 unfold State.unbindProducer; (repeat' split) <;> simp
@[simp] theorem State.unbindProducer_flushOwed (q : PortId) : ((s.unbindProducer a).port q).flushOwed = (s.port q).flushOwed := by
 unfold State.unbindProducer; (repeat' split) <;> simp
@[simp] theorem State.unbindProducer_requeueOwed (q : PortId) : ((s.unbindProducer a).port q).requeueOwed = (s.port q).requeueOwed := by
 unfold State.unbindProducer; (repeat' split) <;> simp

end unbindProducer

section handHold

variable (s : State) (a : Option Party) (held : Bool)

@[simp] theorem State.handHold_pending : (s.handHold a held).pending = s.pending := by
 unfold State.handHold; (repeat' split) <;> simp
@[simp] theorem State.handHold_resetPin : (s.handHold a held).resetPin = s.resetPin := by
 unfold State.handHold; (repeat' split) <;> simp
@[simp] theorem State.handHold_entries : (s.handHold a held).entries = s.entries := by
 unfold State.handHold; (repeat' split) <;> simp
@[simp] theorem State.handHold_pool : (s.handHold a held).pool = s.pool := by
 unfold State.handHold; (repeat' split) <;> simp
@[simp] theorem State.handHold_roundRobin : (s.handHold a held).roundRobin = s.roundRobin := by
 unfold State.handHold; (repeat' split) <;> simp
@[simp] theorem State.handHold_holdOwed : (s.handHold a held).holdOwed = s.holdOwed := by
 unfold State.handHold; (repeat' split) <;> simp
@[simp] theorem State.handHold_retestOwed : (s.handHold a held).retestOwed = s.retestOwed := by
 unfold State.handHold; (repeat' split) <;> simp
@[simp] theorem State.handHold_onTick : (s.handHold a held).onTick = s.onTick := by
 unfold State.handHold; (repeat' split) <;> simp
@[simp] theorem State.handHold_freeIndex : (s.handHold a held).freeIndex = s.freeIndex := by
 unfold State.handHold; (repeat' split) <;> simp
@[simp] theorem State.handHold_entry (d : ChannelId) : (s.handHold a held).entry d = s.entry d := by
 unfold State.handHold; (repeat' split) <;> simp
@[simp] theorem State.handHold_use (d : ChannelId) : (s.handHold a held).use d = s.use d := by
 unfold State.handHold; (repeat' split) <;> simp
@[simp] theorem State.handHold_record (r : RecordId) : (s.handHold a held).record r = s.record r := by
 unfold State.handHold; (repeat' split) <;> simp
@[simp] theorem State.handHold_piu (q : PortId) : (s.handHold a held).piu q = s.piu q := by
 unfold State.handHold; (repeat' split) <;> simp
@[simp] theorem State.handHold_writer (q : PortId) : (s.handHold a held).writer q = s.writer q := by
 unfold State.handHold; (repeat' split) <;> simp
@[simp] theorem State.handHold_flushOwed (q : PortId) : ((s.handHold a held).port q).flushOwed = (s.port q).flushOwed := by
 unfold State.handHold; (repeat' split) <;> simp
@[simp] theorem State.handHold_requeueOwed (q : PortId) : ((s.handHold a held).port q).requeueOwed = (s.port q).requeueOwed := by
 unfold State.handHold; (repeat' split) <;> simp

end handHold

section handWriteIndex

variable (s : State) (a : Option Party) (w : Half)

@[simp] theorem State.handWriteIndex_pending : (s.handWriteIndex a w).pending = s.pending := by
 unfold State.handWriteIndex; (repeat' split) <;> simp
@[simp] theorem State.handWriteIndex_resetPin : (s.handWriteIndex a w).resetPin = s.resetPin := by
 unfold State.handWriteIndex; (repeat' split) <;> simp
@[simp] theorem State.handWriteIndex_entries : (s.handWriteIndex a w).entries = s.entries := by
 unfold State.handWriteIndex; (repeat' split) <;> simp
@[simp] theorem State.handWriteIndex_pool : (s.handWriteIndex a w).pool = s.pool := by
 unfold State.handWriteIndex; (repeat' split) <;> simp
@[simp] theorem State.handWriteIndex_roundRobin : (s.handWriteIndex a w).roundRobin = s.roundRobin := by
 unfold State.handWriteIndex; (repeat' split) <;> simp
@[simp] theorem State.handWriteIndex_holdOwed : (s.handWriteIndex a w).holdOwed = s.holdOwed := by
 unfold State.handWriteIndex; (repeat' split) <;> simp
@[simp] theorem State.handWriteIndex_retestOwed : (s.handWriteIndex a w).retestOwed = s.retestOwed := by
 unfold State.handWriteIndex; (repeat' split) <;> simp
@[simp] theorem State.handWriteIndex_onTick : (s.handWriteIndex a w).onTick = s.onTick := by
 unfold State.handWriteIndex; (repeat' split) <;> simp
@[simp] theorem State.handWriteIndex_freeIndex : (s.handWriteIndex a w).freeIndex = s.freeIndex := by
 unfold State.handWriteIndex; (repeat' split) <;> simp
@[simp] theorem State.handWriteIndex_entry (d : ChannelId) : (s.handWriteIndex a w).entry d = s.entry d := by
 unfold State.handWriteIndex; (repeat' split) <;> simp
@[simp] theorem State.handWriteIndex_use (d : ChannelId) : (s.handWriteIndex a w).use d = s.use d := by
 unfold State.handWriteIndex; (repeat' split) <;> simp
@[simp] theorem State.handWriteIndex_record (r : RecordId) : (s.handWriteIndex a w).record r = s.record r := by
 unfold State.handWriteIndex; (repeat' split) <;> simp
@[simp] theorem State.handWriteIndex_piu (q : PortId) : (s.handWriteIndex a w).piu q = s.piu q := by
 unfold State.handWriteIndex; (repeat' split) <;> simp
@[simp] theorem State.handWriteIndex_writer (q : PortId) : (s.handWriteIndex a w).writer q = s.writer q := by
 unfold State.handWriteIndex; (repeat' split) <;> simp
@[simp] theorem State.handWriteIndex_flushOwed (q : PortId) : ((s.handWriteIndex a w).port q).flushOwed = (s.port q).flushOwed := by
 unfold State.handWriteIndex; (repeat' split) <;> simp
@[simp] theorem State.handWriteIndex_requeueOwed (q : PortId) : ((s.handWriteIndex a w).port q).requeueOwed = (s.port q).requeueOwed := by
 unfold State.handWriteIndex; (repeat' split) <;> simp

end handWriteIndex

section handReceipt

variable (s : State) (a : Option Party) (sequence : Half)

@[simp] theorem State.handReceipt_pending : (s.handReceipt a sequence).pending = s.pending := by
 unfold State.handReceipt; (repeat' split) <;> simp
@[simp] theorem State.handReceipt_resetPin : (s.handReceipt a sequence).resetPin = s.resetPin := by
 unfold State.handReceipt; (repeat' split) <;> simp
@[simp] theorem State.handReceipt_entries : (s.handReceipt a sequence).entries = s.entries := by
 unfold State.handReceipt; (repeat' split) <;> simp
@[simp] theorem State.handReceipt_pool : (s.handReceipt a sequence).pool = s.pool := by
 unfold State.handReceipt; (repeat' split) <;> simp
@[simp] theorem State.handReceipt_roundRobin : (s.handReceipt a sequence).roundRobin = s.roundRobin := by
 unfold State.handReceipt; (repeat' split) <;> simp
@[simp] theorem State.handReceipt_holdOwed : (s.handReceipt a sequence).holdOwed = s.holdOwed := by
 unfold State.handReceipt; (repeat' split) <;> simp
@[simp] theorem State.handReceipt_retestOwed : (s.handReceipt a sequence).retestOwed = s.retestOwed := by
 unfold State.handReceipt; (repeat' split) <;> simp
@[simp] theorem State.handReceipt_onTick : (s.handReceipt a sequence).onTick = s.onTick := by
 unfold State.handReceipt; (repeat' split) <;> simp
@[simp] theorem State.handReceipt_freeIndex : (s.handReceipt a sequence).freeIndex = s.freeIndex := by
 unfold State.handReceipt; (repeat' split) <;> simp
@[simp] theorem State.handReceipt_entry (d : ChannelId) : (s.handReceipt a sequence).entry d = s.entry d := by
 unfold State.handReceipt; (repeat' split) <;> simp
@[simp] theorem State.handReceipt_use (d : ChannelId) : (s.handReceipt a sequence).use d = s.use d := by
 unfold State.handReceipt; (repeat' split) <;> simp
@[simp] theorem State.handReceipt_record (r : RecordId) : (s.handReceipt a sequence).record r = s.record r := by
 unfold State.handReceipt; (repeat' split) <;> simp
@[simp] theorem State.handReceipt_piu (q : PortId) : (s.handReceipt a sequence).piu q = s.piu q := by
 unfold State.handReceipt; (repeat' split) <;> simp
@[simp] theorem State.handReceipt_writer (q : PortId) : (s.handReceipt a sequence).writer q = s.writer q := by
 unfold State.handReceipt; (repeat' split) <;> simp
@[simp] theorem State.handReceipt_flushOwed (q : PortId) : ((s.handReceipt a sequence).port q).flushOwed = (s.port q).flushOwed := by
 unfold State.handReceipt; (repeat' split) <;> simp
@[simp] theorem State.handReceipt_requeueOwed (q : PortId) : ((s.handReceipt a sequence).port q).requeueOwed = (s.port q).requeueOwed := by
 unfold State.handReceipt; (repeat' split) <;> simp

end handReceipt

end Sys2Proof.Machine
end

