-- ==== Sys2Proof/Laws/NoticeUnit.lean ====
section
/-! SUPPORT. What events and counts do inside a Notice Unit: an event reaches only the backlog and its counters, a count only one coalescer and the flush
request (08). -/

namespace Sys2Proof.Machine

section nu

variable (nu : Nu) (v : VectorId)

@[simp] theorem Nu.modVector_backlog (f : Coalescer → Coalescer) : (nu.modVector v f).backlog = nu.backlog := rfl
@[simp] theorem Nu.modVector_nextSequence (f : Coalescer → Coalescer) : (nu.modVector v f).nextSequence = nu.nextSequence := rfl
@[simp] theorem Nu.modVector_lost (f : Coalescer → Coalescer) : (nu.modVector v f).lost = nu.lost := rfl
@[simp] theorem Nu.modVector_eventsLost (f : Coalescer → Coalescer) : (nu.modVector v f).eventsLost = nu.eventsLost := rfl
@[simp] theorem Nu.modVector_consumerWords (f : Coalescer → Coalescer) : (nu.modVector v f).consumerWords = nu.consumerWords := rfl
@[simp] theorem Nu.modVector_producerWords (f : Coalescer → Coalescer) : (nu.modVector v f).producerWords = nu.producerWords := rfl
@[simp] theorem Nu.modVector_noticeBase (f : Coalescer → Coalescer) : (nu.modVector v f).noticeBase = nu.noticeBase := rfl
@[simp] theorem Nu.modVector_grant (f : Coalescer → Coalescer) : (nu.modVector v f).grant = nu.grant := rfl
@[simp] theorem Nu.modVector_eventWrite (f : Coalescer → Coalescer) : (nu.modVector v f).eventWrite = nu.eventWrite := rfl
@[simp] theorem Nu.modVector_tag (f : Coalescer → Coalescer) : (nu.modVector v f).tag = nu.tag := rfl
@[simp] theorem Nu.modVector_irq (f : Coalescer → Coalescer) : (nu.modVector v f).irq = nu.irq := rfl
@[simp] theorem Nu.modVector_flushRequest (f : Coalescer → Coalescer) : (nu.modVector v f).flushRequest = nu.flushRequest := rfl
@[simp] theorem Nu.modVector_vector (f : Coalescer → Coalescer) (w : VectorId) :
    (nu.modVector v f).vectors.read w = if w = v then f (nu.vectors.read v) else nu.vectors.read w := by simp [Nu.modVector]

/-- A firing touches one coalescer and the flush request (R134). -/
theorem Nu.fire_eq : nu.fire v = { nu.modVector v (fun c => { c with timer := none, fired := true }) with flushRequest := true } := rfl

@[simp] theorem Nu.fire_backlog : (nu.fire v).backlog = nu.backlog := rfl
@[simp] theorem Nu.fire_nextSequence : (nu.fire v).nextSequence = nu.nextSequence := rfl
@[simp] theorem Nu.fire_lost : (nu.fire v).lost = nu.lost := rfl
@[simp] theorem Nu.fire_eventsLost : (nu.fire v).eventsLost = nu.eventsLost := rfl
@[simp] theorem Nu.fire_consumerWords : (nu.fire v).consumerWords = nu.consumerWords := rfl
@[simp] theorem Nu.fire_producerWords : (nu.fire v).producerWords = nu.producerWords := rfl
@[simp] theorem Nu.fire_noticeBase : (nu.fire v).noticeBase = nu.noticeBase := rfl
@[simp] theorem Nu.fire_grant : (nu.fire v).grant = nu.grant := rfl
@[simp] theorem Nu.fire_eventWrite : (nu.fire v).eventWrite = nu.eventWrite := rfl
@[simp] theorem Nu.fire_tag : (nu.fire v).tag = nu.tag := rfl
@[simp] theorem Nu.fire_irq : (nu.fire v).irq = nu.irq := rfl
@[simp] theorem Nu.fire_vector (w : VectorId) :
    (nu.fire v).vectors.read w = if w = v then { nu.vectors.read v with timer := none, fired := true } else nu.vectors.read w := by
  simp [Nu.fire, Nu.modVector]

/-- A change that a firing or nothing makes keeps what a firing keeps. -/
theorem Nu.fireIfDue_cases {P : Nu → Prop} (h0 : P nu) (h1 : P (nu.fire v)) : P (nu.fireIfDue v) := by
  unfold Nu.fireIfDue
  split
  · exact h1
  · exact h0

@[simp] theorem Nu.fireIfDue_backlog : (nu.fireIfDue v).backlog = nu.backlog := by unfold Nu.fireIfDue; split <;> rfl
@[simp] theorem Nu.fireIfDue_nextSequence : (nu.fireIfDue v).nextSequence = nu.nextSequence := by unfold Nu.fireIfDue; split <;> rfl
@[simp] theorem Nu.fireIfDue_lost : (nu.fireIfDue v).lost = nu.lost := by unfold Nu.fireIfDue; split <;> rfl
@[simp] theorem Nu.fireIfDue_eventsLost : (nu.fireIfDue v).eventsLost = nu.eventsLost := by unfold Nu.fireIfDue; split <;> rfl
@[simp] theorem Nu.fireIfDue_consumerWords : (nu.fireIfDue v).consumerWords = nu.consumerWords := by unfold Nu.fireIfDue; split <;> rfl
@[simp] theorem Nu.fireIfDue_producerWords : (nu.fireIfDue v).producerWords = nu.producerWords := by unfold Nu.fireIfDue; split <;> rfl
@[simp] theorem Nu.fireIfDue_noticeBase : (nu.fireIfDue v).noticeBase = nu.noticeBase := by unfold Nu.fireIfDue; split <;> rfl
@[simp] theorem Nu.fireIfDue_grant : (nu.fireIfDue v).grant = nu.grant := by unfold Nu.fireIfDue; split <;> rfl
@[simp] theorem Nu.fireIfDue_eventWrite : (nu.fireIfDue v).eventWrite = nu.eventWrite := by unfold Nu.fireIfDue; split <;> rfl
@[simp] theorem Nu.fireIfDue_tag : (nu.fireIfDue v).tag = nu.tag := by unfold Nu.fireIfDue; split <;> rfl
@[simp] theorem Nu.fireIfDue_irq : (nu.fireIfDue v).irq = nu.irq := by unfold Nu.fireIfDue; split <;> rfl

@[simp] theorem Nu.count_backlog : (nu.count v).backlog = nu.backlog := by simp [Nu.count]
@[simp] theorem Nu.count_nextSequence : (nu.count v).nextSequence = nu.nextSequence := by simp [Nu.count]
@[simp] theorem Nu.count_lost : (nu.count v).lost = nu.lost := by simp [Nu.count]
@[simp] theorem Nu.count_eventsLost : (nu.count v).eventsLost = nu.eventsLost := by simp [Nu.count]
@[simp] theorem Nu.count_consumerWords : (nu.count v).consumerWords = nu.consumerWords := by simp [Nu.count]
@[simp] theorem Nu.count_producerWords : (nu.count v).producerWords = nu.producerWords := by simp [Nu.count]
@[simp] theorem Nu.count_noticeBase : (nu.count v).noticeBase = nu.noticeBase := by simp [Nu.count]
@[simp] theorem Nu.count_grant : (nu.count v).grant = nu.grant := by simp [Nu.count]
@[simp] theorem Nu.count_eventWrite : (nu.count v).eventWrite = nu.eventWrite := by simp [Nu.count]
@[simp] theorem Nu.count_tag : (nu.count v).tag = nu.tag := by simp [Nu.count]
@[simp] theorem Nu.count_irq : (nu.count v).irq = nu.irq := by simp [Nu.count]

variable (kind : EventKind) (qualifier channel : Byte) (detail : Half)

@[simp] theorem Nu.take_consumerWords : (nu.take kind qualifier channel detail).consumerWords = nu.consumerWords := by
  unfold Nu.take; split <;> rfl
@[simp] theorem Nu.take_producerWords : (nu.take kind qualifier channel detail).producerWords = nu.producerWords := by
  unfold Nu.take; split <;> rfl
@[simp] theorem Nu.take_noticeBase : (nu.take kind qualifier channel detail).noticeBase = nu.noticeBase := by unfold Nu.take; split <;> rfl
@[simp] theorem Nu.take_grant : (nu.take kind qualifier channel detail).grant = nu.grant := by unfold Nu.take; split <;> rfl
@[simp] theorem Nu.take_eventWrite : (nu.take kind qualifier channel detail).eventWrite = nu.eventWrite := by unfold Nu.take; split <;> rfl
@[simp] theorem Nu.take_tag : (nu.take kind qualifier channel detail).tag = nu.tag := by unfold Nu.take; split <;> rfl
@[simp] theorem Nu.take_irq : (nu.take kind qualifier channel detail).irq = nu.irq := by unfold Nu.take; split <;> rfl
@[simp] theorem Nu.take_vectors : (nu.take kind qualifier channel detail).vectors = nu.vectors := by unfold Nu.take; split <;> rfl
@[simp] theorem Nu.take_flushRequest : (nu.take kind qualifier channel detail).flushRequest = nu.flushRequest := by
  unfold Nu.take; split <;> rfl

/-- An event that joins the backlog, or is dropped when 32 events wait (R127, R128). -/
theorem Nu.take_backlog : (nu.take kind qualifier channel detail).backlog =
    if nu.backlog.length < Config.backlogDepth then nu.backlog ++ [⟨kind, qualifier, channel, detail, nu.nextSequence⟩] else nu.backlog := by
  unfold Nu.take; split <;> rfl

end nu

/-- A count reaches a Notice Unit only on an ATTACHED port (R133). -/
theorem State.countVector_nu (s : State) (p q : PortId) (v : VectorId) :
    (s.countVector p v).nu q = if q = p ∧ (s.piu p).state = .attached then (s.nu p).count v else s.nu q := by
  unfold State.countVector
  by_cases h : q = p <;> by_cases h2 : (s.piu p).state = .attached <;> simp [h, h2]

/-- An event reaches the Notice Unit of a port that is not DETACHED, and counts while the port is ATTACHED (R125 to R128, R133). -/
theorem State.event_nu (s : State) (p q : PortId) (kind : EventKind) (qualifier channel : Byte) (detail : Half) (slot : Option SlotId) :
    (s.event p kind qualifier channel detail slot).nu q =
      if q = p ∧ (s.piu p).state ≠ .detached then
        (if (s.piu p).state = .attached then
          ((s.nu p).take kind qualifier channel detail).count (eventVector (s.nu p).grant slot)
        else (s.nu p).take kind qualifier channel detail)
      else s.nu q := by
  unfold State.event
  by_cases h : q = p <;> by_cases h2 : (s.piu p).state = .detached <;> by_cases h3 : (s.piu p).state = .attached <;>
    simp [State.countVector_nu, h, h2, h3]

end Sys2Proof.Machine
end

