-- ==== Sys2Proof/Laws/Channel.lean ====
section
/-! SUPPORT. What the operations on an entry leave unchanged: one lemma per field per operation. -/

namespace Sys2Proof.Machine

section freeEntry

variable (s : State) (c : ChannelId)

@[simp] theorem State.freeEntry_pending : (s.freeEntry c).pending = s.pending := by
 unfold State.freeEntry; (repeat' split) <;> simp
@[simp] theorem State.freeEntry_resetPin : (s.freeEntry c).resetPin = s.resetPin := by
 unfold State.freeEntry; (repeat' split) <;> simp
@[simp] theorem State.freeEntry_roundRobin : (s.freeEntry c).roundRobin = s.roundRobin := by
 unfold State.freeEntry; (repeat' split) <;> simp
@[simp] theorem State.freeEntry_onTick : (s.freeEntry c).onTick = s.onTick := by
 unfold State.freeEntry; (repeat' split) <;> simp
@[simp] theorem State.freeEntry_freeIndex : (s.freeEntry c).freeIndex = s.freeIndex := by
 unfold State.freeEntry; (repeat' split) <;> simp
@[simp] theorem State.freeEntry_piu (q : PortId) : (s.freeEntry c).piu q = s.piu q := by
 unfold State.freeEntry; (repeat' split) <;> simp
@[simp] theorem State.freeEntry_writer (q : PortId) : (s.freeEntry c).writer q = s.writer q := by
 unfold State.freeEntry; (repeat' split) <;> simp
@[simp] theorem State.freeEntry_flushOwed (q : PortId) : ((s.freeEntry c).port q).flushOwed = (s.port q).flushOwed := by
 unfold State.freeEntry; (repeat' split) <;> simp
@[simp] theorem State.freeEntry_requeueOwed (q : PortId) : ((s.freeEntry c).port q).requeueOwed = (s.port q).requeueOwed := by
 unfold State.freeEntry; (repeat' split) <;> simp
@[simp] theorem State.freeEntry_pool : (s.freeEntry c).pool = s.pool := by
 unfold State.freeEntry; (repeat' split) <;> simp
@[simp] theorem State.freeEntry_holdOwed : (s.freeEntry c).holdOwed = s.holdOwed := by
 unfold State.freeEntry; (repeat' split) <;> simp
@[simp] theorem State.freeEntry_retestOwed : (s.freeEntry c).retestOwed = s.retestOwed := by
 unfold State.freeEntry; (repeat' split) <;> simp
@[simp] theorem State.freeEntry_record (r : RecordId) : (s.freeEntry c).record r = s.record r := by
 unfold State.freeEntry; (repeat' split) <;> simp

end freeEntry

section freeWithNotice

variable (s : State) (c : ChannelId) (cause : FreedCause)

@[simp] theorem State.freeWithNotice_pending : (s.freeWithNotice c cause).pending = s.pending := by
 unfold State.freeWithNotice; (repeat' split) <;> simp
@[simp] theorem State.freeWithNotice_resetPin : (s.freeWithNotice c cause).resetPin = s.resetPin := by
 unfold State.freeWithNotice; (repeat' split) <;> simp
@[simp] theorem State.freeWithNotice_roundRobin : (s.freeWithNotice c cause).roundRobin = s.roundRobin := by
 unfold State.freeWithNotice; (repeat' split) <;> simp
@[simp] theorem State.freeWithNotice_onTick : (s.freeWithNotice c cause).onTick = s.onTick := by
 unfold State.freeWithNotice; (repeat' split) <;> simp
@[simp] theorem State.freeWithNotice_freeIndex : (s.freeWithNotice c cause).freeIndex = s.freeIndex := by
 unfold State.freeWithNotice; (repeat' split) <;> simp
@[simp] theorem State.freeWithNotice_piu (q : PortId) : (s.freeWithNotice c cause).piu q = s.piu q := by
 unfold State.freeWithNotice; (repeat' split) <;> simp
@[simp] theorem State.freeWithNotice_writer (q : PortId) : (s.freeWithNotice c cause).writer q = s.writer q := by
 unfold State.freeWithNotice; (repeat' split) <;> simp
@[simp] theorem State.freeWithNotice_flushOwed (q : PortId) : ((s.freeWithNotice c cause).port q).flushOwed = (s.port q).flushOwed := by
 unfold State.freeWithNotice; (repeat' split) <;> simp
@[simp] theorem State.freeWithNotice_requeueOwed (q : PortId) : ((s.freeWithNotice c cause).port q).requeueOwed = (s.port q).requeueOwed := by
 unfold State.freeWithNotice; (repeat' split) <;> simp
@[simp] theorem State.freeWithNotice_pool : (s.freeWithNotice c cause).pool = s.pool := by
 unfold State.freeWithNotice; (repeat' split) <;> simp
@[simp] theorem State.freeWithNotice_holdOwed : (s.freeWithNotice c cause).holdOwed = s.holdOwed := by
 unfold State.freeWithNotice; (repeat' split) <;> simp
@[simp] theorem State.freeWithNotice_retestOwed : (s.freeWithNotice c cause).retestOwed = s.retestOwed := by
 unfold State.freeWithNotice; (repeat' split) <;> simp
@[simp] theorem State.freeWithNotice_record (r : RecordId) : (s.freeWithNotice c cause).record r = s.record r := by
 unfold State.freeWithNotice; (repeat' split) <;> simp

end freeWithNotice

section dropRecords

variable (s : State) (c : ChannelId) (rs : List RecordId)

@[simp] theorem State.dropRecords_pending : (s.dropRecords c rs).pending = s.pending := by simp [State.dropRecords]
@[simp] theorem State.dropRecords_resetPin : (s.dropRecords c rs).resetPin = s.resetPin := by simp [State.dropRecords]
@[simp] theorem State.dropRecords_roundRobin : (s.dropRecords c rs).roundRobin = s.roundRobin := by simp [State.dropRecords]
@[simp] theorem State.dropRecords_onTick : (s.dropRecords c rs).onTick = s.onTick := by simp [State.dropRecords]
@[simp] theorem State.dropRecords_freeIndex : (s.dropRecords c rs).freeIndex = s.freeIndex := by simp [State.dropRecords]
@[simp] theorem State.dropRecords_piu (q : PortId) : (s.dropRecords c rs).piu q = s.piu q := by simp [State.dropRecords]
@[simp] theorem State.dropRecords_writer (q : PortId) : (s.dropRecords c rs).writer q = s.writer q := by simp [State.dropRecords]
@[simp] theorem State.dropRecords_flushOwed (q : PortId) : ((s.dropRecords c rs).port q).flushOwed = (s.port q).flushOwed := by simp [State.dropRecords]
@[simp] theorem State.dropRecords_requeueOwed (q : PortId) : ((s.dropRecords c rs).port q).requeueOwed = (s.port q).requeueOwed := by simp [State.dropRecords]
@[simp] theorem State.dropRecords_nu (q : PortId) : (s.dropRecords c rs).nu q = s.nu q := by simp [State.dropRecords]

end dropRecords

section enterHold

variable (s : State) (c : ChannelId) (reason : HoldReason)

@[simp] theorem State.enterHold_pending : (s.enterHold c reason).pending = s.pending := by
 unfold State.enterHold; (repeat' split) <;> simp
@[simp] theorem State.enterHold_resetPin : (s.enterHold c reason).resetPin = s.resetPin := by
 unfold State.enterHold; (repeat' split) <;> simp
@[simp] theorem State.enterHold_roundRobin : (s.enterHold c reason).roundRobin = s.roundRobin := by
 unfold State.enterHold; (repeat' split) <;> simp
@[simp] theorem State.enterHold_onTick : (s.enterHold c reason).onTick = s.onTick := by
 unfold State.enterHold; (repeat' split) <;> simp
@[simp] theorem State.enterHold_freeIndex : (s.enterHold c reason).freeIndex = s.freeIndex := by
 unfold State.enterHold; (repeat' split) <;> simp
@[simp] theorem State.enterHold_piu (q : PortId) : (s.enterHold c reason).piu q = s.piu q := by
 unfold State.enterHold; (repeat' split) <;> simp
@[simp] theorem State.enterHold_writer (q : PortId) : (s.enterHold c reason).writer q = s.writer q := by
 unfold State.enterHold; (repeat' split) <;> simp
@[simp] theorem State.enterHold_flushOwed (q : PortId) : ((s.enterHold c reason).port q).flushOwed = (s.port q).flushOwed := by
 unfold State.enterHold; (repeat' split) <;> simp
@[simp] theorem State.enterHold_requeueOwed (q : PortId) : ((s.enterHold c reason).port q).requeueOwed = (s.port q).requeueOwed := by
 unfold State.enterHold; (repeat' split) <;> simp
@[simp] theorem State.enterHold_pool : (s.enterHold c reason).pool = s.pool := by
 unfold State.enterHold; (repeat' split) <;> simp
@[simp] theorem State.enterHold_holdOwed : (s.enterHold c reason).holdOwed = s.holdOwed := by
 unfold State.enterHold; (repeat' split) <;> simp
@[simp] theorem State.enterHold_retestOwed : (s.enterHold c reason).retestOwed = s.retestOwed := by
 unfold State.enterHold; (repeat' split) <;> simp
@[simp] theorem State.enterHold_record (r : RecordId) : (s.enterHold c reason).record r = s.record r := by
 unfold State.enterHold; (repeat' split) <;> simp

end enterHold

section endHold

variable (s : State) (c : ChannelId) (expiry : Bool)

@[simp] theorem State.endHold_pending : (s.endHold c expiry).pending = s.pending := by
 unfold State.endHold; (repeat' split) <;> simp
@[simp] theorem State.endHold_resetPin : (s.endHold c expiry).resetPin = s.resetPin := by
 unfold State.endHold; (repeat' split) <;> simp
@[simp] theorem State.endHold_roundRobin : (s.endHold c expiry).roundRobin = s.roundRobin := by
 unfold State.endHold; (repeat' split) <;> simp
@[simp] theorem State.endHold_onTick : (s.endHold c expiry).onTick = s.onTick := by
 unfold State.endHold; (repeat' split) <;> simp
@[simp] theorem State.endHold_freeIndex : (s.endHold c expiry).freeIndex = s.freeIndex := by
 unfold State.endHold; (repeat' split) <;> simp
@[simp] theorem State.endHold_piu (q : PortId) : (s.endHold c expiry).piu q = s.piu q := by
 unfold State.endHold; (repeat' split) <;> simp
@[simp] theorem State.endHold_writer (q : PortId) : (s.endHold c expiry).writer q = s.writer q := by
 unfold State.endHold; (repeat' split) <;> simp
@[simp] theorem State.endHold_flushOwed (q : PortId) : ((s.endHold c expiry).port q).flushOwed = (s.port q).flushOwed := by
 unfold State.endHold; (repeat' split) <;> simp
@[simp] theorem State.endHold_requeueOwed (q : PortId) : ((s.endHold c expiry).port q).requeueOwed = (s.port q).requeueOwed := by
 unfold State.endHold; (repeat' split) <;> simp
@[simp] theorem State.endHold_pool : (s.endHold c expiry).pool = s.pool := by
 unfold State.endHold; (repeat' split) <;> simp
@[simp] theorem State.endHold_holdOwed : (s.endHold c expiry).holdOwed = s.holdOwed := by
 unfold State.endHold; (repeat' split) <;> simp
@[simp] theorem State.endHold_retestOwed : (s.endHold c expiry).retestOwed = s.retestOwed := by
 unfold State.endHold; (repeat' split) <;> simp
@[simp] theorem State.endHold_record (r : RecordId) : (s.endHold c expiry).record r = s.record r := by
 unfold State.endHold; (repeat' split) <;> simp

end endHold

section renewHold

variable (s : State) (c : ChannelId)

@[simp] theorem State.renewHold_pending : (s.renewHold c).pending = s.pending := by
 unfold State.renewHold; (repeat' split) <;> simp
@[simp] theorem State.renewHold_resetPin : (s.renewHold c).resetPin = s.resetPin := by
 unfold State.renewHold; (repeat' split) <;> simp
@[simp] theorem State.renewHold_roundRobin : (s.renewHold c).roundRobin = s.roundRobin := by
 unfold State.renewHold; (repeat' split) <;> simp
@[simp] theorem State.renewHold_onTick : (s.renewHold c).onTick = s.onTick := by
 unfold State.renewHold; (repeat' split) <;> simp
@[simp] theorem State.renewHold_freeIndex : (s.renewHold c).freeIndex = s.freeIndex := by
 unfold State.renewHold; (repeat' split) <;> simp
@[simp] theorem State.renewHold_piu (q : PortId) : (s.renewHold c).piu q = s.piu q := by
 unfold State.renewHold; (repeat' split) <;> simp
@[simp] theorem State.renewHold_writer (q : PortId) : (s.renewHold c).writer q = s.writer q := by
 unfold State.renewHold; (repeat' split) <;> simp
@[simp] theorem State.renewHold_flushOwed (q : PortId) : ((s.renewHold c).port q).flushOwed = (s.port q).flushOwed := by
 unfold State.renewHold; (repeat' split) <;> simp
@[simp] theorem State.renewHold_requeueOwed (q : PortId) : ((s.renewHold c).port q).requeueOwed = (s.port q).requeueOwed := by
 unfold State.renewHold; (repeat' split) <;> simp
@[simp] theorem State.renewHold_pool : (s.renewHold c).pool = s.pool := by
 unfold State.renewHold; (repeat' split) <;> simp
@[simp] theorem State.renewHold_holdOwed : (s.renewHold c).holdOwed = s.holdOwed := by
 unfold State.renewHold; (repeat' split) <;> simp
@[simp] theorem State.renewHold_retestOwed : (s.renewHold c).retestOwed = s.retestOwed := by
 unfold State.renewHold; (repeat' split) <;> simp
@[simp] theorem State.renewHold_record (r : RecordId) : (s.renewHold c).record r = s.record r := by
 unfold State.renewHold; (repeat' split) <;> simp

end renewHold

section quotaCheck

variable (s : State) (c : ChannelId)

@[simp] theorem State.quotaCheck_pending : (s.quotaCheck c).pending = s.pending := by
 unfold State.quotaCheck; (repeat' split) <;> simp
@[simp] theorem State.quotaCheck_resetPin : (s.quotaCheck c).resetPin = s.resetPin := by
 unfold State.quotaCheck; (repeat' split) <;> simp
@[simp] theorem State.quotaCheck_roundRobin : (s.quotaCheck c).roundRobin = s.roundRobin := by
 unfold State.quotaCheck; (repeat' split) <;> simp
@[simp] theorem State.quotaCheck_onTick : (s.quotaCheck c).onTick = s.onTick := by
 unfold State.quotaCheck; (repeat' split) <;> simp
@[simp] theorem State.quotaCheck_freeIndex : (s.quotaCheck c).freeIndex = s.freeIndex := by
 unfold State.quotaCheck; (repeat' split) <;> simp
@[simp] theorem State.quotaCheck_piu (q : PortId) : (s.quotaCheck c).piu q = s.piu q := by
 unfold State.quotaCheck; (repeat' split) <;> simp
@[simp] theorem State.quotaCheck_writer (q : PortId) : (s.quotaCheck c).writer q = s.writer q := by
 unfold State.quotaCheck; (repeat' split) <;> simp
@[simp] theorem State.quotaCheck_flushOwed (q : PortId) : ((s.quotaCheck c).port q).flushOwed = (s.port q).flushOwed := by
 unfold State.quotaCheck; (repeat' split) <;> simp
@[simp] theorem State.quotaCheck_requeueOwed (q : PortId) : ((s.quotaCheck c).port q).requeueOwed = (s.port q).requeueOwed := by
 unfold State.quotaCheck; (repeat' split) <;> simp
@[simp] theorem State.quotaCheck_pool : (s.quotaCheck c).pool = s.pool := by
 unfold State.quotaCheck; (repeat' split) <;> simp
@[simp] theorem State.quotaCheck_holdOwed : (s.quotaCheck c).holdOwed = s.holdOwed := by
 unfold State.quotaCheck; (repeat' split) <;> simp
@[simp] theorem State.quotaCheck_retestOwed : (s.quotaCheck c).retestOwed = s.retestOwed := by
 unfold State.quotaCheck; (repeat' split) <;> simp
@[simp] theorem State.quotaCheck_record (r : RecordId) : (s.quotaCheck c).record r = s.record r := by
 unfold State.quotaCheck; (repeat' split) <;> simp

end quotaCheck

section releaseCheckAt

variable (s : State) (level : PoolLevel) (c : ChannelId)

@[simp] theorem State.releaseCheckAt_pending : (s.releaseCheckAt level c).pending = s.pending := by
 unfold State.releaseCheckAt; (repeat' split) <;> simp
@[simp] theorem State.releaseCheckAt_resetPin : (s.releaseCheckAt level c).resetPin = s.resetPin := by
 unfold State.releaseCheckAt; (repeat' split) <;> simp
@[simp] theorem State.releaseCheckAt_roundRobin : (s.releaseCheckAt level c).roundRobin = s.roundRobin := by
 unfold State.releaseCheckAt; (repeat' split) <;> simp
@[simp] theorem State.releaseCheckAt_onTick : (s.releaseCheckAt level c).onTick = s.onTick := by
 unfold State.releaseCheckAt; (repeat' split) <;> simp
@[simp] theorem State.releaseCheckAt_freeIndex : (s.releaseCheckAt level c).freeIndex = s.freeIndex := by
 unfold State.releaseCheckAt; (repeat' split) <;> simp
@[simp] theorem State.releaseCheckAt_piu (q : PortId) : (s.releaseCheckAt level c).piu q = s.piu q := by
 unfold State.releaseCheckAt; (repeat' split) <;> simp
@[simp] theorem State.releaseCheckAt_writer (q : PortId) : (s.releaseCheckAt level c).writer q = s.writer q := by
 unfold State.releaseCheckAt; (repeat' split) <;> simp
@[simp] theorem State.releaseCheckAt_flushOwed (q : PortId) : ((s.releaseCheckAt level c).port q).flushOwed = (s.port q).flushOwed := by
 unfold State.releaseCheckAt; (repeat' split) <;> simp
@[simp] theorem State.releaseCheckAt_requeueOwed (q : PortId) : ((s.releaseCheckAt level c).port q).requeueOwed = (s.port q).requeueOwed := by
 unfold State.releaseCheckAt; (repeat' split) <;> simp
@[simp] theorem State.releaseCheckAt_pool : (s.releaseCheckAt level c).pool = s.pool := by
 unfold State.releaseCheckAt; (repeat' split) <;> simp
@[simp] theorem State.releaseCheckAt_holdOwed : (s.releaseCheckAt level c).holdOwed = s.holdOwed := by
 unfold State.releaseCheckAt; (repeat' split) <;> simp
@[simp] theorem State.releaseCheckAt_retestOwed : (s.releaseCheckAt level c).retestOwed = s.retestOwed := by
 unfold State.releaseCheckAt; (repeat' split) <;> simp
@[simp] theorem State.releaseCheckAt_record (r : RecordId) : (s.releaseCheckAt level c).record r = s.record r := by
 unfold State.releaseCheckAt; (repeat' split) <;> simp

end releaseCheckAt

section releaseCheck

variable (s : State) (c : ChannelId)

@[simp] theorem State.releaseCheck_pending : (s.releaseCheck c).pending = s.pending := by simp [State.releaseCheck]
@[simp] theorem State.releaseCheck_resetPin : (s.releaseCheck c).resetPin = s.resetPin := by simp [State.releaseCheck]
@[simp] theorem State.releaseCheck_roundRobin : (s.releaseCheck c).roundRobin = s.roundRobin := by simp [State.releaseCheck]
@[simp] theorem State.releaseCheck_onTick : (s.releaseCheck c).onTick = s.onTick := by simp [State.releaseCheck]
@[simp] theorem State.releaseCheck_freeIndex : (s.releaseCheck c).freeIndex = s.freeIndex := by simp [State.releaseCheck]
@[simp] theorem State.releaseCheck_piu (q : PortId) : (s.releaseCheck c).piu q = s.piu q := by simp [State.releaseCheck]
@[simp] theorem State.releaseCheck_writer (q : PortId) : (s.releaseCheck c).writer q = s.writer q := by simp [State.releaseCheck]
@[simp] theorem State.releaseCheck_flushOwed (q : PortId) : ((s.releaseCheck c).port q).flushOwed = (s.port q).flushOwed := by simp [State.releaseCheck]
@[simp] theorem State.releaseCheck_requeueOwed (q : PortId) : ((s.releaseCheck c).port q).requeueOwed = (s.port q).requeueOwed := by simp [State.releaseCheck]
@[simp] theorem State.releaseCheck_pool : (s.releaseCheck c).pool = s.pool := by simp [State.releaseCheck]
@[simp] theorem State.releaseCheck_holdOwed : (s.releaseCheck c).holdOwed = s.holdOwed := by simp [State.releaseCheck]
@[simp] theorem State.releaseCheck_retestOwed : (s.releaseCheck c).retestOwed = s.retestOwed := by simp [State.releaseCheck]
@[simp] theorem State.releaseCheck_record (r : RecordId) : (s.releaseCheck c).record r = s.record r := by simp [State.releaseCheck]

end releaseCheck

section leaveOpen

variable (s : State) (c : ChannelId) (stage : Stage)

@[simp] theorem State.leaveOpen_pending : (s.leaveOpen c stage).pending = s.pending := by
 unfold State.leaveOpen; (repeat' split) <;> simp
@[simp] theorem State.leaveOpen_resetPin : (s.leaveOpen c stage).resetPin = s.resetPin := by
 unfold State.leaveOpen; (repeat' split) <;> simp
@[simp] theorem State.leaveOpen_roundRobin : (s.leaveOpen c stage).roundRobin = s.roundRobin := by
 unfold State.leaveOpen; (repeat' split) <;> simp
@[simp] theorem State.leaveOpen_onTick : (s.leaveOpen c stage).onTick = s.onTick := by
 unfold State.leaveOpen; (repeat' split) <;> simp
@[simp] theorem State.leaveOpen_freeIndex : (s.leaveOpen c stage).freeIndex = s.freeIndex := by
 unfold State.leaveOpen; (repeat' split) <;> simp
@[simp] theorem State.leaveOpen_piu (q : PortId) : (s.leaveOpen c stage).piu q = s.piu q := by
 unfold State.leaveOpen; (repeat' split) <;> simp
@[simp] theorem State.leaveOpen_writer (q : PortId) : (s.leaveOpen c stage).writer q = s.writer q := by
 unfold State.leaveOpen; (repeat' split) <;> simp
@[simp] theorem State.leaveOpen_flushOwed (q : PortId) : ((s.leaveOpen c stage).port q).flushOwed = (s.port q).flushOwed := by
 unfold State.leaveOpen; (repeat' split) <;> simp
@[simp] theorem State.leaveOpen_requeueOwed (q : PortId) : ((s.leaveOpen c stage).port q).requeueOwed = (s.port q).requeueOwed := by
 unfold State.leaveOpen; (repeat' split) <;> simp
@[simp] theorem State.leaveOpen_pool : (s.leaveOpen c stage).pool = s.pool := by
 unfold State.leaveOpen; (repeat' split) <;> simp
@[simp] theorem State.leaveOpen_holdOwed : (s.leaveOpen c stage).holdOwed = s.holdOwed := by
 unfold State.leaveOpen; (repeat' split) <;> simp
@[simp] theorem State.leaveOpen_retestOwed : (s.leaveOpen c stage).retestOwed = s.retestOwed := by
 unfold State.leaveOpen; (repeat' split) <;> simp
@[simp] theorem State.leaveOpen_record (r : RecordId) : (s.leaveOpen c stage).record r = s.record r := by
 unfold State.leaveOpen; (repeat' split) <;> simp

end leaveOpen

section drainCheck

variable (s : State) (c : ChannelId)

@[simp] theorem State.drainCheck_pending : (s.drainCheck c).pending = s.pending := by
 unfold State.drainCheck; (repeat' split) <;> simp
@[simp] theorem State.drainCheck_resetPin : (s.drainCheck c).resetPin = s.resetPin := by
 unfold State.drainCheck; (repeat' split) <;> simp
@[simp] theorem State.drainCheck_roundRobin : (s.drainCheck c).roundRobin = s.roundRobin := by
 unfold State.drainCheck; (repeat' split) <;> simp
@[simp] theorem State.drainCheck_onTick : (s.drainCheck c).onTick = s.onTick := by
 unfold State.drainCheck; (repeat' split) <;> simp
@[simp] theorem State.drainCheck_freeIndex : (s.drainCheck c).freeIndex = s.freeIndex := by
 unfold State.drainCheck; (repeat' split) <;> simp
@[simp] theorem State.drainCheck_piu (q : PortId) : (s.drainCheck c).piu q = s.piu q := by
 unfold State.drainCheck; (repeat' split) <;> simp
@[simp] theorem State.drainCheck_writer (q : PortId) : (s.drainCheck c).writer q = s.writer q := by
 unfold State.drainCheck; (repeat' split) <;> simp
@[simp] theorem State.drainCheck_flushOwed (q : PortId) : ((s.drainCheck c).port q).flushOwed = (s.port q).flushOwed := by
 unfold State.drainCheck; (repeat' split) <;> simp
@[simp] theorem State.drainCheck_requeueOwed (q : PortId) : ((s.drainCheck c).port q).requeueOwed = (s.port q).requeueOwed := by
 unfold State.drainCheck; (repeat' split) <;> simp
@[simp] theorem State.drainCheck_pool : (s.drainCheck c).pool = s.pool := by
 unfold State.drainCheck; (repeat' split) <;> simp
@[simp] theorem State.drainCheck_holdOwed : (s.drainCheck c).holdOwed = s.holdOwed := by
 unfold State.drainCheck; (repeat' split) <;> simp
@[simp] theorem State.drainCheck_retestOwed : (s.drainCheck c).retestOwed = s.retestOwed := by
 unfold State.drainCheck; (repeat' split) <;> simp
@[simp] theorem State.drainCheck_record (r : RecordId) : (s.drainCheck c).record r = s.record r := by
 unfold State.drainCheck; (repeat' split) <;> simp

end drainCheck

section freeCheck

variable (s : State) (c : ChannelId)

@[simp] theorem State.freeCheck_pending : (s.freeCheck c).pending = s.pending := by
 unfold State.freeCheck; (repeat' split) <;> simp
@[simp] theorem State.freeCheck_resetPin : (s.freeCheck c).resetPin = s.resetPin := by
 unfold State.freeCheck; (repeat' split) <;> simp
@[simp] theorem State.freeCheck_roundRobin : (s.freeCheck c).roundRobin = s.roundRobin := by
 unfold State.freeCheck; (repeat' split) <;> simp
@[simp] theorem State.freeCheck_onTick : (s.freeCheck c).onTick = s.onTick := by
 unfold State.freeCheck; (repeat' split) <;> simp
@[simp] theorem State.freeCheck_freeIndex : (s.freeCheck c).freeIndex = s.freeIndex := by
 unfold State.freeCheck; (repeat' split) <;> simp
@[simp] theorem State.freeCheck_piu (q : PortId) : (s.freeCheck c).piu q = s.piu q := by
 unfold State.freeCheck; (repeat' split) <;> simp
@[simp] theorem State.freeCheck_writer (q : PortId) : (s.freeCheck c).writer q = s.writer q := by
 unfold State.freeCheck; (repeat' split) <;> simp
@[simp] theorem State.freeCheck_flushOwed (q : PortId) : ((s.freeCheck c).port q).flushOwed = (s.port q).flushOwed := by
 unfold State.freeCheck; (repeat' split) <;> simp
@[simp] theorem State.freeCheck_requeueOwed (q : PortId) : ((s.freeCheck c).port q).requeueOwed = (s.port q).requeueOwed := by
 unfold State.freeCheck; (repeat' split) <;> simp
@[simp] theorem State.freeCheck_pool : (s.freeCheck c).pool = s.pool := by
 unfold State.freeCheck; (repeat' split) <;> simp
@[simp] theorem State.freeCheck_holdOwed : (s.freeCheck c).holdOwed = s.holdOwed := by
 unfold State.freeCheck; (repeat' split) <;> simp
@[simp] theorem State.freeCheck_retestOwed : (s.freeCheck c).retestOwed = s.retestOwed := by
 unfold State.freeCheck; (repeat' split) <;> simp
@[simp] theorem State.freeCheck_record (r : RecordId) : (s.freeCheck c).record r = s.record r := by
 unfold State.freeCheck; (repeat' split) <;> simp

end freeCheck

section checkAfterFall

variable (s : State) (c : ChannelId)

@[simp] theorem State.checkAfterFall_pending : (s.checkAfterFall c).pending = s.pending := by
 unfold State.checkAfterFall; (repeat' split) <;> simp
@[simp] theorem State.checkAfterFall_resetPin : (s.checkAfterFall c).resetPin = s.resetPin := by
 unfold State.checkAfterFall; (repeat' split) <;> simp
@[simp] theorem State.checkAfterFall_roundRobin : (s.checkAfterFall c).roundRobin = s.roundRobin := by
 unfold State.checkAfterFall; (repeat' split) <;> simp
@[simp] theorem State.checkAfterFall_onTick : (s.checkAfterFall c).onTick = s.onTick := by
 unfold State.checkAfterFall; (repeat' split) <;> simp
@[simp] theorem State.checkAfterFall_freeIndex : (s.checkAfterFall c).freeIndex = s.freeIndex := by
 unfold State.checkAfterFall; (repeat' split) <;> simp
@[simp] theorem State.checkAfterFall_piu (q : PortId) : (s.checkAfterFall c).piu q = s.piu q := by
 unfold State.checkAfterFall; (repeat' split) <;> simp
@[simp] theorem State.checkAfterFall_writer (q : PortId) : (s.checkAfterFall c).writer q = s.writer q := by
 unfold State.checkAfterFall; (repeat' split) <;> simp
@[simp] theorem State.checkAfterFall_flushOwed (q : PortId) : ((s.checkAfterFall c).port q).flushOwed = (s.port q).flushOwed := by
 unfold State.checkAfterFall; (repeat' split) <;> simp
@[simp] theorem State.checkAfterFall_requeueOwed (q : PortId) : ((s.checkAfterFall c).port q).requeueOwed = (s.port q).requeueOwed := by
 unfold State.checkAfterFall; (repeat' split) <;> simp
@[simp] theorem State.checkAfterFall_pool : (s.checkAfterFall c).pool = s.pool := by
 unfold State.checkAfterFall; (repeat' split) <;> simp
@[simp] theorem State.checkAfterFall_holdOwed : (s.checkAfterFall c).holdOwed = s.holdOwed := by
 unfold State.checkAfterFall; (repeat' split) <;> simp
@[simp] theorem State.checkAfterFall_retestOwed : (s.checkAfterFall c).retestOwed = s.retestOwed := by
 unfold State.checkAfterFall; (repeat' split) <;> simp
@[simp] theorem State.checkAfterFall_record (r : RecordId) : (s.checkAfterFall c).record r = s.record r := by
 unfold State.checkAfterFall; (repeat' split) <;> simp

end checkAfterFall

section discard

variable (s : State) (c : ChannelId)

@[simp] theorem State.discard_pending : (s.discard c).pending = s.pending := by
 unfold State.discard; (repeat' split) <;> simp
@[simp] theorem State.discard_resetPin : (s.discard c).resetPin = s.resetPin := by
 unfold State.discard; (repeat' split) <;> simp
@[simp] theorem State.discard_roundRobin : (s.discard c).roundRobin = s.roundRobin := by
 unfold State.discard; (repeat' split) <;> simp
@[simp] theorem State.discard_onTick : (s.discard c).onTick = s.onTick := by
 unfold State.discard; (repeat' split) <;> simp
@[simp] theorem State.discard_freeIndex : (s.discard c).freeIndex = s.freeIndex := by
 unfold State.discard; (repeat' split) <;> simp
@[simp] theorem State.discard_piu (q : PortId) : (s.discard c).piu q = s.piu q := by
 unfold State.discard; (repeat' split) <;> simp
@[simp] theorem State.discard_writer (q : PortId) : (s.discard c).writer q = s.writer q := by
 unfold State.discard; (repeat' split) <;> simp
@[simp] theorem State.discard_flushOwed (q : PortId) : ((s.discard c).port q).flushOwed = (s.port q).flushOwed := by
 unfold State.discard; (repeat' split) <;> simp
@[simp] theorem State.discard_requeueOwed (q : PortId) : ((s.discard c).port q).requeueOwed = (s.port q).requeueOwed := by
 unfold State.discard; (repeat' split) <;> simp
@[simp] theorem State.discard_nu (q : PortId) : (s.discard c).nu q = s.nu q := by
 unfold State.discard; (repeat' split) <;> simp

end discard

end Sys2Proof.Machine
end

