-- ==== Sys2Proof/Laws/Slot.lean ====
section
/-! SUPPORT. The command slot: what completing a command leaves, what it writes, and what taking a command does. -/

namespace Sys2Proof.Machine

section complete

variable (s : State) (p : PortId) (status : Status) (results : Table Word 4)

@[simp] theorem State.complete_pending : (s.complete p status results).pending = s.pending := by
 unfold State.complete; dsimp only; (repeat' split) <;> simp
@[simp] theorem State.complete_resetPin : (s.complete p status results).resetPin = s.resetPin := by
 unfold State.complete; dsimp only; (repeat' split) <;> simp
@[simp] theorem State.complete_entries : (s.complete p status results).entries = s.entries := by
 unfold State.complete; dsimp only; (repeat' split) <;> simp
@[simp] theorem State.complete_pool : (s.complete p status results).pool = s.pool := by
 unfold State.complete; dsimp only; (repeat' split) <;> simp
@[simp] theorem State.complete_roundRobin : (s.complete p status results).roundRobin = s.roundRobin := by
 unfold State.complete; dsimp only; (repeat' split) <;> simp
@[simp] theorem State.complete_holdOwed : (s.complete p status results).holdOwed = s.holdOwed := by
 unfold State.complete; dsimp only; (repeat' split) <;> simp
@[simp] theorem State.complete_retestOwed : (s.complete p status results).retestOwed = s.retestOwed := by
 unfold State.complete; dsimp only; (repeat' split) <;> simp
@[simp] theorem State.complete_onTick : (s.complete p status results).onTick = s.onTick := by
 unfold State.complete; dsimp only; (repeat' split) <;> simp
@[simp] theorem State.complete_freeIndex : (s.complete p status results).freeIndex = s.freeIndex := by
 unfold State.complete; dsimp only; (repeat' split) <;> simp
@[simp] theorem State.complete_entry (d : ChannelId) : (s.complete p status results).entry d = s.entry d := by
 unfold State.complete; dsimp only; (repeat' split) <;> simp
@[simp] theorem State.complete_use (d : ChannelId) : (s.complete p status results).use d = s.use d := by
 unfold State.complete; dsimp only; (repeat' split) <;> simp
@[simp] theorem State.complete_record (r : RecordId) : (s.complete p status results).record r = s.record r := by
 unfold State.complete; dsimp only; (repeat' split) <;> simp
@[simp] theorem State.complete_writer (q : PortId) : (s.complete p status results).writer q = s.writer q := by
 unfold State.complete; dsimp only; (repeat' split) <;> simp
@[simp] theorem State.complete_flushOwed (q : PortId) : ((s.complete p status results).port q).flushOwed = (s.port q).flushOwed := by
 unfold State.complete; dsimp only; (repeat' split) <;> simp
@[simp] theorem State.complete_requeueOwed (q : PortId) : ((s.complete p status results).port q).requeueOwed = (s.port q).requeueOwed := by
 unfold State.complete; dsimp only; (repeat' split) <;> simp

end complete

section refuse

variable (s : State) (p : PortId) (status : Status)

@[simp] theorem State.refuse_pending : (s.refuse p status).pending = s.pending := by simp [State.refuse]
@[simp] theorem State.refuse_resetPin : (s.refuse p status).resetPin = s.resetPin := by simp [State.refuse]
@[simp] theorem State.refuse_entries : (s.refuse p status).entries = s.entries := by simp [State.refuse]
@[simp] theorem State.refuse_pool : (s.refuse p status).pool = s.pool := by simp [State.refuse]
@[simp] theorem State.refuse_roundRobin : (s.refuse p status).roundRobin = s.roundRobin := by simp [State.refuse]
@[simp] theorem State.refuse_holdOwed : (s.refuse p status).holdOwed = s.holdOwed := by simp [State.refuse]
@[simp] theorem State.refuse_retestOwed : (s.refuse p status).retestOwed = s.retestOwed := by simp [State.refuse]
@[simp] theorem State.refuse_onTick : (s.refuse p status).onTick = s.onTick := by simp [State.refuse]
@[simp] theorem State.refuse_freeIndex : (s.refuse p status).freeIndex = s.freeIndex := by simp [State.refuse]
@[simp] theorem State.refuse_entry (d : ChannelId) : (s.refuse p status).entry d = s.entry d := by simp [State.refuse]
@[simp] theorem State.refuse_use (d : ChannelId) : (s.refuse p status).use d = s.use d := by simp [State.refuse]
@[simp] theorem State.refuse_record (r : RecordId) : (s.refuse p status).record r = s.record r := by simp [State.refuse]
@[simp] theorem State.refuse_writer (q : PortId) : (s.refuse p status).writer q = s.writer q := by simp [State.refuse]
@[simp] theorem State.refuse_flushOwed (q : PortId) : ((s.refuse p status).port q).flushOwed = (s.port q).flushOwed := by simp [State.refuse]
@[simp] theorem State.refuse_requeueOwed (q : PortId) : ((s.refuse p status).port q).requeueOwed = (s.port q).requeueOwed := by simp [State.refuse]

end refuse

section finish

variable (s : State) (p : PortId)

@[simp] theorem State.finish_pending : (s.finish p).pending = s.pending := by simp [State.finish]
@[simp] theorem State.finish_resetPin : (s.finish p).resetPin = s.resetPin := by simp [State.finish]
@[simp] theorem State.finish_entries : (s.finish p).entries = s.entries := by simp [State.finish]
@[simp] theorem State.finish_pool : (s.finish p).pool = s.pool := by simp [State.finish]
@[simp] theorem State.finish_roundRobin : (s.finish p).roundRobin = s.roundRobin := by simp [State.finish]
@[simp] theorem State.finish_holdOwed : (s.finish p).holdOwed = s.holdOwed := by simp [State.finish]
@[simp] theorem State.finish_retestOwed : (s.finish p).retestOwed = s.retestOwed := by simp [State.finish]
@[simp] theorem State.finish_onTick : (s.finish p).onTick = s.onTick := by simp [State.finish]
@[simp] theorem State.finish_freeIndex : (s.finish p).freeIndex = s.freeIndex := by simp [State.finish]
@[simp] theorem State.finish_entry (d : ChannelId) : (s.finish p).entry d = s.entry d := by simp [State.finish]
@[simp] theorem State.finish_use (d : ChannelId) : (s.finish p).use d = s.use d := by simp [State.finish]
@[simp] theorem State.finish_record (r : RecordId) : (s.finish p).record r = s.record r := by simp [State.finish]
@[simp] theorem State.finish_writer (q : PortId) : (s.finish p).writer q = s.writer q := by simp [State.finish]
@[simp] theorem State.finish_flushOwed (q : PortId) : ((s.finish p).port q).flushOwed = (s.port q).flushOwed := by simp [State.finish]
@[simp] theorem State.finish_requeueOwed (q : PortId) : ((s.finish p).port q).requeueOwed = (s.port q).requeueOwed := by simp [State.finish]

end finish

/-- The slot after a completion, and the rest of the Port Interface Unit (R165). -/
@[simp] theorem State.complete_piu (s : State) (p q : PortId) (status : Status) (results : Table Word 4) :
    (s.complete p status results).piu q =
      if q = p then
        { s.piu p with slot := { (s.piu p).slot with
            busy := false
            status := status.code
            responseKind := (s.piu p).slot.kind
            completions := (s.piu p).slot.completions + 1
            results := results } }
      else s.piu q := by
  unfold State.complete; dsimp only; split <;> simp

/-- A completion changes no other port's Notice Unit (R166). -/
theorem State.complete_nu_ne (s : State) {p q : PortId} (h : q ≠ p) (status : Status) (results : Table Word 4) :
    (s.complete p status results).nu q = s.nu q := by
  unfold State.complete; dsimp only; split
  · simp only [State.event, State.countVector]; (repeat' split) <;> simp [h]
  · simp

/-- What a write of the command word can do: nothing (a reset is asserted), an overrun (the slot is BUSY), a refusal (BAD_COMMAND or BAD_STATE),
or the body of an admitted command on the state with the slot taken (R162 to R164). -/
theorem State.takeCommand_cases {P : State → Prop} (s : State) (p : PortId) (kind : Byte) (notify : Bool) (body : State → State)
    (closed : P s)
    (overrun : (s.piu p).slot.busy = true → P (s.modPiu p fun u => { u with slot := { u.slot with overrun := true } }))
    (refused : (s.piu p).slot.busy = false → ∀ st, P ((s.modPiu p fun u => u.latch kind notify).refuse p st))
    (taken : ∀ c, commandOfKind kind.toNat = some c → admits (s.piu p).state c = true → s.windowClosed p = false → (s.piu p).slot.busy = false →
      P (body (s.modPiu p fun u => u.latch kind notify))) :
    P (s.takeCommand p kind notify body) := by
  unfold State.takeCommand
  split
  · exact closed
  · next h1 =>
    split
    · next h2 => exact overrun h2
    · next h2 =>
      have h2' : (s.piu p).slot.busy = false := by simpa using h2
      dsimp only
      split
      · exact refused h2' _
      · next c hc =>
        split
        · next ha => exact taken c hc ha (by simpa using h1) h2'
        · exact refused h2' _

/-- A command taken from an open, IDLE slot in a port state that admits it runs its body (R162). -/
theorem State.takeCommand_taken (s : State) (p : PortId) (kind : Byte) (notify : Bool) (body : State → State) {c : Command}
    (h0 : s.windowClosed p = false) (h1 : (s.piu p).slot.busy = false) (h2 : commandOfKind kind.toNat = some c)
    (h3 : admits (s.piu p).state c = true) :
    s.takeCommand p kind notify body = body (s.modPiu p fun u => u.latch kind notify) := by
  simp [State.takeCommand, h0, h1, h2, h3]

/-- The kind of a command names it. -/
@[simp] theorem commandOfKind_kindOf (c : Command) : commandOfKind (kindOf c).toNat = some c := by
  cases c <;> rfl

end Sys2Proof.Machine
end

