-- ==== Sys2Proof/Laws/EventsMade.lean ====
section
/-! SUPPORT. Which events each operation hands to which Notice Unit, in the words of the statements, and how they compose. -/

namespace Sys2Proof.Machine

/-- Taking an event does not depend on the slot words, and leaves them. -/
theorem Nu.take_words (nu : Nu) (a : Table ConsumerWord 16) (b : Table ProducerWord 16) (kind : EventKind) (qualifier channel : Byte) (detail : Half) :
    ({ nu with consumerWords := a, producerWords := b } : Nu).take kind qualifier channel detail =
      { nu.take kind qualifier channel detail with consumerWords := a, producerWords := b } := by
  unfold Nu.take; dsimp only; split <;> rfl

/-- A count does not depend on the slot words, and leaves them. -/
theorem Nu.count_words (nu : Nu) (a : Table ConsumerWord 16) (b : Table ProducerWord 16) (v : VectorId) :
    ({ nu with consumerWords := a, producerWords := b } : Nu).count v = { nu.count v with consumerWords := a, producerWords := b } := by
  unfold Nu.count Nu.fireIfDue Nu.modVector Nu.fire Nu.modVector; dsimp only; split <;> rfl

/-- Handing events does not depend on the slot words, and leaves them. -/
theorem Nu.handAll_words (nu : Nu) (a : Table ConsumerWord 16) (b : Table ProducerWord 16) (att : Bool) (ns : List Notice) :
    ({ nu with consumerWords := a, producerWords := b } : Nu).handAll att ns = { nu.handAll att ns with consumerWords := a, producerWords := b } := by
  induction ns generalizing nu with
  | nil => rfl
  | cons n ns ih =>
    unfold Nu.handAll
    have : ({ nu with consumerWords := a, producerWords := b } : Nu).hand att n = { nu.hand att n with consumerWords := a, producerWords := b } := by
      unfold Nu.hand
      cases att
      · exact Nu.take_words _ _ _ _ _ _ _
      · simp only [if_true, Nu.take_words, Nu.count_words]
    rw [this, ih]

/-- Handing two lists is handing their concatenation. -/
theorem Nu.handAll_append (nu : Nu) (att : Bool) (ns ms : List Notice) : (nu.handAll att ns).handAll att ms = nu.handAll att (ns ++ ms) := by
  induction ns generalizing nu with
  | nil => rfl
  | cons n ns ih => exact ih _

/-- A change of nothing but slot words makes no event. -/
theorem State.EventsMade.ofWords {s t : State}
    (h : ∀ q, t.nu q = { s.nu q with consumerWords := (t.nu q).consumerWords, producerWords := (t.nu q).producerWords }) :
    s.EventsMade t fun _ => [] := by
  intro q
  rw [h q]
  unfold State.nuAfter
  split <;> rfl

/-- A change of no Notice Unit makes no event. -/
theorem State.EventsMade.ofEq {s t : State} (h : ∀ q, t.nu q = s.nu q) : s.EventsMade t fun _ => [] :=
  State.EventsMade.ofWords fun q => by rw [h q]

/-- Events made one after the other. -/
theorem State.EventsMade.trans {s t u : State} {ns ms : PortId → List Notice} (h1 : s.EventsMade t ns) (h2 : t.EventsMade u ms)
    (hp : ∀ q, (t.piu q).state = (s.piu q).state) : s.EventsMade u fun q => ns q ++ ms q := by
  intro q
  have e1 := h1 q
  have e2 := h2 q
  unfold State.nuAfter at e1 e2 ⊢
  rw [hp q] at e2
  split
  · next hd =>
    rw [if_pos hd] at e1 e2
    rw [e2, e1]
  · next hd =>
    rw [if_neg hd] at e1 e2
    rw [e1, Nu.handAll_words, Nu.handAll_append] at e2
    rw [e2]

/-- Events made before a step that makes none. -/
theorem State.EventsMade.thenNone {s t u : State} {ns : PortId → List Notice} (h1 : s.EventsMade t ns) (h2 : t.EventsMade u fun _ => [])
    (hp : ∀ q, (t.piu q).state = (s.piu q).state) : s.EventsMade u ns := by
  have := h1.trans h2 hp
  simpa using this

/-- Events made after a step that makes none. -/
theorem State.EventsMade.afterNone {s t u : State} {ns : PortId → List Notice} (h1 : s.EventsMade t fun _ => []) (h2 : t.EventsMade u ns)
    (hp : ∀ q, (t.piu q).state = (s.piu q).state) : s.EventsMade u ns := by
  have := h1.trans h2 hp
  simpa using this

/-- An event handed to a Notice Unit. -/
theorem State.EventsMade.event (s : State) (p : PortId) (kind : EventKind) (qualifier channel : Byte) (detail : Half) (slot : Option SlotId) :
    s.EventsMade (s.event p kind qualifier channel detail slot) fun q => if q = p then [⟨kind, qualifier, channel, detail, slot⟩] else [] := by
  intro q
  rw [State.event_nu]
  unfold State.nuAfter
  beta_reduce
  by_cases hq : q = p
  · subst hq
    by_cases hd : (s.piu q).state = .detached
    · rw [if_neg (fun h => h.2 hd), if_pos hd]
    · rw [if_pos ⟨rfl, hd⟩, if_neg hd, if_pos rfl]
      by_cases ha : (s.piu q).state = .attached
      · rw [if_pos ha, decide_eq_true ha]
        rfl
      · rw [if_neg ha, decide_eq_false ha]
        rfl
  · rw [if_neg (fun h => hq h.1), if_neg hq]
    split <;> rfl

/-- An event for a port without a slot on the channel. -/
theorem State.EventsMade.portEvent (s : State) (p : PortId) (kind : EventKind) (c : ChannelId) (detail : Half) :
    s.EventsMade (s.portEvent p kind c detail) (noticeToPort p kind c detail) := State.EventsMade.event _ _ _ _ _ _ _

/-- An event for a party, when there is one. -/
theorem State.EventsMade.tellParty (s : State) (a : Option Party) (kind : EventKind) (qualifier : Byte) (c : ChannelId) (detail : Half) :
    s.EventsMade (s.tellParty a kind qualifier c detail) (noticeTo a kind qualifier c detail) := by
  cases a with
  | none => exact State.EventsMade.ofEq fun _ => rfl
  | some a => exact State.EventsMade.event _ _ _ _ _ _ _

/-- COMMAND_DONE at a completion, when NOTIFY was latched (R166). -/
theorem State.EventsMade.complete (s : State) (p : PortId) (status : Status) (results : Table Word 4) :
    s.EventsMade (s.complete p status results) (noticeDone p (s.piu p).slot.notify (s.piu p).slot.kind status) := by
  unfold State.complete
  dsimp only
  split
  · next hn =>
    have h : noticeDone p (s.piu p).slot.notify (s.piu p).slot.kind status = fun q => if q = p then
        [⟨.commandDone, 0, 0, commandDoneDetail (s.piu p).slot.kind status.code, none⟩] else [] := by
      funext q
      simp [noticeDone, hn]
    rw [h]
    refine State.EventsMade.afterNone ?_ (State.EventsMade.event _ p _ _ _ _ _) fun q => ?_
    · exact State.EventsMade.ofEq fun q => by simp
    · by_cases h : q = p <;> simp [h]
  · next hn =>
    have h : noticeDone p (s.piu p).slot.notify (s.piu p).slot.kind status = fun _ => [] := by
      funext q
      simp [noticeDone, hn]
    rw [h]
    exact State.EventsMade.ofEq fun q => by simp

/-- A change of a consumer-slot word makes no event. -/
theorem State.EventsMade.consumerWord (s : State) (a : Party) (f : ConsumerWord → ConsumerWord) :
    s.EventsMade (s.modConsumerWord a f) fun _ => [] :=
  State.EventsMade.ofWords fun q => by
    by_cases h : q = a.port
    · simp [State.modConsumerWord, h]
    · simp [State.modConsumerWord, h]

/-- A change of a producer-slot word makes no event. -/
theorem State.EventsMade.producerWord (s : State) (a : Party) (f : ProducerWord → ProducerWord) :
    s.EventsMade (s.modProducerWord a f) fun _ => [] :=
  State.EventsMade.ofWords fun q => by
    by_cases h : q = a.port
    · simp [State.modProducerWord, h]
    · simp [State.modProducerWord, h]

/-- The binding of a consumer slot makes no event. -/
theorem State.EventsMade.bindConsumer (s : State) (a : Party) (c : ChannelId) : s.EventsMade (s.bindConsumer a c) fun _ => [] := by
  unfold State.bindConsumer
  exact State.EventsMade.thenNone (State.EventsMade.consumerWord s a _) (State.EventsMade.ofEq fun q => State.modPiu_nu _ _ _ _)
    fun q => by simp

/-- The binding of a producer slot makes no event. -/
theorem State.EventsMade.bindProducer (s : State) (a : Party) (c : ChannelId) : s.EventsMade (s.bindProducer a c) fun _ => [] :=
  State.EventsMade.producerWord s a _

/-- The release of a consumer slot makes no event. -/
theorem State.EventsMade.unbindConsumer (s : State) (a : Option Party) : s.EventsMade (s.unbindConsumer a) fun _ => [] := by
  cases a with
  | none => exact State.EventsMade.ofEq fun _ => rfl
  | some a => exact State.EventsMade.consumerWord s a _

/-- The release of a producer slot makes no event. -/
theorem State.EventsMade.unbindProducer (s : State) (a : Option Party) : s.EventsMade (s.unbindProducer a) fun _ => [] := by
  cases a with
  | none => exact State.EventsMade.ofEq fun _ => rfl
  | some a => exact State.EventsMade.producerWord s a _

/-- A handing of the hold flag makes no event (R120). -/
theorem State.EventsMade.handHold (s : State) (a : Option Party) (b : Bool) : s.EventsMade (s.handHold a b) fun _ => [] := by
  cases a with
  | none => exact State.EventsMade.ofEq fun _ => rfl
  | some a => exact State.EventsMade.producerWord s a _

/-- A handing of a write index makes no event (R82). -/
theorem State.EventsMade.handWriteIndex (s : State) (a : Option Party) (w : Half) : s.EventsMade (s.handWriteIndex a w) fun _ => [] := by
  cases a with
  | none => exact State.EventsMade.ofEq fun _ => rfl
  | some a => exact State.EventsMade.consumerWord s a _

/-- An entry's becoming FREE makes no event of itself (R20). -/
theorem State.EventsMade.freeEntry (s : State) (c : ChannelId) : s.EventsMade (s.freeEntry c) fun _ => [] := by
  unfold State.freeEntry
  split
  · exact State.EventsMade.ofEq fun _ => rfl
  · next u _ =>
    refine State.EventsMade.thenNone (t := (s.unbindProducer u.producer).unbindConsumer u.consumer) ?_ (State.EventsMade.ofEq fun q => rfl)
      fun q => by simp
    exact (State.EventsMade.unbindProducer s u.producer).afterNone (State.EventsMade.unbindConsumer _ u.consumer) fun q => by simp

/-- Leaving OPEN makes no event (R30). -/
theorem State.EventsMade.leaveOpen (s : State) (c : ChannelId) (stage : Stage) : s.EventsMade (s.leaveOpen c stage) fun _ => [] := by
  unfold State.leaveOpen
  split
  · exact State.EventsMade.ofEq fun _ => rfl
  · exact State.EventsMade.afterNone (State.EventsMade.ofEq fun _ => rfl) (State.EventsMade.handHold _ _ _) fun q => by simp

end Sys2Proof.Machine
end

