-- ==== Sys2Proof/Laws/Frames.lean ====
section
/-! SUPPORT. What each operation of a command leaves unchanged: one lemma per field per operation. -/

namespace Sys2Proof.Machine

section offerBody

variable (s : State) (p : PortId)

@[simp] theorem offerBody_pending : (offerBody p s).pending = s.pending := by
  unfold offerBody; dsimp only; (repeat' split) <;> simp [offerTake]; split <;> simp
@[simp] theorem offerBody_resetPin : (offerBody p s).resetPin = s.resetPin := by
  unfold offerBody; dsimp only; (repeat' split) <;> simp [offerTake]; split <;> simp
@[simp] theorem offerBody_roundRobin : (offerBody p s).roundRobin = s.roundRobin := by
  unfold offerBody; dsimp only; (repeat' split) <;> simp [offerTake]; split <;> simp
@[simp] theorem offerBody_onTick : (offerBody p s).onTick = s.onTick := by
  unfold offerBody; dsimp only; (repeat' split) <;> simp [offerTake]; split <;> simp
@[simp] theorem offerBody_freeIndex : (offerBody p s).freeIndex = s.freeIndex := by
  unfold offerBody; dsimp only; (repeat' split) <;> simp [offerTake]; split <;> simp
@[simp] theorem offerBody_pool : (offerBody p s).pool = s.pool := by
  unfold offerBody; dsimp only; (repeat' split) <;> simp [offerTake]; split <;> simp
@[simp] theorem offerBody_holdOwed : (offerBody p s).holdOwed = s.holdOwed := by
  unfold offerBody; dsimp only; (repeat' split) <;> simp [offerTake]; split <;> simp
@[simp] theorem offerBody_retestOwed : (offerBody p s).retestOwed = s.retestOwed := by
  unfold offerBody; dsimp only; (repeat' split) <;> simp [offerTake]; split <;> simp
@[simp] theorem offerBody_record (r : RecordId) : (offerBody p s).record r = s.record r := by
  unfold offerBody; dsimp only; (repeat' split) <;> simp [offerTake]; split <;> simp
@[simp] theorem offerBody_writer (q : PortId) : (offerBody p s).writer q = s.writer q := by
  unfold offerBody; dsimp only; (repeat' split) <;> simp [offerTake]; split <;> simp
@[simp] theorem offerBody_flushOwed (q : PortId) : ((offerBody p s).port q).flushOwed = (s.port q).flushOwed := by
  unfold offerBody; dsimp only; (repeat' split) <;> simp [offerTake]; split <;> simp
@[simp] theorem offerBody_requeueOwed (q : PortId) : ((offerBody p s).port q).requeueOwed = (s.port q).requeueOwed := by
  unfold offerBody; dsimp only; (repeat' split) <;> simp [offerTake]; split <;> simp

end offerBody

section acceptTake

variable (s : State) (p : PortId) (c : ChannelId) (u : Use) (o : Offer) (i : SlotId) (ra : RingArgs)

@[simp] theorem acceptTake_pending : (acceptTake s p c u o i ra).pending = s.pending := by
  unfold acceptTake acceptAsConsumer acceptAsProducer; dsimp only; (repeat' split) <;> simp
@[simp] theorem acceptTake_resetPin : (acceptTake s p c u o i ra).resetPin = s.resetPin := by
  unfold acceptTake acceptAsConsumer acceptAsProducer; dsimp only; (repeat' split) <;> simp
@[simp] theorem acceptTake_roundRobin : (acceptTake s p c u o i ra).roundRobin = s.roundRobin := by
  unfold acceptTake acceptAsConsumer acceptAsProducer; dsimp only; (repeat' split) <;> simp
@[simp] theorem acceptTake_onTick : (acceptTake s p c u o i ra).onTick = s.onTick := by
  unfold acceptTake acceptAsConsumer acceptAsProducer; dsimp only; (repeat' split) <;> simp
@[simp] theorem acceptTake_freeIndex : (acceptTake s p c u o i ra).freeIndex = s.freeIndex := by
  unfold acceptTake acceptAsConsumer acceptAsProducer; dsimp only; (repeat' split) <;> simp
@[simp] theorem acceptTake_pool : (acceptTake s p c u o i ra).pool = s.pool := by
  unfold acceptTake acceptAsConsumer acceptAsProducer; dsimp only; (repeat' split) <;> simp
@[simp] theorem acceptTake_holdOwed : (acceptTake s p c u o i ra).holdOwed = s.holdOwed := by
  unfold acceptTake acceptAsConsumer acceptAsProducer; dsimp only; (repeat' split) <;> simp
@[simp] theorem acceptTake_retestOwed : (acceptTake s p c u o i ra).retestOwed = s.retestOwed := by
  unfold acceptTake acceptAsConsumer acceptAsProducer; dsimp only; (repeat' split) <;> simp
@[simp] theorem acceptTake_record (r : RecordId) : (acceptTake s p c u o i ra).record r = s.record r := by
  unfold acceptTake acceptAsConsumer acceptAsProducer; dsimp only; (repeat' split) <;> simp
@[simp] theorem acceptTake_writer (q : PortId) : (acceptTake s p c u o i ra).writer q = s.writer q := by
  unfold acceptTake acceptAsConsumer acceptAsProducer; dsimp only; (repeat' split) <;> simp
@[simp] theorem acceptTake_flushOwed (q : PortId) : ((acceptTake s p c u o i ra).port q).flushOwed = (s.port q).flushOwed := by
  unfold acceptTake acceptAsConsumer acceptAsProducer; dsimp only; (repeat' split) <;> simp
@[simp] theorem acceptTake_requeueOwed (q : PortId) : ((acceptTake s p c u o i ra).port q).requeueOwed = (s.port q).requeueOwed := by
  unfold acceptTake acceptAsConsumer acceptAsProducer; dsimp only; (repeat' split) <;> simp

end acceptTake

section acceptBody

variable (s : State) (p : PortId)

@[simp] theorem acceptBody_pending : (acceptBody p s).pending = s.pending := by
  unfold acceptBody; dsimp only; (repeat' split) <;> simp
@[simp] theorem acceptBody_resetPin : (acceptBody p s).resetPin = s.resetPin := by
  unfold acceptBody; dsimp only; (repeat' split) <;> simp
@[simp] theorem acceptBody_roundRobin : (acceptBody p s).roundRobin = s.roundRobin := by
  unfold acceptBody; dsimp only; (repeat' split) <;> simp
@[simp] theorem acceptBody_onTick : (acceptBody p s).onTick = s.onTick := by
  unfold acceptBody; dsimp only; (repeat' split) <;> simp
@[simp] theorem acceptBody_freeIndex : (acceptBody p s).freeIndex = s.freeIndex := by
  unfold acceptBody; dsimp only; (repeat' split) <;> simp
@[simp] theorem acceptBody_pool : (acceptBody p s).pool = s.pool := by
  unfold acceptBody; dsimp only; (repeat' split) <;> simp
@[simp] theorem acceptBody_holdOwed : (acceptBody p s).holdOwed = s.holdOwed := by
  unfold acceptBody; dsimp only; (repeat' split) <;> simp
@[simp] theorem acceptBody_retestOwed : (acceptBody p s).retestOwed = s.retestOwed := by
  unfold acceptBody; dsimp only; (repeat' split) <;> simp
@[simp] theorem acceptBody_record (r : RecordId) : (acceptBody p s).record r = s.record r := by
  unfold acceptBody; dsimp only; (repeat' split) <;> simp
@[simp] theorem acceptBody_writer (q : PortId) : (acceptBody p s).writer q = s.writer q := by
  unfold acceptBody; dsimp only; (repeat' split) <;> simp
@[simp] theorem acceptBody_flushOwed (q : PortId) : ((acceptBody p s).port q).flushOwed = (s.port q).flushOwed := by
  unfold acceptBody; dsimp only; (repeat' split) <;> simp
@[simp] theorem acceptBody_requeueOwed (q : PortId) : ((acceptBody p s).port q).requeueOwed = (s.port q).requeueOwed := by
  unfold acceptBody; dsimp only; (repeat' split) <;> simp

end acceptBody

section State.declineOffer

variable (s : State) (c : ChannelId)

@[simp] theorem State.declineOffer_pending : (s.declineOffer c).pending = s.pending := by
  unfold State.declineOffer; (repeat' split) <;> simp
@[simp] theorem State.declineOffer_resetPin : (s.declineOffer c).resetPin = s.resetPin := by
  unfold State.declineOffer; (repeat' split) <;> simp
@[simp] theorem State.declineOffer_roundRobin : (s.declineOffer c).roundRobin = s.roundRobin := by
  unfold State.declineOffer; (repeat' split) <;> simp
@[simp] theorem State.declineOffer_onTick : (s.declineOffer c).onTick = s.onTick := by
  unfold State.declineOffer; (repeat' split) <;> simp
@[simp] theorem State.declineOffer_freeIndex : (s.declineOffer c).freeIndex = s.freeIndex := by
  unfold State.declineOffer; (repeat' split) <;> simp
@[simp] theorem State.declineOffer_pool : (s.declineOffer c).pool = s.pool := by
  unfold State.declineOffer; (repeat' split) <;> simp
@[simp] theorem State.declineOffer_holdOwed : (s.declineOffer c).holdOwed = s.holdOwed := by
  unfold State.declineOffer; (repeat' split) <;> simp
@[simp] theorem State.declineOffer_retestOwed : (s.declineOffer c).retestOwed = s.retestOwed := by
  unfold State.declineOffer; (repeat' split) <;> simp
@[simp] theorem State.declineOffer_record (r : RecordId) : (s.declineOffer c).record r = s.record r := by
  unfold State.declineOffer; (repeat' split) <;> simp
@[simp] theorem State.declineOffer_writer (q : PortId) : (s.declineOffer c).writer q = s.writer q := by
  unfold State.declineOffer; (repeat' split) <;> simp
@[simp] theorem State.declineOffer_flushOwed (q : PortId) : ((s.declineOffer c).port q).flushOwed = (s.port q).flushOwed := by
  unfold State.declineOffer; (repeat' split) <;> simp
@[simp] theorem State.declineOffer_requeueOwed (q : PortId) : ((s.declineOffer c).port q).requeueOwed = (s.port q).requeueOwed := by
  unfold State.declineOffer; (repeat' split) <;> simp
@[simp] theorem State.declineOffer_piu (q : PortId) : (s.declineOffer c).piu q = s.piu q := by
  unfold State.declineOffer; (repeat' split) <;> simp

end State.declineOffer

section State.withdrawOffer

variable (s : State) (c : ChannelId) (o : Offer)

@[simp] theorem State.withdrawOffer_pending : (s.withdrawOffer c o).pending = s.pending := by simp [State.withdrawOffer]
@[simp] theorem State.withdrawOffer_resetPin : (s.withdrawOffer c o).resetPin = s.resetPin := by simp [State.withdrawOffer]
@[simp] theorem State.withdrawOffer_roundRobin : (s.withdrawOffer c o).roundRobin = s.roundRobin := by simp [State.withdrawOffer]
@[simp] theorem State.withdrawOffer_onTick : (s.withdrawOffer c o).onTick = s.onTick := by simp [State.withdrawOffer]
@[simp] theorem State.withdrawOffer_freeIndex : (s.withdrawOffer c o).freeIndex = s.freeIndex := by simp [State.withdrawOffer]
@[simp] theorem State.withdrawOffer_pool : (s.withdrawOffer c o).pool = s.pool := by simp [State.withdrawOffer]
@[simp] theorem State.withdrawOffer_holdOwed : (s.withdrawOffer c o).holdOwed = s.holdOwed := by simp [State.withdrawOffer]
@[simp] theorem State.withdrawOffer_retestOwed : (s.withdrawOffer c o).retestOwed = s.retestOwed := by simp [State.withdrawOffer]
@[simp] theorem State.withdrawOffer_record (r : RecordId) : (s.withdrawOffer c o).record r = s.record r := by simp [State.withdrawOffer]
@[simp] theorem State.withdrawOffer_writer (q : PortId) : (s.withdrawOffer c o).writer q = s.writer q := by simp [State.withdrawOffer]
@[simp] theorem State.withdrawOffer_flushOwed (q : PortId) : ((s.withdrawOffer c o).port q).flushOwed = (s.port q).flushOwed := by simp [State.withdrawOffer]
@[simp] theorem State.withdrawOffer_requeueOwed (q : PortId) : ((s.withdrawOffer c o).port q).requeueOwed = (s.port q).requeueOwed := by simp [State.withdrawOffer]
@[simp] theorem State.withdrawOffer_piu (q : PortId) : (s.withdrawOffer c o).piu q = s.piu q := by simp [State.withdrawOffer]

end State.withdrawOffer

section State.expireOffer

variable (s : State) (c : ChannelId) (u : Use) (o : Offer)

@[simp] theorem State.expireOffer_pending : (s.expireOffer c u o).pending = s.pending := by simp [State.expireOffer]
@[simp] theorem State.expireOffer_resetPin : (s.expireOffer c u o).resetPin = s.resetPin := by simp [State.expireOffer]
@[simp] theorem State.expireOffer_roundRobin : (s.expireOffer c u o).roundRobin = s.roundRobin := by simp [State.expireOffer]
@[simp] theorem State.expireOffer_onTick : (s.expireOffer c u o).onTick = s.onTick := by simp [State.expireOffer]
@[simp] theorem State.expireOffer_freeIndex : (s.expireOffer c u o).freeIndex = s.freeIndex := by simp [State.expireOffer]
@[simp] theorem State.expireOffer_pool : (s.expireOffer c u o).pool = s.pool := by simp [State.expireOffer]
@[simp] theorem State.expireOffer_holdOwed : (s.expireOffer c u o).holdOwed = s.holdOwed := by simp [State.expireOffer]
@[simp] theorem State.expireOffer_retestOwed : (s.expireOffer c u o).retestOwed = s.retestOwed := by simp [State.expireOffer]
@[simp] theorem State.expireOffer_record (r : RecordId) : (s.expireOffer c u o).record r = s.record r := by simp [State.expireOffer]
@[simp] theorem State.expireOffer_writer (q : PortId) : (s.expireOffer c u o).writer q = s.writer q := by simp [State.expireOffer]
@[simp] theorem State.expireOffer_flushOwed (q : PortId) : ((s.expireOffer c u o).port q).flushOwed = (s.port q).flushOwed := by simp [State.expireOffer]
@[simp] theorem State.expireOffer_requeueOwed (q : PortId) : ((s.expireOffer c u o).port q).requeueOwed = (s.port q).requeueOwed := by simp [State.expireOffer]
@[simp] theorem State.expireOffer_piu (q : PortId) : (s.expireOffer c u o).piu q = s.piu q := by simp [State.expireOffer]

end State.expireOffer

section declineBody

variable (s : State) (p : PortId)

@[simp] theorem declineBody_pending : (declineBody p s).pending = s.pending := by
  unfold declineBody; dsimp only; (repeat' split) <;> simp
@[simp] theorem declineBody_resetPin : (declineBody p s).resetPin = s.resetPin := by
  unfold declineBody; dsimp only; (repeat' split) <;> simp
@[simp] theorem declineBody_roundRobin : (declineBody p s).roundRobin = s.roundRobin := by
  unfold declineBody; dsimp only; (repeat' split) <;> simp
@[simp] theorem declineBody_onTick : (declineBody p s).onTick = s.onTick := by
  unfold declineBody; dsimp only; (repeat' split) <;> simp
@[simp] theorem declineBody_freeIndex : (declineBody p s).freeIndex = s.freeIndex := by
  unfold declineBody; dsimp only; (repeat' split) <;> simp
@[simp] theorem declineBody_pool : (declineBody p s).pool = s.pool := by
  unfold declineBody; dsimp only; (repeat' split) <;> simp
@[simp] theorem declineBody_holdOwed : (declineBody p s).holdOwed = s.holdOwed := by
  unfold declineBody; dsimp only; (repeat' split) <;> simp
@[simp] theorem declineBody_retestOwed : (declineBody p s).retestOwed = s.retestOwed := by
  unfold declineBody; dsimp only; (repeat' split) <;> simp
@[simp] theorem declineBody_record (r : RecordId) : (declineBody p s).record r = s.record r := by
  unfold declineBody; dsimp only; (repeat' split) <;> simp
@[simp] theorem declineBody_writer (q : PortId) : (declineBody p s).writer q = s.writer q := by
  unfold declineBody; dsimp only; (repeat' split) <;> simp
@[simp] theorem declineBody_flushOwed (q : PortId) : ((declineBody p s).port q).flushOwed = (s.port q).flushOwed := by
  unfold declineBody; dsimp only; (repeat' split) <;> simp
@[simp] theorem declineBody_requeueOwed (q : PortId) : ((declineBody p s).port q).requeueOwed = (s.port q).requeueOwed := by
  unfold declineBody; dsimp only; (repeat' split) <;> simp

end declineBody

section State.producerClose

variable (s : State) (c : ChannelId) (u : Use)

@[simp] theorem State.producerClose_pending : (s.producerClose c u).pending = s.pending := by
  unfold State.producerClose; (repeat' split) <;> simp
@[simp] theorem State.producerClose_resetPin : (s.producerClose c u).resetPin = s.resetPin := by
  unfold State.producerClose; (repeat' split) <;> simp
@[simp] theorem State.producerClose_roundRobin : (s.producerClose c u).roundRobin = s.roundRobin := by
  unfold State.producerClose; (repeat' split) <;> simp
@[simp] theorem State.producerClose_onTick : (s.producerClose c u).onTick = s.onTick := by
  unfold State.producerClose; (repeat' split) <;> simp
@[simp] theorem State.producerClose_freeIndex : (s.producerClose c u).freeIndex = s.freeIndex := by
  unfold State.producerClose; (repeat' split) <;> simp
@[simp] theorem State.producerClose_pool : (s.producerClose c u).pool = s.pool := by
  unfold State.producerClose; (repeat' split) <;> simp
@[simp] theorem State.producerClose_holdOwed : (s.producerClose c u).holdOwed = s.holdOwed := by
  unfold State.producerClose; (repeat' split) <;> simp
@[simp] theorem State.producerClose_retestOwed : (s.producerClose c u).retestOwed = s.retestOwed := by
  unfold State.producerClose; (repeat' split) <;> simp
@[simp] theorem State.producerClose_record (r : RecordId) : (s.producerClose c u).record r = s.record r := by
  unfold State.producerClose; (repeat' split) <;> simp
@[simp] theorem State.producerClose_writer (q : PortId) : (s.producerClose c u).writer q = s.writer q := by
  unfold State.producerClose; (repeat' split) <;> simp
@[simp] theorem State.producerClose_flushOwed (q : PortId) : ((s.producerClose c u).port q).flushOwed = (s.port q).flushOwed := by
  unfold State.producerClose; (repeat' split) <;> simp
@[simp] theorem State.producerClose_requeueOwed (q : PortId) : ((s.producerClose c u).port q).requeueOwed = (s.port q).requeueOwed := by
  unfold State.producerClose; (repeat' split) <;> simp
@[simp] theorem State.producerClose_piu (q : PortId) : (s.producerClose c u).piu q = s.piu q := by
  unfold State.producerClose; (repeat' split) <;> simp

end State.producerClose

section State.tellPeerClosed

variable (s : State) (c : ChannelId) (u : Use) (ending : Bool)

@[simp] theorem State.tellPeerClosed_pending : (s.tellPeerClosed c u ending).pending = s.pending := by simp [State.tellPeerClosed]
@[simp] theorem State.tellPeerClosed_resetPin : (s.tellPeerClosed c u ending).resetPin = s.resetPin := by simp [State.tellPeerClosed]
@[simp] theorem State.tellPeerClosed_roundRobin : (s.tellPeerClosed c u ending).roundRobin = s.roundRobin := by simp [State.tellPeerClosed]
@[simp] theorem State.tellPeerClosed_onTick : (s.tellPeerClosed c u ending).onTick = s.onTick := by simp [State.tellPeerClosed]
@[simp] theorem State.tellPeerClosed_freeIndex : (s.tellPeerClosed c u ending).freeIndex = s.freeIndex := by simp [State.tellPeerClosed]
@[simp] theorem State.tellPeerClosed_pool : (s.tellPeerClosed c u ending).pool = s.pool := by simp [State.tellPeerClosed]
@[simp] theorem State.tellPeerClosed_holdOwed : (s.tellPeerClosed c u ending).holdOwed = s.holdOwed := by simp [State.tellPeerClosed]
@[simp] theorem State.tellPeerClosed_retestOwed : (s.tellPeerClosed c u ending).retestOwed = s.retestOwed := by simp [State.tellPeerClosed]
@[simp] theorem State.tellPeerClosed_record (r : RecordId) : (s.tellPeerClosed c u ending).record r = s.record r := by simp [State.tellPeerClosed]
@[simp] theorem State.tellPeerClosed_writer (q : PortId) : (s.tellPeerClosed c u ending).writer q = s.writer q := by simp [State.tellPeerClosed]
@[simp] theorem State.tellPeerClosed_flushOwed (q : PortId) : ((s.tellPeerClosed c u ending).port q).flushOwed = (s.port q).flushOwed := by simp [State.tellPeerClosed]
@[simp] theorem State.tellPeerClosed_requeueOwed (q : PortId) : ((s.tellPeerClosed c u ending).port q).requeueOwed = (s.port q).requeueOwed := by simp [State.tellPeerClosed]
@[simp] theorem State.tellPeerClosed_piu (q : PortId) : (s.tellPeerClosed c u ending).piu q = s.piu q := by simp [State.tellPeerClosed]
@[simp] theorem State.tellPeerClosed_entry (d : ChannelId) : (s.tellPeerClosed c u ending).entry d = s.entry d := by simp [State.tellPeerClosed]
@[simp] theorem State.tellPeerClosed_use (d : ChannelId) : (s.tellPeerClosed c u ending).use d = s.use d := by simp [State.tellPeerClosed]
@[simp] theorem State.tellPeerClosed_entries : (s.tellPeerClosed c u ending).entries = s.entries := by simp [State.tellPeerClosed]

end State.tellPeerClosed

section State.consumerClose

variable (s : State) (c : ChannelId) (u : Use)

@[simp] theorem State.consumerClose_pending : (s.consumerClose c u).pending = s.pending := by
  unfold State.consumerClose; (repeat' split) <;> simp
@[simp] theorem State.consumerClose_resetPin : (s.consumerClose c u).resetPin = s.resetPin := by
  unfold State.consumerClose; (repeat' split) <;> simp
@[simp] theorem State.consumerClose_roundRobin : (s.consumerClose c u).roundRobin = s.roundRobin := by
  unfold State.consumerClose; (repeat' split) <;> simp
@[simp] theorem State.consumerClose_onTick : (s.consumerClose c u).onTick = s.onTick := by
  unfold State.consumerClose; (repeat' split) <;> simp
@[simp] theorem State.consumerClose_freeIndex : (s.consumerClose c u).freeIndex = s.freeIndex := by
  unfold State.consumerClose; (repeat' split) <;> simp
@[simp] theorem State.consumerClose_piu (q : PortId) : (s.consumerClose c u).piu q = s.piu q := by
  unfold State.consumerClose; (repeat' split) <;> simp
@[simp] theorem State.consumerClose_writer (q : PortId) : (s.consumerClose c u).writer q = s.writer q := by
  unfold State.consumerClose; (repeat' split) <;> simp
@[simp] theorem State.consumerClose_flushOwed (q : PortId) : ((s.consumerClose c u).port q).flushOwed = (s.port q).flushOwed := by
  unfold State.consumerClose; (repeat' split) <;> simp
@[simp] theorem State.consumerClose_requeueOwed (q : PortId) : ((s.consumerClose c u).port q).requeueOwed = (s.port q).requeueOwed := by
  unfold State.consumerClose; (repeat' split) <;> simp

end State.consumerClose

section State.finishClose

variable (s : State) (p : PortId) (c : ChannelId)

@[simp] theorem State.finishClose_pending : (s.finishClose p c).pending = s.pending := by simp [State.finishClose]
@[simp] theorem State.finishClose_resetPin : (s.finishClose p c).resetPin = s.resetPin := by simp [State.finishClose]
@[simp] theorem State.finishClose_roundRobin : (s.finishClose p c).roundRobin = s.roundRobin := by simp [State.finishClose]
@[simp] theorem State.finishClose_onTick : (s.finishClose p c).onTick = s.onTick := by simp [State.finishClose]
@[simp] theorem State.finishClose_freeIndex : (s.finishClose p c).freeIndex = s.freeIndex := by simp [State.finishClose]
@[simp] theorem State.finishClose_pool : (s.finishClose p c).pool = s.pool := by simp [State.finishClose]
@[simp] theorem State.finishClose_holdOwed : (s.finishClose p c).holdOwed = s.holdOwed := by simp [State.finishClose]
@[simp] theorem State.finishClose_retestOwed : (s.finishClose p c).retestOwed = s.retestOwed := by simp [State.finishClose]
@[simp] theorem State.finishClose_record (r : RecordId) : (s.finishClose p c).record r = s.record r := by simp [State.finishClose]
@[simp] theorem State.finishClose_writer (q : PortId) : (s.finishClose p c).writer q = s.writer q := by simp [State.finishClose]
@[simp] theorem State.finishClose_flushOwed (q : PortId) : ((s.finishClose p c).port q).flushOwed = (s.port q).flushOwed := by simp [State.finishClose]
@[simp] theorem State.finishClose_requeueOwed (q : PortId) : ((s.finishClose p c).port q).requeueOwed = (s.port q).requeueOwed := by simp [State.finishClose]
@[simp] theorem State.finishClose_entries : (s.finishClose p c).entries = s.entries := by simp [State.finishClose]
@[simp] theorem State.finishClose_entry (d : ChannelId) : (s.finishClose p c).entry d = s.entry d := by simp [State.finishClose]
@[simp] theorem State.finishClose_use (d : ChannelId) : (s.finishClose p c).use d = s.use d := by simp [State.finishClose]

end State.finishClose

section closeByParty

variable (s : State) (p : PortId) (c : ChannelId) (u : Use)

@[simp] theorem closeByParty_pending : (closeByParty s p c u).pending = s.pending := by
  unfold closeByParty; (repeat' split) <;> simp
@[simp] theorem closeByParty_resetPin : (closeByParty s p c u).resetPin = s.resetPin := by
  unfold closeByParty; (repeat' split) <;> simp
@[simp] theorem closeByParty_roundRobin : (closeByParty s p c u).roundRobin = s.roundRobin := by
  unfold closeByParty; (repeat' split) <;> simp
@[simp] theorem closeByParty_onTick : (closeByParty s p c u).onTick = s.onTick := by
  unfold closeByParty; (repeat' split) <;> simp
@[simp] theorem closeByParty_freeIndex : (closeByParty s p c u).freeIndex = s.freeIndex := by
  unfold closeByParty; (repeat' split) <;> simp
@[simp] theorem closeByParty_writer (q : PortId) : (closeByParty s p c u).writer q = s.writer q := by
  unfold closeByParty; (repeat' split) <;> simp
@[simp] theorem closeByParty_flushOwed (q : PortId) : ((closeByParty s p c u).port q).flushOwed = (s.port q).flushOwed := by
  unfold closeByParty; (repeat' split) <;> simp
@[simp] theorem closeByParty_requeueOwed (q : PortId) : ((closeByParty s p c u).port q).requeueOwed = (s.port q).requeueOwed := by
  unfold closeByParty; (repeat' split) <;> simp

end closeByParty

section closeBody

variable (s : State) (p : PortId)

@[simp] theorem closeBody_pending : (closeBody p s).pending = s.pending := by
  unfold closeBody; dsimp only; (repeat' split) <;> simp
@[simp] theorem closeBody_resetPin : (closeBody p s).resetPin = s.resetPin := by
  unfold closeBody; dsimp only; (repeat' split) <;> simp
@[simp] theorem closeBody_roundRobin : (closeBody p s).roundRobin = s.roundRobin := by
  unfold closeBody; dsimp only; (repeat' split) <;> simp
@[simp] theorem closeBody_onTick : (closeBody p s).onTick = s.onTick := by
  unfold closeBody; dsimp only; (repeat' split) <;> simp
@[simp] theorem closeBody_freeIndex : (closeBody p s).freeIndex = s.freeIndex := by
  unfold closeBody; dsimp only; (repeat' split) <;> simp
@[simp] theorem closeBody_writer (q : PortId) : (closeBody p s).writer q = s.writer q := by
  unfold closeBody; dsimp only; (repeat' split) <;> simp
@[simp] theorem closeBody_flushOwed (q : PortId) : ((closeBody p s).port q).flushOwed = (s.port q).flushOwed := by
  unfold closeBody; dsimp only; (repeat' split) <;> simp
@[simp] theorem closeBody_requeueOwed (q : PortId) : ((closeBody p s).port q).requeueOwed = (s.port q).requeueOwed := by
  unfold closeBody; dsimp only; (repeat' split) <;> simp

end closeBody

section State.composeWrite

variable (s : State) (p : PortId) (k : Fin 256) (w : Word)

@[simp] theorem State.composeWrite_pending : (s.composeWrite p k w).pending = s.pending := by
  unfold State.composeWrite; (repeat' split) <;> simp
@[simp] theorem State.composeWrite_resetPin : (s.composeWrite p k w).resetPin = s.resetPin := by
  unfold State.composeWrite; (repeat' split) <;> simp
@[simp] theorem State.composeWrite_roundRobin : (s.composeWrite p k w).roundRobin = s.roundRobin := by
  unfold State.composeWrite; (repeat' split) <;> simp
@[simp] theorem State.composeWrite_onTick : (s.composeWrite p k w).onTick = s.onTick := by
  unfold State.composeWrite; (repeat' split) <;> simp
@[simp] theorem State.composeWrite_freeIndex : (s.composeWrite p k w).freeIndex = s.freeIndex := by
  unfold State.composeWrite; (repeat' split) <;> simp
@[simp] theorem State.composeWrite_pool : (s.composeWrite p k w).pool = s.pool := by
  unfold State.composeWrite; (repeat' split) <;> simp
@[simp] theorem State.composeWrite_holdOwed : (s.composeWrite p k w).holdOwed = s.holdOwed := by
  unfold State.composeWrite; (repeat' split) <;> simp
@[simp] theorem State.composeWrite_retestOwed : (s.composeWrite p k w).retestOwed = s.retestOwed := by
  unfold State.composeWrite; (repeat' split) <;> simp
@[simp] theorem State.composeWrite_record (r : RecordId) : (s.composeWrite p k w).record r = s.record r := by
  unfold State.composeWrite; (repeat' split) <;> simp
@[simp] theorem State.composeWrite_writer (q : PortId) : (s.composeWrite p k w).writer q = s.writer q := by
  unfold State.composeWrite; (repeat' split) <;> simp
@[simp] theorem State.composeWrite_flushOwed (q : PortId) : ((s.composeWrite p k w).port q).flushOwed = (s.port q).flushOwed := by
  unfold State.composeWrite; (repeat' split) <;> simp
@[simp] theorem State.composeWrite_requeueOwed (q : PortId) : ((s.composeWrite p k w).port q).requeueOwed = (s.port q).requeueOwed := by
  unfold State.composeWrite; (repeat' split) <;> simp
@[simp] theorem State.composeWrite_entries : (s.composeWrite p k w).entries = s.entries := by
  unfold State.composeWrite; (repeat' split) <;> simp
@[simp] theorem State.composeWrite_entry (d : ChannelId) : (s.composeWrite p k w).entry d = s.entry d := by
  unfold State.composeWrite; (repeat' split) <;> simp
@[simp] theorem State.composeWrite_use (d : ChannelId) : (s.composeWrite p k w).use d = s.use d := by
  unfold State.composeWrite; (repeat' split) <;> simp
@[simp] theorem State.composeWrite_nu (q : PortId) : (s.composeWrite p k w).nu q = s.nu q := by
  unfold State.composeWrite; (repeat' split) <;> simp

end State.composeWrite

section postRefused

variable (s : State) (p : PortId) (c : ChannelId) (st : Status)

@[simp] theorem postRefused_pending : (postRefused s p c st).pending = s.pending := by simp [postRefused]
@[simp] theorem postRefused_resetPin : (postRefused s p c st).resetPin = s.resetPin := by simp [postRefused]
@[simp] theorem postRefused_roundRobin : (postRefused s p c st).roundRobin = s.roundRobin := by simp [postRefused]
@[simp] theorem postRefused_onTick : (postRefused s p c st).onTick = s.onTick := by simp [postRefused]
@[simp] theorem postRefused_freeIndex : (postRefused s p c st).freeIndex = s.freeIndex := by simp [postRefused]
@[simp] theorem postRefused_pool : (postRefused s p c st).pool = s.pool := by simp [postRefused]
@[simp] theorem postRefused_holdOwed : (postRefused s p c st).holdOwed = s.holdOwed := by simp [postRefused]
@[simp] theorem postRefused_retestOwed : (postRefused s p c st).retestOwed = s.retestOwed := by simp [postRefused]
@[simp] theorem postRefused_record (r : RecordId) : (postRefused s p c st).record r = s.record r := by simp [postRefused]
@[simp] theorem postRefused_writer (q : PortId) : (postRefused s p c st).writer q = s.writer q := by simp [postRefused]
@[simp] theorem postRefused_flushOwed (q : PortId) : ((postRefused s p c st).port q).flushOwed = (s.port q).flushOwed := by simp [postRefused]
@[simp] theorem postRefused_requeueOwed (q : PortId) : ((postRefused s p c st).port q).requeueOwed = (s.port q).requeueOwed := by simp [postRefused]
@[simp] theorem postRefused_use (d : ChannelId) : (postRefused s p c st).use d = s.use d := by simp [postRefused]

end postRefused

section postAccept

variable (s : State) (p : PortId) (c : ChannelId) (r : RecordId) (pool : Pool)

@[simp] theorem postAccept_pending : (postAccept s p c r pool).pending = s.pending := by simp [postAccept]
@[simp] theorem postAccept_resetPin : (postAccept s p c r pool).resetPin = s.resetPin := by simp [postAccept]
@[simp] theorem postAccept_roundRobin : (postAccept s p c r pool).roundRobin = s.roundRobin := by simp [postAccept]
@[simp] theorem postAccept_onTick : (postAccept s p c r pool).onTick = s.onTick := by simp [postAccept]
@[simp] theorem postAccept_freeIndex : (postAccept s p c r pool).freeIndex = s.freeIndex := by simp [postAccept]
@[simp] theorem postAccept_writer (q : PortId) : (postAccept s p c r pool).writer q = s.writer q := by simp [postAccept]
@[simp] theorem postAccept_flushOwed (q : PortId) : ((postAccept s p c r pool).port q).flushOwed = (s.port q).flushOwed := by simp [postAccept]
@[simp] theorem postAccept_requeueOwed (q : PortId) : ((postAccept s p c r pool).port q).requeueOwed = (s.port q).requeueOwed := by simp [postAccept]

end postAccept

section postBody

variable (s : State) (p : PortId)

@[simp] theorem postBody_pending : (postBody p s).pending = s.pending := by
  unfold postBody; dsimp only; (repeat' split) <;> simp
@[simp] theorem postBody_resetPin : (postBody p s).resetPin = s.resetPin := by
  unfold postBody; dsimp only; (repeat' split) <;> simp
@[simp] theorem postBody_roundRobin : (postBody p s).roundRobin = s.roundRobin := by
  unfold postBody; dsimp only; (repeat' split) <;> simp
@[simp] theorem postBody_onTick : (postBody p s).onTick = s.onTick := by
  unfold postBody; dsimp only; (repeat' split) <;> simp
@[simp] theorem postBody_freeIndex : (postBody p s).freeIndex = s.freeIndex := by
  unfold postBody; dsimp only; (repeat' split) <;> simp
@[simp] theorem postBody_writer (q : PortId) : (postBody p s).writer q = s.writer q := by
  unfold postBody; dsimp only; (repeat' split) <;> simp
@[simp] theorem postBody_flushOwed (q : PortId) : ((postBody p s).port q).flushOwed = (s.port q).flushOwed := by
  unfold postBody; dsimp only; (repeat' split) <;> simp
@[simp] theorem postBody_requeueOwed (q : PortId) : ((postBody p s).port q).requeueOwed = (s.port q).requeueOwed := by
  unfold postBody; dsimp only; (repeat' split) <;> simp

end postBody

section State.copyPayload

variable (s : State) (p : PortId) (rec : Record) (n : Nat)

@[simp] theorem State.copyPayload_pending : (s.copyPayload p rec n).pending = s.pending := rfl
@[simp] theorem State.copyPayload_resetPin : (s.copyPayload p rec n).resetPin = s.resetPin := rfl
@[simp] theorem State.copyPayload_roundRobin : (s.copyPayload p rec n).roundRobin = s.roundRobin := rfl
@[simp] theorem State.copyPayload_onTick : (s.copyPayload p rec n).onTick = s.onTick := rfl
@[simp] theorem State.copyPayload_freeIndex : (s.copyPayload p rec n).freeIndex = s.freeIndex := rfl
@[simp] theorem State.copyPayload_holdOwed : (s.copyPayload p rec n).holdOwed = s.holdOwed := rfl
@[simp] theorem State.copyPayload_retestOwed : (s.copyPayload p rec n).retestOwed = s.retestOwed := rfl
@[simp] theorem State.copyPayload_record (r : RecordId) : (s.copyPayload p rec n).record r = s.record r := rfl
@[simp] theorem State.copyPayload_entries : (s.copyPayload p rec n).entries = s.entries := rfl
@[simp] theorem State.copyPayload_entry (d : ChannelId) : (s.copyPayload p rec n).entry d = s.entry d := rfl
@[simp] theorem State.copyPayload_use (d : ChannelId) : (s.copyPayload p rec n).use d = s.use d := rfl
@[simp] theorem State.copyPayload_ports : (s.copyPayload p rec n).ports = s.ports := rfl
@[simp] theorem State.copyPayload_piu (q : PortId) : (s.copyPayload p rec n).piu q = s.piu q := rfl
@[simp] theorem State.copyPayload_writer (q : PortId) : (s.copyPayload p rec n).writer q = s.writer q := rfl
@[simp] theorem State.copyPayload_nu (q : PortId) : (s.copyPayload p rec n).nu q = s.nu q := rfl
@[simp] theorem State.copyPayload_flushOwed (q : PortId) : ((s.copyPayload p rec n).port q).flushOwed = (s.port q).flushOwed := rfl
@[simp] theorem State.copyPayload_requeueOwed (q : PortId) : ((s.copyPayload p rec n).port q).requeueOwed = (s.port q).requeueOwed := rfl

end State.copyPayload

section State.dropFill

variable (s : State) (c : ChannelId) (r : RecordId)

@[simp] theorem State.dropFill_pending : (s.dropFill c r).pending = s.pending := by simp [State.dropFill]
@[simp] theorem State.dropFill_resetPin : (s.dropFill c r).resetPin = s.resetPin := by simp [State.dropFill]
@[simp] theorem State.dropFill_roundRobin : (s.dropFill c r).roundRobin = s.roundRobin := by simp [State.dropFill]
@[simp] theorem State.dropFill_onTick : (s.dropFill c r).onTick = s.onTick := by simp [State.dropFill]
@[simp] theorem State.dropFill_freeIndex : (s.dropFill c r).freeIndex = s.freeIndex := by simp [State.dropFill]
@[simp] theorem State.dropFill_piu (q : PortId) : (s.dropFill c r).piu q = s.piu q := by simp [State.dropFill]
@[simp] theorem State.dropFill_writer (q : PortId) : (s.dropFill c r).writer q = s.writer q := by simp [State.dropFill]
@[simp] theorem State.dropFill_nu (q : PortId) : (s.dropFill c r).nu q = s.nu q := by simp [State.dropFill]
@[simp] theorem State.dropFill_flushOwed (q : PortId) : ((s.dropFill c r).port q).flushOwed = (s.port q).flushOwed := by simp [State.dropFill]
@[simp] theorem State.dropFill_requeueOwed (q : PortId) : ((s.dropFill c r).port q).requeueOwed = (s.port q).requeueOwed := by simp [State.dropFill]

end State.dropFill

section State.dropLanding

variable (s : State) (c : ChannelId) (r : RecordId)

@[simp] theorem State.dropLanding_pending : (s.dropLanding c r).pending = s.pending := by simp [State.dropLanding]
@[simp] theorem State.dropLanding_resetPin : (s.dropLanding c r).resetPin = s.resetPin := by simp [State.dropLanding]
@[simp] theorem State.dropLanding_roundRobin : (s.dropLanding c r).roundRobin = s.roundRobin := by simp [State.dropLanding]
@[simp] theorem State.dropLanding_onTick : (s.dropLanding c r).onTick = s.onTick := by simp [State.dropLanding]
@[simp] theorem State.dropLanding_freeIndex : (s.dropLanding c r).freeIndex = s.freeIndex := by simp [State.dropLanding]
@[simp] theorem State.dropLanding_piu (q : PortId) : (s.dropLanding c r).piu q = s.piu q := by simp [State.dropLanding]
@[simp] theorem State.dropLanding_writer (q : PortId) : (s.dropLanding c r).writer q = s.writer q := by simp [State.dropLanding]
@[simp] theorem State.dropLanding_nu (q : PortId) : (s.dropLanding c r).nu q = s.nu q := by simp [State.dropLanding]
@[simp] theorem State.dropLanding_flushOwed (q : PortId) : ((s.dropLanding c r).port q).flushOwed = (s.port q).flushOwed := by simp [State.dropLanding]
@[simp] theorem State.dropLanding_requeueOwed (q : PortId) : ((s.dropLanding c r).port q).requeueOwed = (s.port q).requeueOwed := by simp [State.dropLanding]

end State.dropLanding

section State.completeCopy

variable (s : State) (p : PortId) (r : RecordId) (rec : Record)

@[simp] theorem State.completeCopy_pending : (s.completeCopy p r rec).pending = s.pending := by
  unfold State.completeCopy; dsimp only; (repeat' split) <;> simp
@[simp] theorem State.completeCopy_resetPin : (s.completeCopy p r rec).resetPin = s.resetPin := by
  unfold State.completeCopy; dsimp only; (repeat' split) <;> simp
@[simp] theorem State.completeCopy_roundRobin : (s.completeCopy p r rec).roundRobin = s.roundRobin := by
  unfold State.completeCopy; dsimp only; (repeat' split) <;> simp
@[simp] theorem State.completeCopy_onTick : (s.completeCopy p r rec).onTick = s.onTick := by
  unfold State.completeCopy; dsimp only; (repeat' split) <;> simp
@[simp] theorem State.completeCopy_freeIndex : (s.completeCopy p r rec).freeIndex = s.freeIndex := by
  unfold State.completeCopy; dsimp only; (repeat' split) <;> simp
@[simp] theorem State.completeCopy_writer (q : PortId) : (s.completeCopy p r rec).writer q = s.writer q := by
  unfold State.completeCopy; dsimp only; (repeat' split) <;> simp
@[simp] theorem State.completeCopy_flushOwed (q : PortId) : ((s.completeCopy p r rec).port q).flushOwed = (s.port q).flushOwed := by
  unfold State.completeCopy; dsimp only; (repeat' split) <;> simp
@[simp] theorem State.completeCopy_requeueOwed (q : PortId) : ((s.completeCopy p r rec).port q).requeueOwed = (s.port q).requeueOwed := by
  unfold State.completeCopy; dsimp only; (repeat' split) <;> simp

end State.completeCopy

section State.abandonCopy

variable (s : State) (p : PortId)

@[simp] theorem State.abandonCopy_pending : (s.abandonCopy p).pending = s.pending := by
  unfold State.abandonCopy; dsimp only; (repeat' split) <;> simp
@[simp] theorem State.abandonCopy_resetPin : (s.abandonCopy p).resetPin = s.resetPin := by
  unfold State.abandonCopy; dsimp only; (repeat' split) <;> simp
@[simp] theorem State.abandonCopy_roundRobin : (s.abandonCopy p).roundRobin = s.roundRobin := by
  unfold State.abandonCopy; dsimp only; (repeat' split) <;> simp
@[simp] theorem State.abandonCopy_onTick : (s.abandonCopy p).onTick = s.onTick := by
  unfold State.abandonCopy; dsimp only; (repeat' split) <;> simp
@[simp] theorem State.abandonCopy_writer (q : PortId) : (s.abandonCopy p).writer q = s.writer q := by
  unfold State.abandonCopy; dsimp only; (repeat' split) <;> simp
@[simp] theorem State.abandonCopy_flushOwed (q : PortId) : ((s.abandonCopy p).port q).flushOwed = (s.port q).flushOwed := by
  unfold State.abandonCopy; dsimp only; (repeat' split) <;> simp
@[simp] theorem State.abandonCopy_requeueOwed (q : PortId) : ((s.abandonCopy p).port q).requeueOwed = (s.port q).requeueOwed := by
  unfold State.abandonCopy; dsimp only; (repeat' split) <;> simp

end State.abandonCopy

section State.departAttached

variable (s : State) (p : PortId) (next : PortState)

@[simp] theorem State.departAttached_pending : (s.departAttached p next).pending = s.pending := by simp [State.departAttached]
@[simp] theorem State.departAttached_resetPin : (s.departAttached p next).resetPin = s.resetPin := by simp [State.departAttached]
@[simp] theorem State.departAttached_roundRobin : (s.departAttached p next).roundRobin = s.roundRobin := by simp [State.departAttached]
@[simp] theorem State.departAttached_onTick : (s.departAttached p next).onTick = s.onTick := by simp [State.departAttached]
@[simp] theorem State.departAttached_freeIndex : (s.departAttached p next).freeIndex = s.freeIndex := by simp [State.departAttached]
@[simp] theorem State.departAttached_pool : (s.departAttached p next).pool = s.pool := by simp [State.departAttached]
@[simp] theorem State.departAttached_holdOwed : (s.departAttached p next).holdOwed = s.holdOwed := by simp [State.departAttached]
@[simp] theorem State.departAttached_retestOwed : (s.departAttached p next).retestOwed = s.retestOwed := by simp [State.departAttached]
@[simp] theorem State.departAttached_record (r : RecordId) : (s.departAttached p next).record r = s.record r := by simp [State.departAttached]
@[simp] theorem State.departAttached_entries : (s.departAttached p next).entries = s.entries := by simp [State.departAttached]
@[simp] theorem State.departAttached_entry (d : ChannelId) : (s.departAttached p next).entry d = s.entry d := by simp [State.departAttached]
@[simp] theorem State.departAttached_use (d : ChannelId) : (s.departAttached p next).use d = s.use d := by simp [State.departAttached]
@[simp] theorem State.departAttached_flushOwed (q : PortId) : ((s.departAttached p next).port q).flushOwed = (s.port q).flushOwed := by simp [State.departAttached]
@[simp] theorem State.departAttached_requeueOwed (q : PortId) : ((s.departAttached p next).port q).requeueOwed = (s.port q).requeueOwed := by simp [State.departAttached]

end State.departAttached

section State.oweDetachment

variable (s : State) (p : PortId) (mode : DetachMode)

@[simp] theorem State.oweDetachment_pending : (s.oweDetachment p mode).pending = s.pending := by
  unfold State.oweDetachment; (repeat' split) <;> simp
@[simp] theorem State.oweDetachment_resetPin : (s.oweDetachment p mode).resetPin = s.resetPin := by
  unfold State.oweDetachment; (repeat' split) <;> simp
@[simp] theorem State.oweDetachment_roundRobin : (s.oweDetachment p mode).roundRobin = s.roundRobin := by
  unfold State.oweDetachment; (repeat' split) <;> simp
@[simp] theorem State.oweDetachment_onTick : (s.oweDetachment p mode).onTick = s.onTick := by
  unfold State.oweDetachment; (repeat' split) <;> simp
@[simp] theorem State.oweDetachment_freeIndex : (s.oweDetachment p mode).freeIndex = s.freeIndex := by
  unfold State.oweDetachment; (repeat' split) <;> simp
@[simp] theorem State.oweDetachment_pool : (s.oweDetachment p mode).pool = s.pool := by
  unfold State.oweDetachment; (repeat' split) <;> simp
@[simp] theorem State.oweDetachment_holdOwed : (s.oweDetachment p mode).holdOwed = s.holdOwed := by
  unfold State.oweDetachment; (repeat' split) <;> simp
@[simp] theorem State.oweDetachment_retestOwed : (s.oweDetachment p mode).retestOwed = s.retestOwed := by
  unfold State.oweDetachment; (repeat' split) <;> simp
@[simp] theorem State.oweDetachment_record (r : RecordId) : (s.oweDetachment p mode).record r = s.record r := by
  unfold State.oweDetachment; (repeat' split) <;> simp
@[simp] theorem State.oweDetachment_entries : (s.oweDetachment p mode).entries = s.entries := by
  unfold State.oweDetachment; (repeat' split) <;> simp
@[simp] theorem State.oweDetachment_entry (d : ChannelId) : (s.oweDetachment p mode).entry d = s.entry d := by
  unfold State.oweDetachment; (repeat' split) <;> simp
@[simp] theorem State.oweDetachment_use (d : ChannelId) : (s.oweDetachment p mode).use d = s.use d := by
  unfold State.oweDetachment; (repeat' split) <;> simp

end State.oweDetachment

@[simp] theorem State.oweDetachment_piu (s : State) (p q : PortId) (mode : DetachMode) : (s.oweDetachment p mode).piu q = s.piu q := by
  unfold State.oweDetachment; cases mode <;> by_cases h : q = p <;> simp [State.piu, h]
@[simp] theorem State.oweDetachment_writer (s : State) (p q : PortId) (mode : DetachMode) : (s.oweDetachment p mode).writer q = s.writer q := by
  unfold State.oweDetachment; cases mode <;> by_cases h : q = p <;> simp [State.writer, h]
@[simp] theorem State.oweDetachment_nu (s : State) (p q : PortId) (mode : DetachMode) : (s.oweDetachment p mode).nu q = s.nu q := by
  unfold State.oweDetachment; cases mode <;> by_cases h : q = p <;> simp [State.nu, h]

section State.finishDetach

variable (s : State) (p : PortId)

@[simp] theorem State.finishDetach_pending : (s.finishDetach p).pending = s.pending := by
  unfold State.finishDetach; (repeat' split) <;> simp
@[simp] theorem State.finishDetach_resetPin : (s.finishDetach p).resetPin = s.resetPin := by
  unfold State.finishDetach; (repeat' split) <;> simp
@[simp] theorem State.finishDetach_roundRobin : (s.finishDetach p).roundRobin = s.roundRobin := by
  unfold State.finishDetach; (repeat' split) <;> simp
@[simp] theorem State.finishDetach_onTick : (s.finishDetach p).onTick = s.onTick := by
  unfold State.finishDetach; (repeat' split) <;> simp
@[simp] theorem State.finishDetach_freeIndex : (s.finishDetach p).freeIndex = s.freeIndex := by
  unfold State.finishDetach; (repeat' split) <;> simp
@[simp] theorem State.finishDetach_pool : (s.finishDetach p).pool = s.pool := by
  unfold State.finishDetach; (repeat' split) <;> simp
@[simp] theorem State.finishDetach_holdOwed : (s.finishDetach p).holdOwed = s.holdOwed := by
  unfold State.finishDetach; (repeat' split) <;> simp
@[simp] theorem State.finishDetach_retestOwed : (s.finishDetach p).retestOwed = s.retestOwed := by
  unfold State.finishDetach; (repeat' split) <;> simp
@[simp] theorem State.finishDetach_record (r : RecordId) : (s.finishDetach p).record r = s.record r := by
  unfold State.finishDetach; (repeat' split) <;> simp
@[simp] theorem State.finishDetach_entries : (s.finishDetach p).entries = s.entries := by
  unfold State.finishDetach; (repeat' split) <;> simp
@[simp] theorem State.finishDetach_entry (d : ChannelId) : (s.finishDetach p).entry d = s.entry d := by
  unfold State.finishDetach; (repeat' split) <;> simp
@[simp] theorem State.finishDetach_use (d : ChannelId) : (s.finishDetach p).use d = s.use d := by
  unfold State.finishDetach; (repeat' split) <;> simp
@[simp] theorem State.finishDetach_writer (q : PortId) : (s.finishDetach p).writer q = s.writer q := by
  unfold State.finishDetach; (repeat' split) <;> simp
@[simp] theorem State.finishDetach_flushOwed (q : PortId) : ((s.finishDetach p).port q).flushOwed = (s.port q).flushOwed := by
  unfold State.finishDetach; (repeat' split) <;> simp
@[simp] theorem State.finishDetach_requeueOwed (q : PortId) : ((s.finishDetach p).port q).requeueOwed = (s.port q).requeueOwed := by
  unfold State.finishDetach; (repeat' split) <;> simp

end State.finishDetach

section State.quiesceEnd

variable (s : State) (p : PortId) (mode : DetachMode)

@[simp] theorem State.quiesceEnd_pending : (s.quiesceEnd p mode).pending = s.pending := by simp [State.quiesceEnd]
@[simp] theorem State.quiesceEnd_resetPin : (s.quiesceEnd p mode).resetPin = s.resetPin := by simp [State.quiesceEnd]
@[simp] theorem State.quiesceEnd_roundRobin : (s.quiesceEnd p mode).roundRobin = s.roundRobin := by simp [State.quiesceEnd]
@[simp] theorem State.quiesceEnd_onTick : (s.quiesceEnd p mode).onTick = s.onTick := by simp [State.quiesceEnd]
@[simp] theorem State.quiesceEnd_freeIndex : (s.quiesceEnd p mode).freeIndex = s.freeIndex := by simp [State.quiesceEnd]
@[simp] theorem State.quiesceEnd_pool : (s.quiesceEnd p mode).pool = s.pool := by simp [State.quiesceEnd]
@[simp] theorem State.quiesceEnd_holdOwed : (s.quiesceEnd p mode).holdOwed = s.holdOwed := by simp [State.quiesceEnd]
@[simp] theorem State.quiesceEnd_retestOwed : (s.quiesceEnd p mode).retestOwed = s.retestOwed := by simp [State.quiesceEnd]
@[simp] theorem State.quiesceEnd_record (r : RecordId) : (s.quiesceEnd p mode).record r = s.record r := by simp [State.quiesceEnd]
@[simp] theorem State.quiesceEnd_entries : (s.quiesceEnd p mode).entries = s.entries := by simp [State.quiesceEnd]
@[simp] theorem State.quiesceEnd_entry (d : ChannelId) : (s.quiesceEnd p mode).entry d = s.entry d := by simp [State.quiesceEnd]
@[simp] theorem State.quiesceEnd_use (d : ChannelId) : (s.quiesceEnd p mode).use d = s.use d := by simp [State.quiesceEnd]
@[simp] theorem State.quiesceEnd_writer (q : PortId) : (s.quiesceEnd p mode).writer q = s.writer q := by simp [State.quiesceEnd]

end State.quiesceEnd

section State.settle

variable (s : State) (p : PortId)

@[simp] theorem State.settle_pending : (s.settle p).pending = s.pending := by
  unfold State.settle; (repeat' split) <;> simp
@[simp] theorem State.settle_resetPin : (s.settle p).resetPin = s.resetPin := by
  unfold State.settle; (repeat' split) <;> simp
@[simp] theorem State.settle_roundRobin : (s.settle p).roundRobin = s.roundRobin := by
  unfold State.settle; (repeat' split) <;> simp
@[simp] theorem State.settle_onTick : (s.settle p).onTick = s.onTick := by
  unfold State.settle; (repeat' split) <;> simp
@[simp] theorem State.settle_freeIndex : (s.settle p).freeIndex = s.freeIndex := by
  unfold State.settle; (repeat' split) <;> simp
@[simp] theorem State.settle_pool : (s.settle p).pool = s.pool := by
  unfold State.settle; (repeat' split) <;> simp
@[simp] theorem State.settle_holdOwed : (s.settle p).holdOwed = s.holdOwed := by
  unfold State.settle; (repeat' split) <;> simp
@[simp] theorem State.settle_retestOwed : (s.settle p).retestOwed = s.retestOwed := by
  unfold State.settle; (repeat' split) <;> simp
@[simp] theorem State.settle_record (r : RecordId) : (s.settle p).record r = s.record r := by
  unfold State.settle; (repeat' split) <;> simp
@[simp] theorem State.settle_entries : (s.settle p).entries = s.entries := by
  unfold State.settle; (repeat' split) <;> simp
@[simp] theorem State.settle_entry (d : ChannelId) : (s.settle p).entry d = s.entry d := by
  unfold State.settle; (repeat' split) <;> simp
@[simp] theorem State.settle_use (d : ChannelId) : (s.settle p).use d = s.use d := by
  unfold State.settle; (repeat' split) <;> simp
@[simp] theorem State.settle_writer (q : PortId) : (s.settle p).writer q = s.writer q := by
  unfold State.settle; (repeat' split) <;> simp

end State.settle

section State.faultPort

variable (s : State) (p : PortId)

@[simp] theorem State.faultPort_pending : (s.faultPort p).pending = s.pending := by simp [State.faultPort]
@[simp] theorem State.faultPort_resetPin : (s.faultPort p).resetPin = s.resetPin := by simp [State.faultPort]
@[simp] theorem State.faultPort_roundRobin : (s.faultPort p).roundRobin = s.roundRobin := by simp [State.faultPort]
@[simp] theorem State.faultPort_onTick : (s.faultPort p).onTick = s.onTick := by simp [State.faultPort]
@[simp] theorem State.faultPort_freeIndex : (s.faultPort p).freeIndex = s.freeIndex := by simp [State.faultPort]
@[simp] theorem State.faultPort_pool : (s.faultPort p).pool = s.pool := by simp [State.faultPort]
@[simp] theorem State.faultPort_holdOwed : (s.faultPort p).holdOwed = s.holdOwed := by simp [State.faultPort]
@[simp] theorem State.faultPort_retestOwed : (s.faultPort p).retestOwed = s.retestOwed := by simp [State.faultPort]
@[simp] theorem State.faultPort_record (r : RecordId) : (s.faultPort p).record r = s.record r := by simp [State.faultPort]
@[simp] theorem State.faultPort_entries : (s.faultPort p).entries = s.entries := by simp [State.faultPort]
@[simp] theorem State.faultPort_entry (d : ChannelId) : (s.faultPort p).entry d = s.entry d := by simp [State.faultPort]
@[simp] theorem State.faultPort_use (d : ChannelId) : (s.faultPort p).use d = s.use d := by simp [State.faultPort]

end State.faultPort

/-- Changing only the requests a port's departure left on entries leaves the blocks of every port. -/
theorem State.modPort_blocks (s : State) (p q : PortId) (f : Port → Port)
    (h : ∀ b, (f b).piu = b.piu ∧ (f b).writer = b.writer ∧ (f b).nu = b.nu) :
    (s.modPort p f).piu q = s.piu q ∧ (s.modPort p f).writer q = s.writer q ∧ (s.modPort p f).nu q = s.nu q := by
  by_cases hq : q = p <;> simp [State.piu, State.writer, State.nu, hq, h]

section State.takeFault

variable (s : State) (p : PortId)

@[simp] theorem State.takeFault_pending : (s.takeFault p).pending = s.pending := by
  unfold State.takeFault; (repeat' split) <;> simp
@[simp] theorem State.takeFault_resetPin : (s.takeFault p).resetPin = s.resetPin := by
  unfold State.takeFault; (repeat' split) <;> simp
@[simp] theorem State.takeFault_roundRobin : (s.takeFault p).roundRobin = s.roundRobin := by
  unfold State.takeFault; (repeat' split) <;> simp
@[simp] theorem State.takeFault_onTick : (s.takeFault p).onTick = s.onTick := by
  unfold State.takeFault; (repeat' split) <;> simp
@[simp] theorem State.takeFault_freeIndex : (s.takeFault p).freeIndex = s.freeIndex := by
  unfold State.takeFault; (repeat' split) <;> simp
@[simp] theorem State.takeFault_pool : (s.takeFault p).pool = s.pool := by
  unfold State.takeFault; (repeat' split) <;> simp
@[simp] theorem State.takeFault_holdOwed : (s.takeFault p).holdOwed = s.holdOwed := by
  unfold State.takeFault; (repeat' split) <;> simp
@[simp] theorem State.takeFault_retestOwed : (s.takeFault p).retestOwed = s.retestOwed := by
  unfold State.takeFault; (repeat' split) <;> simp
@[simp] theorem State.takeFault_record (r : RecordId) : (s.takeFault p).record r = s.record r := by
  unfold State.takeFault; (repeat' split) <;> simp
@[simp] theorem State.takeFault_entries : (s.takeFault p).entries = s.entries := by
  unfold State.takeFault; (repeat' split) <;> simp
@[simp] theorem State.takeFault_entry (d : ChannelId) : (s.takeFault p).entry d = s.entry d := by
  unfold State.takeFault; (repeat' split) <;> simp
@[simp] theorem State.takeFault_use (d : ChannelId) : (s.takeFault p).use d = s.use d := by
  unfold State.takeFault; (repeat' split) <;> simp

end State.takeFault

section State.startJob

variable (s : State) (p : PortId) (kind : JobKind) (writes : List LinkWrite)

@[simp] theorem State.startJob_pending : (s.startJob p kind writes).pending = s.pending := by simp [State.startJob]
@[simp] theorem State.startJob_resetPin : (s.startJob p kind writes).resetPin = s.resetPin := by simp [State.startJob]
@[simp] theorem State.startJob_roundRobin : (s.startJob p kind writes).roundRobin = s.roundRobin := by simp [State.startJob]
@[simp] theorem State.startJob_onTick : (s.startJob p kind writes).onTick = s.onTick := by simp [State.startJob]
@[simp] theorem State.startJob_freeIndex : (s.startJob p kind writes).freeIndex = s.freeIndex := by simp [State.startJob]
@[simp] theorem State.startJob_pool : (s.startJob p kind writes).pool = s.pool := by simp [State.startJob]
@[simp] theorem State.startJob_holdOwed : (s.startJob p kind writes).holdOwed = s.holdOwed := by simp [State.startJob]
@[simp] theorem State.startJob_retestOwed : (s.startJob p kind writes).retestOwed = s.retestOwed := by simp [State.startJob]
@[simp] theorem State.startJob_record (r : RecordId) : (s.startJob p kind writes).record r = s.record r := by simp [State.startJob]
@[simp] theorem State.startJob_entries : (s.startJob p kind writes).entries = s.entries := by simp [State.startJob]
@[simp] theorem State.startJob_entry (d : ChannelId) : (s.startJob p kind writes).entry d = s.entry d := by simp [State.startJob]
@[simp] theorem State.startJob_use (d : ChannelId) : (s.startJob p kind writes).use d = s.use d := by simp [State.startJob]
@[simp] theorem State.startJob_piu (q : PortId) : (s.startJob p kind writes).piu q = s.piu q := by simp [State.startJob]
@[simp] theorem State.startJob_nu (q : PortId) : (s.startJob p kind writes).nu q = s.nu q := by simp [State.startJob]
@[simp] theorem State.startJob_flushOwed (q : PortId) : ((s.startJob p kind writes).port q).flushOwed = (s.port q).flushOwed := by simp [State.startJob]
@[simp] theorem State.startJob_requeueOwed (q : PortId) : ((s.startJob p kind writes).port q).requeueOwed = (s.port q).requeueOwed := by simp [State.startJob]

end State.startJob

section State.releaseWriter

variable (s : State) (p : PortId)

@[simp] theorem State.releaseWriter_pending : (s.releaseWriter p).pending = s.pending := by simp [State.releaseWriter]
@[simp] theorem State.releaseWriter_resetPin : (s.releaseWriter p).resetPin = s.resetPin := by simp [State.releaseWriter]
@[simp] theorem State.releaseWriter_roundRobin : (s.releaseWriter p).roundRobin = s.roundRobin := by simp [State.releaseWriter]
@[simp] theorem State.releaseWriter_onTick : (s.releaseWriter p).onTick = s.onTick := by simp [State.releaseWriter]
@[simp] theorem State.releaseWriter_freeIndex : (s.releaseWriter p).freeIndex = s.freeIndex := by simp [State.releaseWriter]
@[simp] theorem State.releaseWriter_pool : (s.releaseWriter p).pool = s.pool := by simp [State.releaseWriter]
@[simp] theorem State.releaseWriter_holdOwed : (s.releaseWriter p).holdOwed = s.holdOwed := by simp [State.releaseWriter]
@[simp] theorem State.releaseWriter_retestOwed : (s.releaseWriter p).retestOwed = s.retestOwed := by simp [State.releaseWriter]
@[simp] theorem State.releaseWriter_record (r : RecordId) : (s.releaseWriter p).record r = s.record r := by simp [State.releaseWriter]
@[simp] theorem State.releaseWriter_entries : (s.releaseWriter p).entries = s.entries := by simp [State.releaseWriter]
@[simp] theorem State.releaseWriter_entry (d : ChannelId) : (s.releaseWriter p).entry d = s.entry d := by simp [State.releaseWriter]
@[simp] theorem State.releaseWriter_use (d : ChannelId) : (s.releaseWriter p).use d = s.use d := by simp [State.releaseWriter]
@[simp] theorem State.releaseWriter_piu (q : PortId) : (s.releaseWriter p).piu q = s.piu q := by simp [State.releaseWriter]
@[simp] theorem State.releaseWriter_nu (q : PortId) : (s.releaseWriter p).nu q = s.nu q := by simp [State.releaseWriter]
@[simp] theorem State.releaseWriter_flushOwed (q : PortId) : ((s.releaseWriter p).port q).flushOwed = (s.port q).flushOwed := by simp [State.releaseWriter]
@[simp] theorem State.releaseWriter_requeueOwed (q : PortId) : ((s.releaseWriter p).port q).requeueOwed = (s.port q).requeueOwed := by simp [State.releaseWriter]

end State.releaseWriter

section State.landOn

variable (s : State) (r : RecordId) (rec : Record) (u : Use)

@[simp] theorem State.landOn_pending : (s.landOn r rec u).pending = s.pending := by
  unfold State.landOn; dsimp only; (repeat' split) <;> simp
@[simp] theorem State.landOn_resetPin : (s.landOn r rec u).resetPin = s.resetPin := by
  unfold State.landOn; dsimp only; (repeat' split) <;> simp
@[simp] theorem State.landOn_roundRobin : (s.landOn r rec u).roundRobin = s.roundRobin := by
  unfold State.landOn; dsimp only; (repeat' split) <;> simp
@[simp] theorem State.landOn_onTick : (s.landOn r rec u).onTick = s.onTick := by
  unfold State.landOn; dsimp only; (repeat' split) <;> simp
@[simp] theorem State.landOn_freeIndex : (s.landOn r rec u).freeIndex = s.freeIndex := by
  unfold State.landOn; dsimp only; (repeat' split) <;> simp
@[simp] theorem State.landOn_piu (q : PortId) : (s.landOn r rec u).piu q = s.piu q := by
  unfold State.landOn; dsimp only; (repeat' split) <;> simp
@[simp] theorem State.landOn_writer (q : PortId) : (s.landOn r rec u).writer q = s.writer q := by
  unfold State.landOn; dsimp only; (repeat' split) <;> simp
@[simp] theorem State.landOn_flushOwed (q : PortId) : ((s.landOn r rec u).port q).flushOwed = (s.port q).flushOwed := by
  unfold State.landOn; dsimp only; (repeat' split) <;> simp
@[simp] theorem State.landOn_requeueOwed (q : PortId) : ((s.landOn r rec u).port q).requeueOwed = (s.port q).requeueOwed := by
  unfold State.landOn; dsimp only; (repeat' split) <;> simp

end State.landOn

section State.completeLanding

variable (s : State) (r : RecordId)

@[simp] theorem State.completeLanding_pending : (s.completeLanding r).pending = s.pending := by
  unfold State.completeLanding; (repeat' split) <;> simp
@[simp] theorem State.completeLanding_resetPin : (s.completeLanding r).resetPin = s.resetPin := by
  unfold State.completeLanding; (repeat' split) <;> simp
@[simp] theorem State.completeLanding_roundRobin : (s.completeLanding r).roundRobin = s.roundRobin := by
  unfold State.completeLanding; (repeat' split) <;> simp
@[simp] theorem State.completeLanding_onTick : (s.completeLanding r).onTick = s.onTick := by
  unfold State.completeLanding; (repeat' split) <;> simp
@[simp] theorem State.completeLanding_freeIndex : (s.completeLanding r).freeIndex = s.freeIndex := by
  unfold State.completeLanding; (repeat' split) <;> simp
@[simp] theorem State.completeLanding_piu (q : PortId) : (s.completeLanding r).piu q = s.piu q := by
  unfold State.completeLanding; (repeat' split) <;> simp
@[simp] theorem State.completeLanding_writer (q : PortId) : (s.completeLanding r).writer q = s.writer q := by
  unfold State.completeLanding; (repeat' split) <;> simp
@[simp] theorem State.completeLanding_flushOwed (q : PortId) : ((s.completeLanding r).port q).flushOwed = (s.port q).flushOwed := by
  unfold State.completeLanding; (repeat' split) <;> simp
@[simp] theorem State.completeLanding_requeueOwed (q : PortId) : ((s.completeLanding r).port q).requeueOwed = (s.port q).requeueOwed := by
  unfold State.completeLanding; (repeat' split) <;> simp

end State.completeLanding

section State.failLanding

variable (s : State) (r : RecordId)

@[simp] theorem State.failLanding_pending : (s.failLanding r).pending = s.pending := by
  unfold State.failLanding; (repeat' split) <;> simp
@[simp] theorem State.failLanding_resetPin : (s.failLanding r).resetPin = s.resetPin := by
  unfold State.failLanding; (repeat' split) <;> simp
@[simp] theorem State.failLanding_roundRobin : (s.failLanding r).roundRobin = s.roundRobin := by
  unfold State.failLanding; (repeat' split) <;> simp
@[simp] theorem State.failLanding_onTick : (s.failLanding r).onTick = s.onTick := by
  unfold State.failLanding; (repeat' split) <;> simp
@[simp] theorem State.failLanding_freeIndex : (s.failLanding r).freeIndex = s.freeIndex := by
  unfold State.failLanding; (repeat' split) <;> simp
@[simp] theorem State.failLanding_piu (q : PortId) : (s.failLanding r).piu q = s.piu q := by
  unfold State.failLanding; (repeat' split) <;> simp
@[simp] theorem State.failLanding_writer (q : PortId) : (s.failLanding r).writer q = s.writer q := by
  unfold State.failLanding; (repeat' split) <;> simp
@[simp] theorem State.failLanding_flushOwed (q : PortId) : ((s.failLanding r).port q).flushOwed = (s.port q).flushOwed := by
  unfold State.failLanding; (repeat' split) <;> simp
@[simp] theorem State.failLanding_requeueOwed (q : PortId) : ((s.failLanding r).port q).requeueOwed = (s.port q).requeueOwed := by
  unfold State.failLanding; (repeat' split) <;> simp

end State.failLanding

section State.completeWork

variable (s : State) (p : PortId) (kind : JobKind)

@[simp] theorem State.completeWork_pending : (s.completeWork p kind).pending = s.pending := by
  unfold State.completeWork; (repeat' split) <;> simp
@[simp] theorem State.completeWork_resetPin : (s.completeWork p kind).resetPin = s.resetPin := by
  unfold State.completeWork; (repeat' split) <;> simp
@[simp] theorem State.completeWork_roundRobin : (s.completeWork p kind).roundRobin = s.roundRobin := by
  unfold State.completeWork; (repeat' split) <;> simp
@[simp] theorem State.completeWork_onTick : (s.completeWork p kind).onTick = s.onTick := by
  unfold State.completeWork; (repeat' split) <;> simp
@[simp] theorem State.completeWork_freeIndex : (s.completeWork p kind).freeIndex = s.freeIndex := by
  unfold State.completeWork; (repeat' split) <;> simp
@[simp] theorem State.completeWork_piu (q : PortId) : (s.completeWork p kind).piu q = s.piu q := by
  unfold State.completeWork; (repeat' split) <;> simp
@[simp] theorem State.completeWork_writer (q : PortId) : (s.completeWork p kind).writer q = s.writer q := by
  unfold State.completeWork; (repeat' split) <;> simp
@[simp] theorem State.completeWork_flushOwed (q : PortId) : ((s.completeWork p kind).port q).flushOwed = (s.port q).flushOwed := by
  unfold State.completeWork; (repeat' split) <;> simp
@[simp] theorem State.completeWork_requeueOwed (q : PortId) : ((s.completeWork p kind).port q).requeueOwed = (s.port q).requeueOwed := by
  unfold State.completeWork; (repeat' split) <;> simp

end State.completeWork

section State.completeJob

variable (s : State) (p : PortId) (kind : JobKind)

@[simp] theorem State.completeJob_pending : (s.completeJob p kind).pending = s.pending := by simp [State.completeJob]
@[simp] theorem State.completeJob_resetPin : (s.completeJob p kind).resetPin = s.resetPin := by simp [State.completeJob]
@[simp] theorem State.completeJob_roundRobin : (s.completeJob p kind).roundRobin = s.roundRobin := by simp [State.completeJob]
@[simp] theorem State.completeJob_onTick : (s.completeJob p kind).onTick = s.onTick := by simp [State.completeJob]
@[simp] theorem State.completeJob_freeIndex : (s.completeJob p kind).freeIndex = s.freeIndex := by simp [State.completeJob]

end State.completeJob

section State.failWork

variable (s : State) (kind : JobKind)

@[simp] theorem State.failWork_pending : (s.failWork kind).pending = s.pending := by
  unfold State.failWork; (repeat' split) <;> simp
@[simp] theorem State.failWork_resetPin : (s.failWork kind).resetPin = s.resetPin := by
  unfold State.failWork; (repeat' split) <;> simp
@[simp] theorem State.failWork_roundRobin : (s.failWork kind).roundRobin = s.roundRobin := by
  unfold State.failWork; (repeat' split) <;> simp
@[simp] theorem State.failWork_onTick : (s.failWork kind).onTick = s.onTick := by
  unfold State.failWork; (repeat' split) <;> simp
@[simp] theorem State.failWork_freeIndex : (s.failWork kind).freeIndex = s.freeIndex := by
  unfold State.failWork; (repeat' split) <;> simp
@[simp] theorem State.failWork_piu (q : PortId) : (s.failWork kind).piu q = s.piu q := by
  unfold State.failWork; (repeat' split) <;> simp
@[simp] theorem State.failWork_writer (q : PortId) : (s.failWork kind).writer q = s.writer q := by
  unfold State.failWork; (repeat' split) <;> simp
@[simp] theorem State.failWork_flushOwed (q : PortId) : ((s.failWork kind).port q).flushOwed = (s.port q).flushOwed := by
  unfold State.failWork; (repeat' split) <;> simp
@[simp] theorem State.failWork_requeueOwed (q : PortId) : ((s.failWork kind).port q).requeueOwed = (s.port q).requeueOwed := by
  unfold State.failWork; (repeat' split) <;> simp

end State.failWork

section State.failJob

variable (s : State) (p : PortId) (kind : FaultKind) (job : Job)

@[simp] theorem State.failJob_pending : (s.failJob p kind job).pending = s.pending := by
  unfold State.failJob; dsimp only; (repeat' split) <;> simp
@[simp] theorem State.failJob_resetPin : (s.failJob p kind job).resetPin = s.resetPin := by
  unfold State.failJob; dsimp only; (repeat' split) <;> simp
@[simp] theorem State.failJob_roundRobin : (s.failJob p kind job).roundRobin = s.roundRobin := by
  unfold State.failJob; dsimp only; (repeat' split) <;> simp
@[simp] theorem State.failJob_onTick : (s.failJob p kind job).onTick = s.onTick := by
  unfold State.failJob; dsimp only; (repeat' split) <;> simp
@[simp] theorem State.failJob_freeIndex : (s.failJob p kind job).freeIndex = s.freeIndex := by
  unfold State.failJob; dsimp only; (repeat' split) <;> simp

end State.failJob

section State.endJob

variable (s : State) (p : PortId)

@[simp] theorem State.endJob_pending : (s.endJob p).pending = s.pending := by
  unfold State.endJob; dsimp only; (repeat' split) <;> simp
@[simp] theorem State.endJob_resetPin : (s.endJob p).resetPin = s.resetPin := by
  unfold State.endJob; dsimp only; (repeat' split) <;> simp
@[simp] theorem State.endJob_roundRobin : (s.endJob p).roundRobin = s.roundRobin := by
  unfold State.endJob; dsimp only; (repeat' split) <;> simp
@[simp] theorem State.endJob_onTick : (s.endJob p).onTick = s.onTick := by
  unfold State.endJob; dsimp only; (repeat' split) <;> simp
@[simp] theorem State.endJob_freeIndex : (s.endJob p).freeIndex = s.freeIndex := by
  unfold State.endJob; dsimp only; (repeat' split) <;> simp
@[simp] theorem State.endJob_piu (q : PortId) : (s.endJob p).piu q = s.piu q := by
  unfold State.endJob; dsimp only; (repeat' split) <;> simp
@[simp] theorem State.endJob_flushOwed (q : PortId) : ((s.endJob p).port q).flushOwed = (s.port q).flushOwed := by
  unfold State.endJob; dsimp only; (repeat' split) <;> simp
@[simp] theorem State.endJob_requeueOwed (q : PortId) : ((s.endJob p).port q).requeueOwed = (s.port q).requeueOwed := by
  unfold State.endJob; dsimp only; (repeat' split) <;> simp

end State.endJob

section State.answerOk

variable (s : State) (p : PortId) (job : Job)

@[simp] theorem State.answerOk_pending : (s.answerOk p job).pending = s.pending := by
  unfold State.answerOk; (repeat' split) <;> simp
@[simp] theorem State.answerOk_resetPin : (s.answerOk p job).resetPin = s.resetPin := by
  unfold State.answerOk; (repeat' split) <;> simp
@[simp] theorem State.answerOk_roundRobin : (s.answerOk p job).roundRobin = s.roundRobin := by
  unfold State.answerOk; (repeat' split) <;> simp
@[simp] theorem State.answerOk_onTick : (s.answerOk p job).onTick = s.onTick := by
  unfold State.answerOk; (repeat' split) <;> simp
@[simp] theorem State.answerOk_freeIndex : (s.answerOk p job).freeIndex = s.freeIndex := by
  unfold State.answerOk; (repeat' split) <;> simp

end State.answerOk

section State.answerError

variable (s : State) (p : PortId) (job : Nat)

@[simp] theorem State.answerError_pending : (s.answerError p job).pending = s.pending := by
  unfold State.answerError; (repeat' split) <;> simp
@[simp] theorem State.answerError_resetPin : (s.answerError p job).resetPin = s.resetPin := by
  unfold State.answerError; (repeat' split) <;> simp
@[simp] theorem State.answerError_roundRobin : (s.answerError p job).roundRobin = s.roundRobin := by
  unfold State.answerError; (repeat' split) <;> simp
@[simp] theorem State.answerError_onTick : (s.answerError p job).onTick = s.onTick := by
  unfold State.answerError; (repeat' split) <;> simp
@[simp] theorem State.answerError_freeIndex : (s.answerError p job).freeIndex = s.freeIndex := by
  unfold State.answerError; (repeat' split) <;> simp

end State.answerError

section State.timeOut

variable (s : State) (p : PortId)

@[simp] theorem State.timeOut_pending : (s.timeOut p).pending = s.pending := by
  unfold State.timeOut; (repeat' split) <;> simp
@[simp] theorem State.timeOut_resetPin : (s.timeOut p).resetPin = s.resetPin := by
  unfold State.timeOut; (repeat' split) <;> simp
@[simp] theorem State.timeOut_roundRobin : (s.timeOut p).roundRobin = s.roundRobin := by
  unfold State.timeOut; (repeat' split) <;> simp
@[simp] theorem State.timeOut_onTick : (s.timeOut p).onTick = s.onTick := by
  unfold State.timeOut; (repeat' split) <;> simp
@[simp] theorem State.timeOut_freeIndex : (s.timeOut p).freeIndex = s.freeIndex := by
  unfold State.timeOut; (repeat' split) <;> simp

end State.timeOut

section State.startLanding

variable (s : State) (p : PortId) (k : Fin 4) (c : ChannelId)

@[simp] theorem State.startLanding_pending : (s.startLanding p k c).pending = s.pending := by
  unfold State.startLanding; (repeat' split) <;> simp
@[simp] theorem State.startLanding_resetPin : (s.startLanding p k c).resetPin = s.resetPin := by
  unfold State.startLanding; (repeat' split) <;> simp
@[simp] theorem State.startLanding_onTick : (s.startLanding p k c).onTick = s.onTick := by
  unfold State.startLanding; (repeat' split) <;> simp
@[simp] theorem State.startLanding_freeIndex : (s.startLanding p k c).freeIndex = s.freeIndex := by
  unfold State.startLanding; (repeat' split) <;> simp
@[simp] theorem State.startLanding_holdOwed : (s.startLanding p k c).holdOwed = s.holdOwed := by
  unfold State.startLanding; (repeat' split) <;> simp
@[simp] theorem State.startLanding_retestOwed : (s.startLanding p k c).retestOwed = s.retestOwed := by
  unfold State.startLanding; (repeat' split) <;> simp
@[simp] theorem State.startLanding_entries : (s.startLanding p k c).entries = s.entries := by
  unfold State.startLanding; (repeat' split) <;> simp
@[simp] theorem State.startLanding_entry (d : ChannelId) : (s.startLanding p k c).entry d = s.entry d := by
  unfold State.startLanding; (repeat' split) <;> simp
@[simp] theorem State.startLanding_use (d : ChannelId) : (s.startLanding p k c).use d = s.use d := by
  unfold State.startLanding; (repeat' split) <;> simp
@[simp] theorem State.startLanding_piu (q : PortId) : (s.startLanding p k c).piu q = s.piu q := by
  unfold State.startLanding; (repeat' split) <;> simp
@[simp] theorem State.startLanding_nu (q : PortId) : (s.startLanding p k c).nu q = s.nu q := by
  unfold State.startLanding; (repeat' split) <;> simp
@[simp] theorem State.startLanding_flushOwed (q : PortId) : ((s.startLanding p k c).port q).flushOwed = (s.port q).flushOwed := by
  unfold State.startLanding; (repeat' split) <;> simp
@[simp] theorem State.startLanding_requeueOwed (q : PortId) : ((s.startLanding p k c).port q).requeueOwed = (s.port q).requeueOwed := by
  unfold State.startLanding; (repeat' split) <;> simp

end State.startLanding

section State.takeCredit

variable (s : State) (p : PortId) (i : SlotId) (c : ChannelId) (ring : Ring) (new : Half)

@[simp] theorem State.takeCredit_pending : (s.takeCredit p i c ring new).pending = s.pending := by
  unfold State.takeCredit; (repeat' split) <;> simp
@[simp] theorem State.takeCredit_resetPin : (s.takeCredit p i c ring new).resetPin = s.resetPin := by
  unfold State.takeCredit; (repeat' split) <;> simp
@[simp] theorem State.takeCredit_roundRobin : (s.takeCredit p i c ring new).roundRobin = s.roundRobin := by
  unfold State.takeCredit; (repeat' split) <;> simp
@[simp] theorem State.takeCredit_onTick : (s.takeCredit p i c ring new).onTick = s.onTick := by
  unfold State.takeCredit; (repeat' split) <;> simp
@[simp] theorem State.takeCredit_freeIndex : (s.takeCredit p i c ring new).freeIndex = s.freeIndex := by
  unfold State.takeCredit; (repeat' split) <;> simp
@[simp] theorem State.takeCredit_pool : (s.takeCredit p i c ring new).pool = s.pool := by
  unfold State.takeCredit; (repeat' split) <;> simp
@[simp] theorem State.takeCredit_holdOwed : (s.takeCredit p i c ring new).holdOwed = s.holdOwed := by
  unfold State.takeCredit; (repeat' split) <;> simp
@[simp] theorem State.takeCredit_retestOwed : (s.takeCredit p i c ring new).retestOwed = s.retestOwed := by
  unfold State.takeCredit; (repeat' split) <;> simp
@[simp] theorem State.takeCredit_record (r : RecordId) : (s.takeCredit p i c ring new).record r = s.record r := by
  unfold State.takeCredit; (repeat' split) <;> simp
@[simp] theorem State.takeCredit_writer (q : PortId) : (s.takeCredit p i c ring new).writer q = s.writer q := by
  unfold State.takeCredit; (repeat' split) <;> simp
@[simp] theorem State.takeCredit_flushOwed (q : PortId) : ((s.takeCredit p i c ring new).port q).flushOwed = (s.port q).flushOwed := by
  unfold State.takeCredit; (repeat' split) <;> simp
@[simp] theorem State.takeCredit_requeueOwed (q : PortId) : ((s.takeCredit p i c ring new).port q).requeueOwed = (s.port q).requeueOwed := by
  unfold State.takeCredit; (repeat' split) <;> simp

end State.takeCredit

section State.creditWrite

variable (s : State) (p : PortId) (i : SlotId) (w : Word)

@[simp] theorem State.creditWrite_pending : (s.creditWrite p i w).pending = s.pending := by
  unfold State.creditWrite; (repeat' split) <;> simp
@[simp] theorem State.creditWrite_resetPin : (s.creditWrite p i w).resetPin = s.resetPin := by
  unfold State.creditWrite; (repeat' split) <;> simp
@[simp] theorem State.creditWrite_roundRobin : (s.creditWrite p i w).roundRobin = s.roundRobin := by
  unfold State.creditWrite; (repeat' split) <;> simp
@[simp] theorem State.creditWrite_onTick : (s.creditWrite p i w).onTick = s.onTick := by
  unfold State.creditWrite; (repeat' split) <;> simp
@[simp] theorem State.creditWrite_freeIndex : (s.creditWrite p i w).freeIndex = s.freeIndex := by
  unfold State.creditWrite; (repeat' split) <;> simp
@[simp] theorem State.creditWrite_pool : (s.creditWrite p i w).pool = s.pool := by
  unfold State.creditWrite; (repeat' split) <;> simp
@[simp] theorem State.creditWrite_holdOwed : (s.creditWrite p i w).holdOwed = s.holdOwed := by
  unfold State.creditWrite; (repeat' split) <;> simp
@[simp] theorem State.creditWrite_retestOwed : (s.creditWrite p i w).retestOwed = s.retestOwed := by
  unfold State.creditWrite; (repeat' split) <;> simp
@[simp] theorem State.creditWrite_record (r : RecordId) : (s.creditWrite p i w).record r = s.record r := by
  unfold State.creditWrite; (repeat' split) <;> simp
@[simp] theorem State.creditWrite_writer (q : PortId) : (s.creditWrite p i w).writer q = s.writer q := by
  unfold State.creditWrite; (repeat' split) <;> simp
@[simp] theorem State.creditWrite_flushOwed (q : PortId) : ((s.creditWrite p i w).port q).flushOwed = (s.port q).flushOwed := by
  unfold State.creditWrite; (repeat' split) <;> simp
@[simp] theorem State.creditWrite_requeueOwed (q : PortId) : ((s.creditWrite p i w).port q).requeueOwed = (s.port q).requeueOwed := by
  unfold State.creditWrite; (repeat' split) <;> simp

end State.creditWrite

section landTake

variable (s : State) (p : PortId) (c : ChannelId) (u : Use) (ra : RingArgs)

@[simp] theorem landTake_pending : (landTake s p c u ra).pending = s.pending := by simp [landTake]
@[simp] theorem landTake_resetPin : (landTake s p c u ra).resetPin = s.resetPin := by simp [landTake]
@[simp] theorem landTake_roundRobin : (landTake s p c u ra).roundRobin = s.roundRobin := by simp [landTake]
@[simp] theorem landTake_onTick : (landTake s p c u ra).onTick = s.onTick := by simp [landTake]
@[simp] theorem landTake_freeIndex : (landTake s p c u ra).freeIndex = s.freeIndex := by simp [landTake]
@[simp] theorem landTake_pool : (landTake s p c u ra).pool = s.pool := by simp [landTake]
@[simp] theorem landTake_holdOwed : (landTake s p c u ra).holdOwed = s.holdOwed := by simp [landTake]
@[simp] theorem landTake_retestOwed : (landTake s p c u ra).retestOwed = s.retestOwed := by simp [landTake]
@[simp] theorem landTake_record (r : RecordId) : (landTake s p c u ra).record r = s.record r := by simp [landTake]
@[simp] theorem landTake_writer (q : PortId) : (landTake s p c u ra).writer q = s.writer q := by simp [landTake]
@[simp] theorem landTake_flushOwed (q : PortId) : ((landTake s p c u ra).port q).flushOwed = (s.port q).flushOwed := by simp [landTake]
@[simp] theorem landTake_requeueOwed (q : PortId) : ((landTake s p c u ra).port q).requeueOwed = (s.port q).requeueOwed := by simp [landTake]

end landTake

section landBody

variable (s : State) (p : PortId)

@[simp] theorem landBody_pending : (landBody p s).pending = s.pending := by
  unfold landBody; dsimp only; (repeat' split) <;> simp
@[simp] theorem landBody_resetPin : (landBody p s).resetPin = s.resetPin := by
  unfold landBody; dsimp only; (repeat' split) <;> simp
@[simp] theorem landBody_roundRobin : (landBody p s).roundRobin = s.roundRobin := by
  unfold landBody; dsimp only; (repeat' split) <;> simp
@[simp] theorem landBody_onTick : (landBody p s).onTick = s.onTick := by
  unfold landBody; dsimp only; (repeat' split) <;> simp
@[simp] theorem landBody_freeIndex : (landBody p s).freeIndex = s.freeIndex := by
  unfold landBody; dsimp only; (repeat' split) <;> simp
@[simp] theorem landBody_pool : (landBody p s).pool = s.pool := by
  unfold landBody; dsimp only; (repeat' split) <;> simp
@[simp] theorem landBody_holdOwed : (landBody p s).holdOwed = s.holdOwed := by
  unfold landBody; dsimp only; (repeat' split) <;> simp
@[simp] theorem landBody_retestOwed : (landBody p s).retestOwed = s.retestOwed := by
  unfold landBody; dsimp only; (repeat' split) <;> simp
@[simp] theorem landBody_record (r : RecordId) : (landBody p s).record r = s.record r := by
  unfold landBody; dsimp only; (repeat' split) <;> simp
@[simp] theorem landBody_writer (q : PortId) : (landBody p s).writer q = s.writer q := by
  unfold landBody; dsimp only; (repeat' split) <;> simp
@[simp] theorem landBody_flushOwed (q : PortId) : ((landBody p s).port q).flushOwed = (s.port q).flushOwed := by
  unfold landBody; dsimp only; (repeat' split) <;> simp
@[simp] theorem landBody_requeueOwed (q : PortId) : ((landBody p s).port q).requeueOwed = (s.port q).requeueOwed := by
  unfold landBody; dsimp only; (repeat' split) <;> simp

end landBody

section State.confirmRelease

variable (s : State) (c : ChannelId) (u : Use) (sequence : Half) (released rest : List RecordId)

@[simp] theorem State.confirmRelease_pending : (s.confirmRelease c u sequence released rest).pending = s.pending := by simp [State.confirmRelease]
@[simp] theorem State.confirmRelease_resetPin : (s.confirmRelease c u sequence released rest).resetPin = s.resetPin := by simp [State.confirmRelease]
@[simp] theorem State.confirmRelease_roundRobin : (s.confirmRelease c u sequence released rest).roundRobin = s.roundRobin := by simp [State.confirmRelease]
@[simp] theorem State.confirmRelease_onTick : (s.confirmRelease c u sequence released rest).onTick = s.onTick := by simp [State.confirmRelease]
@[simp] theorem State.confirmRelease_freeIndex : (s.confirmRelease c u sequence released rest).freeIndex = s.freeIndex := by simp [State.confirmRelease]
@[simp] theorem State.confirmRelease_piu (q : PortId) : (s.confirmRelease c u sequence released rest).piu q = s.piu q := by simp [State.confirmRelease]
@[simp] theorem State.confirmRelease_writer (q : PortId) : (s.confirmRelease c u sequence released rest).writer q = s.writer q := by simp [State.confirmRelease]
@[simp] theorem State.confirmRelease_flushOwed (q : PortId) : ((s.confirmRelease c u sequence released rest).port q).flushOwed = (s.port q).flushOwed := by simp [State.confirmRelease]
@[simp] theorem State.confirmRelease_requeueOwed (q : PortId) : ((s.confirmRelease c u sequence released rest).port q).requeueOwed = (s.port q).requeueOwed := by simp [State.confirmRelease]

end State.confirmRelease

section confirmBody

variable (s : State) (p : PortId)

@[simp] theorem confirmBody_pending : (confirmBody p s).pending = s.pending := by
  unfold confirmBody; dsimp only; (repeat' split) <;> simp
@[simp] theorem confirmBody_resetPin : (confirmBody p s).resetPin = s.resetPin := by
  unfold confirmBody; dsimp only; (repeat' split) <;> simp
@[simp] theorem confirmBody_roundRobin : (confirmBody p s).roundRobin = s.roundRobin := by
  unfold confirmBody; dsimp only; (repeat' split) <;> simp
@[simp] theorem confirmBody_onTick : (confirmBody p s).onTick = s.onTick := by
  unfold confirmBody; dsimp only; (repeat' split) <;> simp
@[simp] theorem confirmBody_freeIndex : (confirmBody p s).freeIndex = s.freeIndex := by
  unfold confirmBody; dsimp only; (repeat' split) <;> simp
@[simp] theorem confirmBody_writer (q : PortId) : (confirmBody p s).writer q = s.writer q := by
  unfold confirmBody; dsimp only; (repeat' split) <;> simp
@[simp] theorem confirmBody_flushOwed (q : PortId) : ((confirmBody p s).port q).flushOwed = (s.port q).flushOwed := by
  unfold confirmBody; dsimp only; (repeat' split) <;> simp
@[simp] theorem confirmBody_requeueOwed (q : PortId) : ((confirmBody p s).port q).requeueOwed = (s.port q).requeueOwed := by
  unfold confirmBody; dsimp only; (repeat' split) <;> simp

end confirmBody

section markReplay

variable (rs : List RecordId)

@[simp] theorem State.markReplay_pending (s : State) : (s.markReplay rs).pending = s.pending := by
  induction rs generalizing s with
  | nil => rfl
  | cons r rs ih => simp [State.markReplay, ih]
@[simp] theorem State.markReplay_resetPin (s : State) : (s.markReplay rs).resetPin = s.resetPin := by
  induction rs generalizing s with
  | nil => rfl
  | cons r rs ih => simp [State.markReplay, ih]
@[simp] theorem State.markReplay_roundRobin (s : State) : (s.markReplay rs).roundRobin = s.roundRobin := by
  induction rs generalizing s with
  | nil => rfl
  | cons r rs ih => simp [State.markReplay, ih]
@[simp] theorem State.markReplay_onTick (s : State) : (s.markReplay rs).onTick = s.onTick := by
  induction rs generalizing s with
  | nil => rfl
  | cons r rs ih => simp [State.markReplay, ih]
@[simp] theorem State.markReplay_freeIndex (s : State) : (s.markReplay rs).freeIndex = s.freeIndex := by
  induction rs generalizing s with
  | nil => rfl
  | cons r rs ih => simp [State.markReplay, ih]
@[simp] theorem State.markReplay_entries (s : State) : (s.markReplay rs).entries = s.entries := by
  induction rs generalizing s with
  | nil => rfl
  | cons r rs ih => simp [State.markReplay, ih]
@[simp] theorem State.markReplay_holdOwed (s : State) : (s.markReplay rs).holdOwed = s.holdOwed := by
  induction rs generalizing s with
  | nil => rfl
  | cons r rs ih => simp [State.markReplay, ih]
@[simp] theorem State.markReplay_retestOwed (s : State) : (s.markReplay rs).retestOwed = s.retestOwed := by
  induction rs generalizing s with
  | nil => rfl
  | cons r rs ih => simp [State.markReplay, ih]
@[simp] theorem State.markReplay_ports (s : State) : (s.markReplay rs).ports = s.ports := by
  induction rs generalizing s with
  | nil => rfl
  | cons r rs ih => simp [State.markReplay, ih]
@[simp] theorem State.markReplay_entry (s : State) (d : ChannelId) : (s.markReplay rs).entry d = s.entry d := by
  simp [State.entry]
@[simp] theorem State.markReplay_use (s : State) (d : ChannelId) : (s.markReplay rs).use d = s.use d := by
  simp [State.use, State.entry]
@[simp] theorem State.markReplay_port (s : State) (q : PortId) : (s.markReplay rs).port q = s.port q := by simp [State.port]
@[simp] theorem State.markReplay_piu (s : State) (q : PortId) : (s.markReplay rs).piu q = s.piu q := by simp [State.piu]
@[simp] theorem State.markReplay_writer (s : State) (q : PortId) : (s.markReplay rs).writer q = s.writer q := by simp [State.writer]
@[simp] theorem State.markReplay_nu (s : State) (q : PortId) : (s.markReplay rs).nu q = s.nu q := by simp [State.nu]

end markReplay

section State.requeueEntry

variable (s : State) (c : ChannelId) (u : Use)

@[simp] theorem State.requeueEntry_pending : (s.requeueEntry c u).pending = s.pending := by
  unfold State.requeueEntry; (repeat' split) <;> simp
@[simp] theorem State.requeueEntry_resetPin : (s.requeueEntry c u).resetPin = s.resetPin := by
  unfold State.requeueEntry; (repeat' split) <;> simp
@[simp] theorem State.requeueEntry_roundRobin : (s.requeueEntry c u).roundRobin = s.roundRobin := by
  unfold State.requeueEntry; (repeat' split) <;> simp
@[simp] theorem State.requeueEntry_onTick : (s.requeueEntry c u).onTick = s.onTick := by
  unfold State.requeueEntry; (repeat' split) <;> simp
@[simp] theorem State.requeueEntry_freeIndex : (s.requeueEntry c u).freeIndex = s.freeIndex := by
  unfold State.requeueEntry; (repeat' split) <;> simp
@[simp] theorem State.requeueEntry_holdOwed : (s.requeueEntry c u).holdOwed = s.holdOwed := by
  unfold State.requeueEntry; (repeat' split) <;> simp
@[simp] theorem State.requeueEntry_retestOwed : (s.requeueEntry c u).retestOwed = s.retestOwed := by
  unfold State.requeueEntry; (repeat' split) <;> simp
@[simp] theorem State.requeueEntry_piu (q : PortId) : (s.requeueEntry c u).piu q = s.piu q := by
  unfold State.requeueEntry; (repeat' split) <;> simp
@[simp] theorem State.requeueEntry_writer (q : PortId) : (s.requeueEntry c u).writer q = s.writer q := by
  unfold State.requeueEntry; (repeat' split) <;> simp
@[simp] theorem State.requeueEntry_flushOwed (q : PortId) : ((s.requeueEntry c u).port q).flushOwed = (s.port q).flushOwed := by
  unfold State.requeueEntry; (repeat' split) <;> simp
@[simp] theorem State.requeueEntry_requeueOwed (q : PortId) : ((s.requeueEntry c u).port q).requeueOwed = (s.port q).requeueOwed := by
  unfold State.requeueEntry; (repeat' split) <;> simp

end State.requeueEntry

section State.requeueOn

variable (s : State) (p : PortId) (c : ChannelId)

@[simp] theorem State.requeueOn_pending : (s.requeueOn p c).pending = s.pending := by
  unfold State.requeueOn; (repeat' split) <;> simp
@[simp] theorem State.requeueOn_resetPin : (s.requeueOn p c).resetPin = s.resetPin := by
  unfold State.requeueOn; (repeat' split) <;> simp
@[simp] theorem State.requeueOn_roundRobin : (s.requeueOn p c).roundRobin = s.roundRobin := by
  unfold State.requeueOn; (repeat' split) <;> simp
@[simp] theorem State.requeueOn_onTick : (s.requeueOn p c).onTick = s.onTick := by
  unfold State.requeueOn; (repeat' split) <;> simp
@[simp] theorem State.requeueOn_freeIndex : (s.requeueOn p c).freeIndex = s.freeIndex := by
  unfold State.requeueOn; (repeat' split) <;> simp
@[simp] theorem State.requeueOn_holdOwed : (s.requeueOn p c).holdOwed = s.holdOwed := by
  unfold State.requeueOn; (repeat' split) <;> simp
@[simp] theorem State.requeueOn_retestOwed : (s.requeueOn p c).retestOwed = s.retestOwed := by
  unfold State.requeueOn; (repeat' split) <;> simp
@[simp] theorem State.requeueOn_piu (q : PortId) : (s.requeueOn p c).piu q = s.piu q := by
  unfold State.requeueOn; (repeat' split) <;> simp
@[simp] theorem State.requeueOn_writer (q : PortId) : (s.requeueOn p c).writer q = s.writer q := by
  unfold State.requeueOn; (repeat' split) <;> simp
@[simp] theorem State.requeueOn_flushOwed (q : PortId) : ((s.requeueOn p c).port q).flushOwed = (s.port q).flushOwed := by
  unfold State.requeueOn; (repeat' split) <;> simp
@[simp] theorem State.requeueOn_requeueOwed (q : PortId) : ((s.requeueOn p c).port q).requeueOwed = (s.port q).requeueOwed := by
  unfold State.requeueOn; (repeat' split) <;> simp

end State.requeueOn

section State.poolHoldOn

variable (s : State) (c : ChannelId)

@[simp] theorem State.poolHoldOn_pending : (s.poolHoldOn c).pending = s.pending := by
  unfold State.poolHoldOn; (repeat' split) <;> simp
@[simp] theorem State.poolHoldOn_resetPin : (s.poolHoldOn c).resetPin = s.resetPin := by
  unfold State.poolHoldOn; (repeat' split) <;> simp
@[simp] theorem State.poolHoldOn_roundRobin : (s.poolHoldOn c).roundRobin = s.roundRobin := by
  unfold State.poolHoldOn; (repeat' split) <;> simp
@[simp] theorem State.poolHoldOn_onTick : (s.poolHoldOn c).onTick = s.onTick := by
  unfold State.poolHoldOn; (repeat' split) <;> simp
@[simp] theorem State.poolHoldOn_freeIndex : (s.poolHoldOn c).freeIndex = s.freeIndex := by
  unfold State.poolHoldOn; (repeat' split) <;> simp
@[simp] theorem State.poolHoldOn_pool : (s.poolHoldOn c).pool = s.pool := by
  unfold State.poolHoldOn; (repeat' split) <;> simp
@[simp] theorem State.poolHoldOn_holdOwed : (s.poolHoldOn c).holdOwed = s.holdOwed := by
  unfold State.poolHoldOn; (repeat' split) <;> simp
@[simp] theorem State.poolHoldOn_retestOwed : (s.poolHoldOn c).retestOwed = s.retestOwed := by
  unfold State.poolHoldOn; (repeat' split) <;> simp
@[simp] theorem State.poolHoldOn_record (r : RecordId) : (s.poolHoldOn c).record r = s.record r := by
  unfold State.poolHoldOn; (repeat' split) <;> simp
@[simp] theorem State.poolHoldOn_writer (q : PortId) : (s.poolHoldOn c).writer q = s.writer q := by
  unfold State.poolHoldOn; (repeat' split) <;> simp
@[simp] theorem State.poolHoldOn_flushOwed (q : PortId) : ((s.poolHoldOn c).port q).flushOwed = (s.port q).flushOwed := by
  unfold State.poolHoldOn; (repeat' split) <;> simp
@[simp] theorem State.poolHoldOn_requeueOwed (q : PortId) : ((s.poolHoldOn c).port q).requeueOwed = (s.port q).requeueOwed := by
  unfold State.poolHoldOn; (repeat' split) <;> simp
@[simp] theorem State.poolHoldOn_piu (q : PortId) : (s.poolHoldOn c).piu q = s.piu q := by
  unfold State.poolHoldOn; (repeat' split) <;> simp

end State.poolHoldOn

section State.expireHold

variable (s : State) (c : ChannelId) (u : Use)

@[simp] theorem State.expireHold_pending : (s.expireHold c u).pending = s.pending := by
  unfold State.expireHold; (repeat' split) <;> simp
@[simp] theorem State.expireHold_resetPin : (s.expireHold c u).resetPin = s.resetPin := by
  unfold State.expireHold; (repeat' split) <;> simp
@[simp] theorem State.expireHold_roundRobin : (s.expireHold c u).roundRobin = s.roundRobin := by
  unfold State.expireHold; (repeat' split) <;> simp
@[simp] theorem State.expireHold_onTick : (s.expireHold c u).onTick = s.onTick := by
  unfold State.expireHold; (repeat' split) <;> simp
@[simp] theorem State.expireHold_freeIndex : (s.expireHold c u).freeIndex = s.freeIndex := by
  unfold State.expireHold; (repeat' split) <;> simp
@[simp] theorem State.expireHold_pool : (s.expireHold c u).pool = s.pool := by
  unfold State.expireHold; (repeat' split) <;> simp
@[simp] theorem State.expireHold_holdOwed : (s.expireHold c u).holdOwed = s.holdOwed := by
  unfold State.expireHold; (repeat' split) <;> simp
@[simp] theorem State.expireHold_retestOwed : (s.expireHold c u).retestOwed = s.retestOwed := by
  unfold State.expireHold; (repeat' split) <;> simp
@[simp] theorem State.expireHold_record (r : RecordId) : (s.expireHold c u).record r = s.record r := by
  unfold State.expireHold; (repeat' split) <;> simp
@[simp] theorem State.expireHold_writer (q : PortId) : (s.expireHold c u).writer q = s.writer q := by
  unfold State.expireHold; (repeat' split) <;> simp
@[simp] theorem State.expireHold_flushOwed (q : PortId) : ((s.expireHold c u).port q).flushOwed = (s.port q).flushOwed := by
  unfold State.expireHold; (repeat' split) <;> simp
@[simp] theorem State.expireHold_requeueOwed (q : PortId) : ((s.expireHold c u).port q).requeueOwed = (s.port q).requeueOwed := by
  unfold State.expireHold; (repeat' split) <;> simp
@[simp] theorem State.expireHold_piu (q : PortId) : (s.expireHold c u).piu q = s.piu q := by
  unfold State.expireHold; (repeat' split) <;> simp

end State.expireHold

section setVectorBody

variable (s : State) (p : PortId)

@[simp] theorem setVectorBody_pending : (setVectorBody p s).pending = s.pending := by
  unfold setVectorBody; dsimp only; (repeat' split) <;> simp
@[simp] theorem setVectorBody_resetPin : (setVectorBody p s).resetPin = s.resetPin := by
  unfold setVectorBody; dsimp only; (repeat' split) <;> simp
@[simp] theorem setVectorBody_roundRobin : (setVectorBody p s).roundRobin = s.roundRobin := by
  unfold setVectorBody; dsimp only; (repeat' split) <;> simp
@[simp] theorem setVectorBody_onTick : (setVectorBody p s).onTick = s.onTick := by
  unfold setVectorBody; dsimp only; (repeat' split) <;> simp
@[simp] theorem setVectorBody_freeIndex : (setVectorBody p s).freeIndex = s.freeIndex := by
  unfold setVectorBody; dsimp only; (repeat' split) <;> simp
@[simp] theorem setVectorBody_pool : (setVectorBody p s).pool = s.pool := by
  unfold setVectorBody; dsimp only; (repeat' split) <;> simp
@[simp] theorem setVectorBody_holdOwed : (setVectorBody p s).holdOwed = s.holdOwed := by
  unfold setVectorBody; dsimp only; (repeat' split) <;> simp
@[simp] theorem setVectorBody_retestOwed : (setVectorBody p s).retestOwed = s.retestOwed := by
  unfold setVectorBody; dsimp only; (repeat' split) <;> simp
@[simp] theorem setVectorBody_record (r : RecordId) : (setVectorBody p s).record r = s.record r := by
  unfold setVectorBody; dsimp only; (repeat' split) <;> simp
@[simp] theorem setVectorBody_writer (q : PortId) : (setVectorBody p s).writer q = s.writer q := by
  unfold setVectorBody; dsimp only; (repeat' split) <;> simp
@[simp] theorem setVectorBody_flushOwed (q : PortId) : ((setVectorBody p s).port q).flushOwed = (s.port q).flushOwed := by
  unfold setVectorBody; dsimp only; (repeat' split) <;> simp
@[simp] theorem setVectorBody_requeueOwed (q : PortId) : ((setVectorBody p s).port q).requeueOwed = (s.port q).requeueOwed := by
  unfold setVectorBody; dsimp only; (repeat' split) <;> simp
@[simp] theorem setVectorBody_entries : (setVectorBody p s).entries = s.entries := by
  unfold setVectorBody; dsimp only; (repeat' split) <;> simp
@[simp] theorem setVectorBody_entry (d : ChannelId) : (setVectorBody p s).entry d = s.entry d := by
  unfold setVectorBody; dsimp only; (repeat' split) <;> simp
@[simp] theorem setVectorBody_use (d : ChannelId) : (setVectorBody p s).use d = s.use d := by
  unfold setVectorBody; dsimp only; (repeat' split) <;> simp

end setVectorBody

section State.rearmWrite

variable (s : State) (p : PortId) (v : VectorId) (w : Word)

@[simp] theorem State.rearmWrite_pending : (s.rearmWrite p v w).pending = s.pending := by
  unfold State.rearmWrite; (repeat' split) <;> simp
@[simp] theorem State.rearmWrite_resetPin : (s.rearmWrite p v w).resetPin = s.resetPin := by
  unfold State.rearmWrite; (repeat' split) <;> simp
@[simp] theorem State.rearmWrite_roundRobin : (s.rearmWrite p v w).roundRobin = s.roundRobin := by
  unfold State.rearmWrite; (repeat' split) <;> simp
@[simp] theorem State.rearmWrite_onTick : (s.rearmWrite p v w).onTick = s.onTick := by
  unfold State.rearmWrite; (repeat' split) <;> simp
@[simp] theorem State.rearmWrite_freeIndex : (s.rearmWrite p v w).freeIndex = s.freeIndex := by
  unfold State.rearmWrite; (repeat' split) <;> simp
@[simp] theorem State.rearmWrite_pool : (s.rearmWrite p v w).pool = s.pool := by
  unfold State.rearmWrite; (repeat' split) <;> simp
@[simp] theorem State.rearmWrite_holdOwed : (s.rearmWrite p v w).holdOwed = s.holdOwed := by
  unfold State.rearmWrite; (repeat' split) <;> simp
@[simp] theorem State.rearmWrite_retestOwed : (s.rearmWrite p v w).retestOwed = s.retestOwed := by
  unfold State.rearmWrite; (repeat' split) <;> simp
@[simp] theorem State.rearmWrite_record (r : RecordId) : (s.rearmWrite p v w).record r = s.record r := by
  unfold State.rearmWrite; (repeat' split) <;> simp
@[simp] theorem State.rearmWrite_writer (q : PortId) : (s.rearmWrite p v w).writer q = s.writer q := by
  unfold State.rearmWrite; (repeat' split) <;> simp
@[simp] theorem State.rearmWrite_flushOwed (q : PortId) : ((s.rearmWrite p v w).port q).flushOwed = (s.port q).flushOwed := by
  unfold State.rearmWrite; (repeat' split) <;> simp
@[simp] theorem State.rearmWrite_requeueOwed (q : PortId) : ((s.rearmWrite p v w).port q).requeueOwed = (s.port q).requeueOwed := by
  unfold State.rearmWrite; (repeat' split) <;> simp
@[simp] theorem State.rearmWrite_entries : (s.rearmWrite p v w).entries = s.entries := by
  unfold State.rearmWrite; (repeat' split) <;> simp
@[simp] theorem State.rearmWrite_entry (d : ChannelId) : (s.rearmWrite p v w).entry d = s.entry d := by
  unfold State.rearmWrite; (repeat' split) <;> simp
@[simp] theorem State.rearmWrite_use (d : ChannelId) : (s.rearmWrite p v w).use d = s.use d := by
  unfold State.rearmWrite; (repeat' split) <;> simp
@[simp] theorem State.rearmWrite_piu (q : PortId) : (s.rearmWrite p v w).piu q = s.piu q := by
  unfold State.rearmWrite; (repeat' split) <;> simp

end State.rearmWrite

section State.takeReadIndex

variable (s : State) (p : PortId) (new : Byte)

@[simp] theorem State.takeReadIndex_pending : (s.takeReadIndex p new).pending = s.pending := by
  unfold State.takeReadIndex; dsimp only; (repeat' split) <;> simp
@[simp] theorem State.takeReadIndex_resetPin : (s.takeReadIndex p new).resetPin = s.resetPin := by
  unfold State.takeReadIndex; dsimp only; (repeat' split) <;> simp
@[simp] theorem State.takeReadIndex_roundRobin : (s.takeReadIndex p new).roundRobin = s.roundRobin := by
  unfold State.takeReadIndex; dsimp only; (repeat' split) <;> simp
@[simp] theorem State.takeReadIndex_onTick : (s.takeReadIndex p new).onTick = s.onTick := by
  unfold State.takeReadIndex; dsimp only; (repeat' split) <;> simp
@[simp] theorem State.takeReadIndex_freeIndex : (s.takeReadIndex p new).freeIndex = s.freeIndex := by
  unfold State.takeReadIndex; dsimp only; (repeat' split) <;> simp
@[simp] theorem State.takeReadIndex_pool : (s.takeReadIndex p new).pool = s.pool := by
  unfold State.takeReadIndex; dsimp only; (repeat' split) <;> simp
@[simp] theorem State.takeReadIndex_holdOwed : (s.takeReadIndex p new).holdOwed = s.holdOwed := by
  unfold State.takeReadIndex; dsimp only; (repeat' split) <;> simp
@[simp] theorem State.takeReadIndex_retestOwed : (s.takeReadIndex p new).retestOwed = s.retestOwed := by
  unfold State.takeReadIndex; dsimp only; (repeat' split) <;> simp
@[simp] theorem State.takeReadIndex_record (r : RecordId) : (s.takeReadIndex p new).record r = s.record r := by
  unfold State.takeReadIndex; dsimp only; (repeat' split) <;> simp
@[simp] theorem State.takeReadIndex_writer (q : PortId) : (s.takeReadIndex p new).writer q = s.writer q := by
  unfold State.takeReadIndex; dsimp only; (repeat' split) <;> simp
@[simp] theorem State.takeReadIndex_flushOwed (q : PortId) : ((s.takeReadIndex p new).port q).flushOwed = (s.port q).flushOwed := by
  unfold State.takeReadIndex; dsimp only; (repeat' split) <;> simp
@[simp] theorem State.takeReadIndex_requeueOwed (q : PortId) : ((s.takeReadIndex p new).port q).requeueOwed = (s.port q).requeueOwed := by
  unfold State.takeReadIndex; dsimp only; (repeat' split) <;> simp
@[simp] theorem State.takeReadIndex_entries : (s.takeReadIndex p new).entries = s.entries := by
  unfold State.takeReadIndex; dsimp only; (repeat' split) <;> simp
@[simp] theorem State.takeReadIndex_entry (d : ChannelId) : (s.takeReadIndex p new).entry d = s.entry d := by
  unfold State.takeReadIndex; dsimp only; (repeat' split) <;> simp
@[simp] theorem State.takeReadIndex_use (d : ChannelId) : (s.takeReadIndex p new).use d = s.use d := by
  unfold State.takeReadIndex; dsimp only; (repeat' split) <;> simp

end State.takeReadIndex

section State.eventReadWrite

variable (s : State) (p : PortId) (w : Word)

@[simp] theorem State.eventReadWrite_pending : (s.eventReadWrite p w).pending = s.pending := by
  unfold State.eventReadWrite; (repeat' split) <;> simp
@[simp] theorem State.eventReadWrite_resetPin : (s.eventReadWrite p w).resetPin = s.resetPin := by
  unfold State.eventReadWrite; (repeat' split) <;> simp
@[simp] theorem State.eventReadWrite_roundRobin : (s.eventReadWrite p w).roundRobin = s.roundRobin := by
  unfold State.eventReadWrite; (repeat' split) <;> simp
@[simp] theorem State.eventReadWrite_onTick : (s.eventReadWrite p w).onTick = s.onTick := by
  unfold State.eventReadWrite; (repeat' split) <;> simp
@[simp] theorem State.eventReadWrite_freeIndex : (s.eventReadWrite p w).freeIndex = s.freeIndex := by
  unfold State.eventReadWrite; (repeat' split) <;> simp
@[simp] theorem State.eventReadWrite_pool : (s.eventReadWrite p w).pool = s.pool := by
  unfold State.eventReadWrite; (repeat' split) <;> simp
@[simp] theorem State.eventReadWrite_holdOwed : (s.eventReadWrite p w).holdOwed = s.holdOwed := by
  unfold State.eventReadWrite; (repeat' split) <;> simp
@[simp] theorem State.eventReadWrite_retestOwed : (s.eventReadWrite p w).retestOwed = s.retestOwed := by
  unfold State.eventReadWrite; (repeat' split) <;> simp
@[simp] theorem State.eventReadWrite_record (r : RecordId) : (s.eventReadWrite p w).record r = s.record r := by
  unfold State.eventReadWrite; (repeat' split) <;> simp
@[simp] theorem State.eventReadWrite_writer (q : PortId) : (s.eventReadWrite p w).writer q = s.writer q := by
  unfold State.eventReadWrite; (repeat' split) <;> simp
@[simp] theorem State.eventReadWrite_flushOwed (q : PortId) : ((s.eventReadWrite p w).port q).flushOwed = (s.port q).flushOwed := by
  unfold State.eventReadWrite; (repeat' split) <;> simp
@[simp] theorem State.eventReadWrite_requeueOwed (q : PortId) : ((s.eventReadWrite p w).port q).requeueOwed = (s.port q).requeueOwed := by
  unfold State.eventReadWrite; (repeat' split) <;> simp
@[simp] theorem State.eventReadWrite_entries : (s.eventReadWrite p w).entries = s.entries := by
  unfold State.eventReadWrite; (repeat' split) <;> simp
@[simp] theorem State.eventReadWrite_entry (d : ChannelId) : (s.eventReadWrite p w).entry d = s.entry d := by
  unfold State.eventReadWrite; (repeat' split) <;> simp
@[simp] theorem State.eventReadWrite_use (d : ChannelId) : (s.eventReadWrite p w).use d = s.use d := by
  unfold State.eventReadWrite; (repeat' split) <;> simp

end State.eventReadWrite

section State.startSignal

variable (s : State) (p : PortId) (v : VectorId)

@[simp] theorem State.startSignal_pending : (s.startSignal p v).pending = s.pending := by
  unfold State.startSignal; (repeat' split) <;> simp
@[simp] theorem State.startSignal_resetPin : (s.startSignal p v).resetPin = s.resetPin := by
  unfold State.startSignal; (repeat' split) <;> simp
@[simp] theorem State.startSignal_roundRobin : (s.startSignal p v).roundRobin = s.roundRobin := by
  unfold State.startSignal; (repeat' split) <;> simp
@[simp] theorem State.startSignal_onTick : (s.startSignal p v).onTick = s.onTick := by
  unfold State.startSignal; (repeat' split) <;> simp
@[simp] theorem State.startSignal_freeIndex : (s.startSignal p v).freeIndex = s.freeIndex := by
  unfold State.startSignal; (repeat' split) <;> simp
@[simp] theorem State.startSignal_pool : (s.startSignal p v).pool = s.pool := by
  unfold State.startSignal; (repeat' split) <;> simp
@[simp] theorem State.startSignal_holdOwed : (s.startSignal p v).holdOwed = s.holdOwed := by
  unfold State.startSignal; (repeat' split) <;> simp
@[simp] theorem State.startSignal_retestOwed : (s.startSignal p v).retestOwed = s.retestOwed := by
  unfold State.startSignal; (repeat' split) <;> simp
@[simp] theorem State.startSignal_record (r : RecordId) : (s.startSignal p v).record r = s.record r := by
  unfold State.startSignal; (repeat' split) <;> simp
@[simp] theorem State.startSignal_entries : (s.startSignal p v).entries = s.entries := by
  unfold State.startSignal; (repeat' split) <;> simp
@[simp] theorem State.startSignal_entry (d : ChannelId) : (s.startSignal p v).entry d = s.entry d := by
  unfold State.startSignal; (repeat' split) <;> simp
@[simp] theorem State.startSignal_use (d : ChannelId) : (s.startSignal p v).use d = s.use d := by
  unfold State.startSignal; (repeat' split) <;> simp
@[simp] theorem State.startSignal_piu (q : PortId) : (s.startSignal p v).piu q = s.piu q := by
  unfold State.startSignal; (repeat' split) <;> simp
@[simp] theorem State.startSignal_flushOwed (q : PortId) : ((s.startSignal p v).port q).flushOwed = (s.port q).flushOwed := by
  unfold State.startSignal; (repeat' split) <;> simp
@[simp] theorem State.startSignal_requeueOwed (q : PortId) : ((s.startSignal p v).port q).requeueOwed = (s.port q).requeueOwed := by
  unfold State.startSignal; (repeat' split) <;> simp

end State.startSignal

section attachBody

variable (s : State) (p : PortId)

@[simp] theorem attachBody_pending : (attachBody p s).pending = s.pending := by
  unfold attachBody; dsimp only; (repeat' split) <;> simp [attachTake]
@[simp] theorem attachBody_resetPin : (attachBody p s).resetPin = s.resetPin := by
  unfold attachBody; dsimp only; (repeat' split) <;> simp [attachTake]
@[simp] theorem attachBody_roundRobin : (attachBody p s).roundRobin = s.roundRobin := by
  unfold attachBody; dsimp only; (repeat' split) <;> simp [attachTake]
@[simp] theorem attachBody_onTick : (attachBody p s).onTick = s.onTick := by
  unfold attachBody; dsimp only; (repeat' split) <;> simp [attachTake]
@[simp] theorem attachBody_freeIndex : (attachBody p s).freeIndex = s.freeIndex := by
  unfold attachBody; dsimp only; (repeat' split) <;> simp [attachTake]
@[simp] theorem attachBody_pool : (attachBody p s).pool = s.pool := by
  unfold attachBody; dsimp only; (repeat' split) <;> simp [attachTake]
@[simp] theorem attachBody_holdOwed : (attachBody p s).holdOwed = s.holdOwed := by
  unfold attachBody; dsimp only; (repeat' split) <;> simp [attachTake]
@[simp] theorem attachBody_retestOwed : (attachBody p s).retestOwed = s.retestOwed := by
  unfold attachBody; dsimp only; (repeat' split) <;> simp [attachTake]
@[simp] theorem attachBody_record (r : RecordId) : (attachBody p s).record r = s.record r := by
  unfold attachBody; dsimp only; (repeat' split) <;> simp [attachTake]
@[simp] theorem attachBody_entries : (attachBody p s).entries = s.entries := by
  unfold attachBody; dsimp only; (repeat' split) <;> simp [attachTake]
@[simp] theorem attachBody_entry (d : ChannelId) : (attachBody p s).entry d = s.entry d := by
  unfold attachBody; dsimp only; (repeat' split) <;> simp [attachTake]
@[simp] theorem attachBody_use (d : ChannelId) : (attachBody p s).use d = s.use d := by
  unfold attachBody; dsimp only; (repeat' split) <;> simp [attachTake]

end attachBody

section detachByState

variable (s : State) (p : PortId) (mode : DetachMode)

@[simp] theorem detachByState_pending : (detachByState s p mode).pending = s.pending := by
  unfold detachByState; (repeat' split) <;> simp
@[simp] theorem detachByState_resetPin : (detachByState s p mode).resetPin = s.resetPin := by
  unfold detachByState; (repeat' split) <;> simp
@[simp] theorem detachByState_roundRobin : (detachByState s p mode).roundRobin = s.roundRobin := by
  unfold detachByState; (repeat' split) <;> simp
@[simp] theorem detachByState_onTick : (detachByState s p mode).onTick = s.onTick := by
  unfold detachByState; (repeat' split) <;> simp
@[simp] theorem detachByState_freeIndex : (detachByState s p mode).freeIndex = s.freeIndex := by
  unfold detachByState; (repeat' split) <;> simp
@[simp] theorem detachByState_pool : (detachByState s p mode).pool = s.pool := by
  unfold detachByState; (repeat' split) <;> simp
@[simp] theorem detachByState_holdOwed : (detachByState s p mode).holdOwed = s.holdOwed := by
  unfold detachByState; (repeat' split) <;> simp
@[simp] theorem detachByState_retestOwed : (detachByState s p mode).retestOwed = s.retestOwed := by
  unfold detachByState; (repeat' split) <;> simp
@[simp] theorem detachByState_record (r : RecordId) : (detachByState s p mode).record r = s.record r := by
  unfold detachByState; (repeat' split) <;> simp
@[simp] theorem detachByState_entries : (detachByState s p mode).entries = s.entries := by
  unfold detachByState; (repeat' split) <;> simp
@[simp] theorem detachByState_entry (d : ChannelId) : (detachByState s p mode).entry d = s.entry d := by
  unfold detachByState; (repeat' split) <;> simp
@[simp] theorem detachByState_use (d : ChannelId) : (detachByState s p mode).use d = s.use d := by
  unfold detachByState; (repeat' split) <;> simp

end detachByState

section detachTake

variable (s : State) (p : PortId) (mode : DetachMode)

@[simp] theorem detachTake_pending : (detachTake s p mode).pending = s.pending := by simp [detachTake]
@[simp] theorem detachTake_resetPin : (detachTake s p mode).resetPin = s.resetPin := by simp [detachTake]
@[simp] theorem detachTake_roundRobin : (detachTake s p mode).roundRobin = s.roundRobin := by simp [detachTake]
@[simp] theorem detachTake_onTick : (detachTake s p mode).onTick = s.onTick := by simp [detachTake]
@[simp] theorem detachTake_freeIndex : (detachTake s p mode).freeIndex = s.freeIndex := by simp [detachTake]
@[simp] theorem detachTake_pool : (detachTake s p mode).pool = s.pool := by simp [detachTake]
@[simp] theorem detachTake_holdOwed : (detachTake s p mode).holdOwed = s.holdOwed := by simp [detachTake]
@[simp] theorem detachTake_retestOwed : (detachTake s p mode).retestOwed = s.retestOwed := by simp [detachTake]
@[simp] theorem detachTake_record (r : RecordId) : (detachTake s p mode).record r = s.record r := by simp [detachTake]
@[simp] theorem detachTake_entries : (detachTake s p mode).entries = s.entries := by simp [detachTake]
@[simp] theorem detachTake_entry (d : ChannelId) : (detachTake s p mode).entry d = s.entry d := by simp [detachTake]
@[simp] theorem detachTake_use (d : ChannelId) : (detachTake s p mode).use d = s.use d := by simp [detachTake]

end detachTake

section detachBody

variable (s : State) (p : PortId)

@[simp] theorem detachBody_pending : (detachBody p s).pending = s.pending := by
  unfold detachBody; (repeat' split) <;> simp
@[simp] theorem detachBody_resetPin : (detachBody p s).resetPin = s.resetPin := by
  unfold detachBody; (repeat' split) <;> simp
@[simp] theorem detachBody_roundRobin : (detachBody p s).roundRobin = s.roundRobin := by
  unfold detachBody; (repeat' split) <;> simp
@[simp] theorem detachBody_onTick : (detachBody p s).onTick = s.onTick := by
  unfold detachBody; (repeat' split) <;> simp
@[simp] theorem detachBody_freeIndex : (detachBody p s).freeIndex = s.freeIndex := by
  unfold detachBody; (repeat' split) <;> simp
@[simp] theorem detachBody_pool : (detachBody p s).pool = s.pool := by
  unfold detachBody; (repeat' split) <;> simp
@[simp] theorem detachBody_holdOwed : (detachBody p s).holdOwed = s.holdOwed := by
  unfold detachBody; (repeat' split) <;> simp
@[simp] theorem detachBody_retestOwed : (detachBody p s).retestOwed = s.retestOwed := by
  unfold detachBody; (repeat' split) <;> simp
@[simp] theorem detachBody_record (r : RecordId) : (detachBody p s).record r = s.record r := by
  unfold detachBody; (repeat' split) <;> simp
@[simp] theorem detachBody_entries : (detachBody p s).entries = s.entries := by
  unfold detachBody; (repeat' split) <;> simp
@[simp] theorem detachBody_entry (d : ChannelId) : (detachBody p s).entry d = s.entry d := by
  unfold detachBody; (repeat' split) <;> simp
@[simp] theorem detachBody_use (d : ChannelId) : (detachBody p s).use d = s.use d := by
  unfold detachBody; (repeat' split) <;> simp

end detachBody

section retainBody

variable (s : State) (b : Bool) (p : PortId)

@[simp] theorem retainBody_pending : (retainBody b p s).pending = s.pending := by simp [retainBody]
@[simp] theorem retainBody_resetPin : (retainBody b p s).resetPin = s.resetPin := by simp [retainBody]
@[simp] theorem retainBody_roundRobin : (retainBody b p s).roundRobin = s.roundRobin := by simp [retainBody]
@[simp] theorem retainBody_onTick : (retainBody b p s).onTick = s.onTick := by simp [retainBody]
@[simp] theorem retainBody_freeIndex : (retainBody b p s).freeIndex = s.freeIndex := by simp [retainBody]
@[simp] theorem retainBody_pool : (retainBody b p s).pool = s.pool := by simp [retainBody]
@[simp] theorem retainBody_holdOwed : (retainBody b p s).holdOwed = s.holdOwed := by simp [retainBody]
@[simp] theorem retainBody_retestOwed : (retainBody b p s).retestOwed = s.retestOwed := by simp [retainBody]
@[simp] theorem retainBody_record (r : RecordId) : (retainBody b p s).record r = s.record r := by simp [retainBody]
@[simp] theorem retainBody_writer (q : PortId) : (retainBody b p s).writer q = s.writer q := by simp [retainBody]
@[simp] theorem retainBody_flushOwed (q : PortId) : ((retainBody b p s).port q).flushOwed = (s.port q).flushOwed := by simp [retainBody]
@[simp] theorem retainBody_requeueOwed (q : PortId) : ((retainBody b p s).port q).requeueOwed = (s.port q).requeueOwed := by simp [retainBody]
@[simp] theorem retainBody_entries : (retainBody b p s).entries = s.entries := by simp [retainBody]
@[simp] theorem retainBody_entry (d : ChannelId) : (retainBody b p s).entry d = s.entry d := by simp [retainBody]
@[simp] theorem retainBody_use (d : ChannelId) : (retainBody b p s).use d = s.use d := by simp [retainBody]

end retainBody

section State.orphanEntry

variable (s : State) (c : ChannelId) (u : Use)

@[simp] theorem State.orphanEntry_pending : (s.orphanEntry c u).pending = s.pending := by simp [State.orphanEntry]
@[simp] theorem State.orphanEntry_resetPin : (s.orphanEntry c u).resetPin = s.resetPin := by simp [State.orphanEntry]
@[simp] theorem State.orphanEntry_roundRobin : (s.orphanEntry c u).roundRobin = s.roundRobin := by simp [State.orphanEntry]
@[simp] theorem State.orphanEntry_onTick : (s.orphanEntry c u).onTick = s.onTick := by simp [State.orphanEntry]
@[simp] theorem State.orphanEntry_freeIndex : (s.orphanEntry c u).freeIndex = s.freeIndex := by simp [State.orphanEntry]
@[simp] theorem State.orphanEntry_piu (q : PortId) : (s.orphanEntry c u).piu q = s.piu q := by simp [State.orphanEntry]
@[simp] theorem State.orphanEntry_writer (q : PortId) : (s.orphanEntry c u).writer q = s.writer q := by simp [State.orphanEntry]
@[simp] theorem State.orphanEntry_flushOwed (q : PortId) : ((s.orphanEntry c u).port q).flushOwed = (s.port q).flushOwed := by simp [State.orphanEntry]
@[simp] theorem State.orphanEntry_requeueOwed (q : PortId) : ((s.orphanEntry c u).port q).requeueOwed = (s.port q).requeueOwed := by simp [State.orphanEntry]

end State.orphanEntry

section State.discardClosing

variable (s : State) (c : ChannelId) (u : Use)

@[simp] theorem State.discardClosing_pending : (s.discardClosing c u).pending = s.pending := by simp [State.discardClosing]
@[simp] theorem State.discardClosing_resetPin : (s.discardClosing c u).resetPin = s.resetPin := by simp [State.discardClosing]
@[simp] theorem State.discardClosing_roundRobin : (s.discardClosing c u).roundRobin = s.roundRobin := by simp [State.discardClosing]
@[simp] theorem State.discardClosing_onTick : (s.discardClosing c u).onTick = s.onTick := by simp [State.discardClosing]
@[simp] theorem State.discardClosing_freeIndex : (s.discardClosing c u).freeIndex = s.freeIndex := by simp [State.discardClosing]
@[simp] theorem State.discardClosing_piu (q : PortId) : (s.discardClosing c u).piu q = s.piu q := by simp [State.discardClosing]
@[simp] theorem State.discardClosing_writer (q : PortId) : (s.discardClosing c u).writer q = s.writer q := by simp [State.discardClosing]
@[simp] theorem State.discardClosing_flushOwed (q : PortId) : ((s.discardClosing c u).port q).flushOwed = (s.port q).flushOwed := by simp [State.discardClosing]
@[simp] theorem State.discardClosing_requeueOwed (q : PortId) : ((s.discardClosing c u).port q).requeueOwed = (s.port q).requeueOwed := by simp [State.discardClosing]

end State.discardClosing

section State.detachOn

variable (s : State) (p : PortId) (c : ChannelId) (u : Use)

@[simp] theorem State.detachOn_pending : (s.detachOn p c u).pending = s.pending := by
  unfold State.detachOn; (repeat' split) <;> simp
@[simp] theorem State.detachOn_resetPin : (s.detachOn p c u).resetPin = s.resetPin := by
  unfold State.detachOn; (repeat' split) <;> simp
@[simp] theorem State.detachOn_roundRobin : (s.detachOn p c u).roundRobin = s.roundRobin := by
  unfold State.detachOn; (repeat' split) <;> simp
@[simp] theorem State.detachOn_onTick : (s.detachOn p c u).onTick = s.onTick := by
  unfold State.detachOn; (repeat' split) <;> simp
@[simp] theorem State.detachOn_freeIndex : (s.detachOn p c u).freeIndex = s.freeIndex := by
  unfold State.detachOn; (repeat' split) <;> simp
@[simp] theorem State.detachOn_piu (q : PortId) : (s.detachOn p c u).piu q = s.piu q := by
  unfold State.detachOn; (repeat' split) <;> simp
@[simp] theorem State.detachOn_writer (q : PortId) : (s.detachOn p c u).writer q = s.writer q := by
  unfold State.detachOn; (repeat' split) <;> simp
@[simp] theorem State.detachOn_flushOwed (q : PortId) : ((s.detachOn p c u).port q).flushOwed = (s.port q).flushOwed := by
  unfold State.detachOn; (repeat' split) <;> simp
@[simp] theorem State.detachOn_requeueOwed (q : PortId) : ((s.detachOn p c u).port q).requeueOwed = (s.port q).requeueOwed := by
  unfold State.detachOn; (repeat' split) <;> simp

end State.detachOn

section State.resetPortWork

variable (s : State) (p : PortId)

@[simp] theorem State.resetPortWork_pending : (s.resetPortWork p).pending = s.pending := by simp [State.resetPortWork]
@[simp] theorem State.resetPortWork_resetPin : (s.resetPortWork p).resetPin = s.resetPin := by simp [State.resetPortWork]
@[simp] theorem State.resetPortWork_roundRobin : (s.resetPortWork p).roundRobin = s.roundRobin := by simp [State.resetPortWork]
@[simp] theorem State.resetPortWork_onTick : (s.resetPortWork p).onTick = s.onTick := by simp [State.resetPortWork]
@[simp] theorem State.resetPortWork_flushOwed (q : PortId) : ((s.resetPortWork p).port q).flushOwed = (s.port q).flushOwed := by simp [State.resetPortWork]
@[simp] theorem State.resetPortWork_requeueOwed (q : PortId) : ((s.resetPortWork p).port q).requeueOwed = (s.port q).requeueOwed := by simp [State.resetPortWork]

end State.resetPortWork

section State.resetByState

variable (s : State) (p : PortId)

@[simp] theorem State.resetByState_pending : (s.resetByState p).pending = s.pending := by
  unfold State.resetByState; (repeat' split) <;> simp
@[simp] theorem State.resetByState_resetPin : (s.resetByState p).resetPin = s.resetPin := by
  unfold State.resetByState; (repeat' split) <;> simp
@[simp] theorem State.resetByState_roundRobin : (s.resetByState p).roundRobin = s.roundRobin := by
  unfold State.resetByState; (repeat' split) <;> simp
@[simp] theorem State.resetByState_onTick : (s.resetByState p).onTick = s.onTick := by
  unfold State.resetByState; (repeat' split) <;> simp
@[simp] theorem State.resetByState_flushOwed (q : PortId) : ((s.resetByState p).port q).flushOwed = (s.port q).flushOwed := by
  unfold State.resetByState; (repeat' split) <;> simp
@[simp] theorem State.resetByState_requeueOwed (q : PortId) : ((s.resetByState p).port q).requeueOwed = (s.port q).requeueOwed := by
  unfold State.resetByState; (repeat' split) <;> simp

end State.resetByState

section State.takePortReset

variable (s : State) (p : PortId)

@[simp] theorem State.takePortReset_pending : (s.takePortReset p).pending = s.pending := by simp [State.takePortReset]
@[simp] theorem State.takePortReset_resetPin : (s.takePortReset p).resetPin = s.resetPin := by simp [State.takePortReset]
@[simp] theorem State.takePortReset_roundRobin : (s.takePortReset p).roundRobin = s.roundRobin := by simp [State.takePortReset]
@[simp] theorem State.takePortReset_onTick : (s.takePortReset p).onTick = s.onTick := by simp [State.takePortReset]

end State.takePortReset

section takeHeldResets

variable (ps : List PortId)

@[simp] theorem State.takeHeldResets_pending (s : State) : (s.takeHeldResets ps).pending = s.pending := by
  induction ps generalizing s with
  | nil => rfl
  | cons p ps ih => unfold State.takeHeldResets; rw [ih]; split <;> simp
@[simp] theorem State.takeHeldResets_resetPin (s : State) : (s.takeHeldResets ps).resetPin = s.resetPin := by
  induction ps generalizing s with
  | nil => rfl
  | cons p ps ih => unfold State.takeHeldResets; rw [ih]; split <;> simp
@[simp] theorem State.takeHeldResets_roundRobin (s : State) : (s.takeHeldResets ps).roundRobin = s.roundRobin := by
  induction ps generalizing s with
  | nil => rfl
  | cons p ps ih => unfold State.takeHeldResets; rw [ih]; split <;> simp
@[simp] theorem State.takeHeldResets_onTick (s : State) : (s.takeHeldResets ps).onTick = s.onTick := by
  induction ps generalizing s with
  | nil => rfl
  | cons p ps ih => unfold State.takeHeldResets; rw [ih]; split <;> simp

end takeHeldResets

section queryBody

variable (s : State) (p : PortId)

@[simp] theorem queryBody_pending : (queryBody p s).pending = s.pending := by
  unfold queryBody; dsimp only; (repeat' split) <;> simp
@[simp] theorem queryBody_resetPin : (queryBody p s).resetPin = s.resetPin := by
  unfold queryBody; dsimp only; (repeat' split) <;> simp
@[simp] theorem queryBody_roundRobin : (queryBody p s).roundRobin = s.roundRobin := by
  unfold queryBody; dsimp only; (repeat' split) <;> simp
@[simp] theorem queryBody_onTick : (queryBody p s).onTick = s.onTick := by
  unfold queryBody; dsimp only; (repeat' split) <;> simp
@[simp] theorem queryBody_freeIndex : (queryBody p s).freeIndex = s.freeIndex := by
  unfold queryBody; dsimp only; (repeat' split) <;> simp
@[simp] theorem queryBody_pool : (queryBody p s).pool = s.pool := by
  unfold queryBody; dsimp only; (repeat' split) <;> simp
@[simp] theorem queryBody_holdOwed : (queryBody p s).holdOwed = s.holdOwed := by
  unfold queryBody; dsimp only; (repeat' split) <;> simp
@[simp] theorem queryBody_retestOwed : (queryBody p s).retestOwed = s.retestOwed := by
  unfold queryBody; dsimp only; (repeat' split) <;> simp
@[simp] theorem queryBody_record (r : RecordId) : (queryBody p s).record r = s.record r := by
  unfold queryBody; dsimp only; (repeat' split) <;> simp
@[simp] theorem queryBody_writer (q : PortId) : (queryBody p s).writer q = s.writer q := by
  unfold queryBody; dsimp only; (repeat' split) <;> simp
@[simp] theorem queryBody_flushOwed (q : PortId) : ((queryBody p s).port q).flushOwed = (s.port q).flushOwed := by
  unfold queryBody; dsimp only; (repeat' split) <;> simp
@[simp] theorem queryBody_requeueOwed (q : PortId) : ((queryBody p s).port q).requeueOwed = (s.port q).requeueOwed := by
  unfold queryBody; dsimp only; (repeat' split) <;> simp
@[simp] theorem queryBody_entries : (queryBody p s).entries = s.entries := by
  unfold queryBody; dsimp only; (repeat' split) <;> simp
@[simp] theorem queryBody_entry (d : ChannelId) : (queryBody p s).entry d = s.entry d := by
  unfold queryBody; dsimp only; (repeat' split) <;> simp
@[simp] theorem queryBody_use (d : ChannelId) : (queryBody p s).use d = s.use d := by
  unfold queryBody; dsimp only; (repeat' split) <;> simp

end queryBody

section readCountersBody

variable (s : State) (p : PortId)

@[simp] theorem readCountersBody_pending : (readCountersBody p s).pending = s.pending := by
  unfold readCountersBody; dsimp only; (repeat' split) <;> simp
@[simp] theorem readCountersBody_resetPin : (readCountersBody p s).resetPin = s.resetPin := by
  unfold readCountersBody; dsimp only; (repeat' split) <;> simp
@[simp] theorem readCountersBody_roundRobin : (readCountersBody p s).roundRobin = s.roundRobin := by
  unfold readCountersBody; dsimp only; (repeat' split) <;> simp
@[simp] theorem readCountersBody_onTick : (readCountersBody p s).onTick = s.onTick := by
  unfold readCountersBody; dsimp only; (repeat' split) <;> simp
@[simp] theorem readCountersBody_freeIndex : (readCountersBody p s).freeIndex = s.freeIndex := by
  unfold readCountersBody; dsimp only; (repeat' split) <;> simp
@[simp] theorem readCountersBody_pool : (readCountersBody p s).pool = s.pool := by
  unfold readCountersBody; dsimp only; (repeat' split) <;> simp
@[simp] theorem readCountersBody_holdOwed : (readCountersBody p s).holdOwed = s.holdOwed := by
  unfold readCountersBody; dsimp only; (repeat' split) <;> simp
@[simp] theorem readCountersBody_retestOwed : (readCountersBody p s).retestOwed = s.retestOwed := by
  unfold readCountersBody; dsimp only; (repeat' split) <;> simp
@[simp] theorem readCountersBody_record (r : RecordId) : (readCountersBody p s).record r = s.record r := by
  unfold readCountersBody; dsimp only; (repeat' split) <;> simp
@[simp] theorem readCountersBody_writer (q : PortId) : (readCountersBody p s).writer q = s.writer q := by
  unfold readCountersBody; dsimp only; (repeat' split) <;> simp
@[simp] theorem readCountersBody_flushOwed (q : PortId) : ((readCountersBody p s).port q).flushOwed = (s.port q).flushOwed := by
  unfold readCountersBody; dsimp only; (repeat' split) <;> simp
@[simp] theorem readCountersBody_requeueOwed (q : PortId) : ((readCountersBody p s).port q).requeueOwed = (s.port q).requeueOwed := by
  unfold readCountersBody; dsimp only; (repeat' split) <;> simp
@[simp] theorem readCountersBody_use (d : ChannelId) : (readCountersBody p s).use d = s.use d := by
  unfold readCountersBody; dsimp only; (repeat' split) <;> simp

end readCountersBody

section State.argumentWrite

variable (s : State) (p : PortId) (k : Fin 8) (w : Word)

@[simp] theorem State.argumentWrite_pending : (s.argumentWrite p k w).pending = s.pending := by
  unfold State.argumentWrite; (repeat' split) <;> simp
@[simp] theorem State.argumentWrite_resetPin : (s.argumentWrite p k w).resetPin = s.resetPin := by
  unfold State.argumentWrite; (repeat' split) <;> simp
@[simp] theorem State.argumentWrite_roundRobin : (s.argumentWrite p k w).roundRobin = s.roundRobin := by
  unfold State.argumentWrite; (repeat' split) <;> simp
@[simp] theorem State.argumentWrite_onTick : (s.argumentWrite p k w).onTick = s.onTick := by
  unfold State.argumentWrite; (repeat' split) <;> simp
@[simp] theorem State.argumentWrite_freeIndex : (s.argumentWrite p k w).freeIndex = s.freeIndex := by
  unfold State.argumentWrite; (repeat' split) <;> simp
@[simp] theorem State.argumentWrite_pool : (s.argumentWrite p k w).pool = s.pool := by
  unfold State.argumentWrite; (repeat' split) <;> simp
@[simp] theorem State.argumentWrite_holdOwed : (s.argumentWrite p k w).holdOwed = s.holdOwed := by
  unfold State.argumentWrite; (repeat' split) <;> simp
@[simp] theorem State.argumentWrite_retestOwed : (s.argumentWrite p k w).retestOwed = s.retestOwed := by
  unfold State.argumentWrite; (repeat' split) <;> simp
@[simp] theorem State.argumentWrite_record (r : RecordId) : (s.argumentWrite p k w).record r = s.record r := by
  unfold State.argumentWrite; (repeat' split) <;> simp
@[simp] theorem State.argumentWrite_writer (q : PortId) : (s.argumentWrite p k w).writer q = s.writer q := by
  unfold State.argumentWrite; (repeat' split) <;> simp
@[simp] theorem State.argumentWrite_flushOwed (q : PortId) : ((s.argumentWrite p k w).port q).flushOwed = (s.port q).flushOwed := by
  unfold State.argumentWrite; (repeat' split) <;> simp
@[simp] theorem State.argumentWrite_requeueOwed (q : PortId) : ((s.argumentWrite p k w).port q).requeueOwed = (s.port q).requeueOwed := by
  unfold State.argumentWrite; (repeat' split) <;> simp
@[simp] theorem State.argumentWrite_entries : (s.argumentWrite p k w).entries = s.entries := by
  unfold State.argumentWrite; (repeat' split) <;> simp
@[simp] theorem State.argumentWrite_entry (d : ChannelId) : (s.argumentWrite p k w).entry d = s.entry d := by
  unfold State.argumentWrite; (repeat' split) <;> simp
@[simp] theorem State.argumentWrite_use (d : ChannelId) : (s.argumentWrite p k w).use d = s.use d := by
  unfold State.argumentWrite; (repeat' split) <;> simp
@[simp] theorem State.argumentWrite_nu (q : PortId) : (s.argumentWrite p k w).nu q = s.nu q := by
  unfold State.argumentWrite; (repeat' split) <;> simp

end State.argumentWrite

end Sys2Proof.Machine
end

