-- ==== Sys2Proof/Laws/Words.lean ====
section
/-! SUPPORT. What each operation does to the slot words of the summary images: events leave them, handings change one (R25, R131). -/

namespace Sys2Proof.Machine

@[simp] theorem State.countVector_consumerWords (s : State) (p : PortId) (v : VectorId) (r : PortId) :
    ((s.countVector p v).nu r).consumerWords = (s.nu r).consumerWords := by rw [State.countVector_nu]; split <;> simp_all
@[simp] theorem State.countVector_producerWords (s : State) (p : PortId) (v : VectorId) (r : PortId) :
    ((s.countVector p v).nu r).producerWords = (s.nu r).producerWords := by rw [State.countVector_nu]; split <;> simp_all
@[simp] theorem State.event_consumerWords (s : State) (p : PortId) (kind : EventKind) (qualifier channel : Byte) (detail : Half) (slot : Option SlotId) (r : PortId) :
    ((s.event p kind qualifier channel detail slot).nu r).consumerWords = (s.nu r).consumerWords := by rw [State.event_nu]; (repeat' split) <;> simp_all
@[simp] theorem State.event_producerWords (s : State) (p : PortId) (kind : EventKind) (qualifier channel : Byte) (detail : Half) (slot : Option SlotId) (r : PortId) :
    ((s.event p kind qualifier channel detail slot).nu r).producerWords = (s.nu r).producerWords := by rw [State.event_nu]; (repeat' split) <;> simp_all
@[simp] theorem State.partyEvent_consumerWords (s : State) (a : Party) (kind : EventKind) (qualifier : Byte) (c : ChannelId) (detail : Half) (r : PortId) :
    ((s.partyEvent a kind qualifier c detail).nu r).consumerWords = (s.nu r).consumerWords := by simp [State.partyEvent]
@[simp] theorem State.partyEvent_producerWords (s : State) (a : Party) (kind : EventKind) (qualifier : Byte) (c : ChannelId) (detail : Half) (r : PortId) :
    ((s.partyEvent a kind qualifier c detail).nu r).producerWords = (s.nu r).producerWords := by simp [State.partyEvent]
@[simp] theorem State.portEvent_consumerWords (s : State) (p : PortId) (kind : EventKind) (c : ChannelId) (detail : Half) (r : PortId) :
    ((s.portEvent p kind c detail).nu r).consumerWords = (s.nu r).consumerWords := by simp [State.portEvent]
@[simp] theorem State.portEvent_producerWords (s : State) (p : PortId) (kind : EventKind) (c : ChannelId) (detail : Half) (r : PortId) :
    ((s.portEvent p kind c detail).nu r).producerWords = (s.nu r).producerWords := by simp [State.portEvent]
@[simp] theorem State.tellParty_consumerWords (s : State) (a : Option Party) (kind : EventKind) (qualifier : Byte) (c : ChannelId) (detail : Half) (r : PortId) :
    ((s.tellParty a kind qualifier c detail).nu r).consumerWords = (s.nu r).consumerWords := by cases a <;> simp [State.tellParty]
@[simp] theorem State.tellParty_producerWords (s : State) (a : Option Party) (kind : EventKind) (qualifier : Byte) (c : ChannelId) (detail : Half) (r : PortId) :
    ((s.tellParty a kind qualifier c detail).nu r).producerWords = (s.nu r).producerWords := by cases a <;> simp [State.tellParty]
@[simp] theorem State.complete_consumerWords (s : State) (p : PortId) (status : Status) (results : Table Word 4) (r : PortId) :
    ((s.complete p status results).nu r).consumerWords = (s.nu r).consumerWords := by unfold State.complete; dsimp only; split <;> simp
@[simp] theorem State.complete_producerWords (s : State) (p : PortId) (status : Status) (results : Table Word 4) (r : PortId) :
    ((s.complete p status results).nu r).producerWords = (s.nu r).producerWords := by unfold State.complete; dsimp only; split <;> simp
@[simp] theorem State.refuse_consumerWords (s : State) (p : PortId) (st : Status) (r : PortId) :
    ((s.refuse p st).nu r).consumerWords = (s.nu r).consumerWords := by simp [State.refuse]
@[simp] theorem State.refuse_producerWords (s : State) (p : PortId) (st : Status) (r : PortId) :
    ((s.refuse p st).nu r).producerWords = (s.nu r).producerWords := by simp [State.refuse]
@[simp] theorem State.finish_consumerWords (s : State) (p : PortId) (r : PortId) :
    ((s.finish p).nu r).consumerWords = (s.nu r).consumerWords := by simp [State.finish]
@[simp] theorem State.finish_producerWords (s : State) (p : PortId) (r : PortId) :
    ((s.finish p).nu r).producerWords = (s.nu r).producerWords := by simp [State.finish]

section words

variable (s : State) (a : Party) (r : PortId) (i : SlotId) (c : ChannelId)

@[simp] theorem State.modConsumerWord_consumerWords (f : ConsumerWord → ConsumerWord) :
    ((s.modConsumerWord a f).nu r).consumerWords.read i =
      if r = a.port ∧ i = a.slot then f ((s.nu r).consumerWords.read i) else (s.nu r).consumerWords.read i := by
  unfold State.modConsumerWord
  by_cases h : r = a.port
  · subst h
    by_cases hi : i = a.slot <;> simp [hi]
  · simp [h]
@[simp] theorem State.modConsumerWord_producerWords (f : ConsumerWord → ConsumerWord) :
    ((s.modConsumerWord a f).nu r).producerWords = (s.nu r).producerWords := by
  unfold State.modConsumerWord
  by_cases h : r = a.port <;> simp [h]
@[simp] theorem State.modProducerWord_producerWords (f : ProducerWord → ProducerWord) :
    ((s.modProducerWord a f).nu r).producerWords.read i =
      if r = a.port ∧ i = a.slot then f ((s.nu r).producerWords.read i) else (s.nu r).producerWords.read i := by
  unfold State.modProducerWord
  by_cases h : r = a.port
  · subst h
    by_cases hi : i = a.slot <;> simp [hi]
  · simp [h]
@[simp] theorem State.modProducerWord_consumerWords (f : ProducerWord → ProducerWord) :
    ((s.modProducerWord a f).nu r).consumerWords = (s.nu r).consumerWords := by
  unfold State.modProducerWord
  by_cases h : r = a.port <;> simp [h]

@[simp] theorem State.bindConsumer_consumerWords :
    ((s.bindConsumer a c).nu r).consumerWords.read i = if r = a.port ∧ i = a.slot then ⟨true, c, 0⟩ else (s.nu r).consumerWords.read i := by
  simp [State.bindConsumer]
@[simp] theorem State.bindConsumer_producerWords : ((s.bindConsumer a c).nu r).producerWords = (s.nu r).producerWords := by
  simp [State.bindConsumer]
@[simp] theorem State.bindConsumer_piu :
    (s.bindConsumer a c).piu r = if r = a.port then { s.piu r with credit := (s.piu r).credit.write a.slot 0 } else s.piu r := by
  by_cases h : r = a.port
  · subst h; simp [State.bindConsumer]
  · simp [State.bindConsumer, h]
@[simp] theorem State.bindProducer_producerWords :
    ((s.bindProducer a c).nu r).producerWords.read i =
      if r = a.port ∧ i = a.slot then ⟨true, false, c, 65535⟩ else (s.nu r).producerWords.read i := by
  simp [State.bindProducer]
@[simp] theorem State.bindProducer_consumerWords : ((s.bindProducer a c).nu r).consumerWords = (s.nu r).consumerWords := by
  simp [State.bindProducer]

variable (b : Option Party)

@[simp] theorem State.unbindConsumer_consumerWords :
    ((s.unbindConsumer b).nu r).consumerWords.read i =
      if b = some ⟨r, i⟩ then { (s.nu r).consumerWords.read i with bound := false } else (s.nu r).consumerWords.read i := by
  cases b with
  | none => simp [State.unbindConsumer]
  | some a =>
    obtain ⟨q, k⟩ := a
    by_cases h : r = q <;> by_cases hi : i = k <;> simp [State.unbindConsumer, h, hi, eq_comm]
@[simp] theorem State.unbindConsumer_producerWords : ((s.unbindConsumer b).nu r).producerWords = (s.nu r).producerWords := by
  cases b <;> simp [State.unbindConsumer]
@[simp] theorem State.unbindProducer_producerWords :
    ((s.unbindProducer b).nu r).producerWords.read i =
      if b = some ⟨r, i⟩ then { (s.nu r).producerWords.read i with bound := false } else (s.nu r).producerWords.read i := by
  cases b with
  | none => simp [State.unbindProducer]
  | some a =>
    obtain ⟨q, k⟩ := a
    by_cases h : r = q <;> by_cases hi : i = k <;> simp [State.unbindProducer, h, hi, eq_comm]
@[simp] theorem State.unbindProducer_consumerWords : ((s.unbindProducer b).nu r).consumerWords = (s.nu r).consumerWords := by
  cases b <;> simp [State.unbindProducer]
@[simp] theorem State.handHold_producerWords (held : Bool) :
    ((s.handHold b held).nu r).producerWords.read i =
      if b = some ⟨r, i⟩ then { (s.nu r).producerWords.read i with hold := held } else (s.nu r).producerWords.read i := by
  cases b with
  | none => simp [State.handHold]
  | some a =>
    obtain ⟨q, k⟩ := a
    by_cases h : r = q <;> by_cases hi : i = k <;> simp [State.handHold, h, hi, eq_comm]
@[simp] theorem State.handHold_consumerWords (held : Bool) : ((s.handHold b held).nu r).consumerWords = (s.nu r).consumerWords := by
  cases b <;> simp [State.handHold]
@[simp] theorem State.handWriteIndex_consumerWords (w : Half) :
    ((s.handWriteIndex b w).nu r).consumerWords.read i =
      if b = some ⟨r, i⟩ then { (s.nu r).consumerWords.read i with writeIndex := w } else (s.nu r).consumerWords.read i := by
  cases b with
  | none => simp [State.handWriteIndex]
  | some a =>
    obtain ⟨q, k⟩ := a
    by_cases h : r = q <;> by_cases hi : i = k <;> simp [State.handWriteIndex, h, hi, eq_comm]
@[simp] theorem State.handWriteIndex_producerWords (w : Half) : ((s.handWriteIndex b w).nu r).producerWords = (s.nu r).producerWords := by
  cases b <;> simp [State.handWriteIndex]
@[simp] theorem State.handReceipt_producerWords (x : Half) :
    ((s.handReceipt b x).nu r).producerWords.read i =
      if b = some ⟨r, i⟩ then { (s.nu r).producerWords.read i with lastConfirmed := x } else (s.nu r).producerWords.read i := by
  cases b with
  | none => simp [State.handReceipt]
  | some a =>
    obtain ⟨q, k⟩ := a
    by_cases h : r = q <;> by_cases hi : i = k <;> simp [State.handReceipt, h, hi, eq_comm]
@[simp] theorem State.handReceipt_consumerWords (x : Half) : ((s.handReceipt b x).nu r).consumerWords = (s.nu r).consumerWords := by
  cases b <;> simp [State.handReceipt]

end words

end Sys2Proof.Machine
end

