-- ==== Sys2Proof/Laws/Answers.lean ====
section
/-! SUPPORT. A write of the command word, once for the fourteen commands: an open, IDLE slot in a port state that admits the command runs its body; and what
turning a command away does, in the words of the statements. -/

namespace Sys2Proof.Machine

/-- An open window is not closed. -/
theorem State.WindowOpen.notClosed {s : State} {p : PortId} (h : s.WindowOpen p) : s.windowClosed p = false := by
  simp [State.windowClosed, h.1, h.2]

/-- The fourteen command rows are writes of the command word with their kind. -/
theorem exec_slotCommand {i : Instr} {p : PortId} {c : Command} {n : Bool} (h : slotCommand i = some (p, c, n)) (s : State) :
    exec i s = .next (s.takeCommand p (kindOf c) n (commandBody p c)) := by
  cases i <;> simp [slotCommand] at h <;> (obtain ⟨rfl, rfl, rfl⟩ := h) <;> rfl

/-- A command that is taken runs its body on the state with the slot latched (R162). -/
theorem exec_taken {i : Instr} {p : PortId} {c : Command} {n : Bool} (h : slotCommand i = some (p, c, n)) {s : State} (hs : s.SlotReady p)
    (ha : admits (s.piu p).state c = true) :
    exec i s = .next (commandBody p c (s.modPiu p fun u => u.latch (kindOf c) n)) := by
  rw [exec_slotCommand h]
  rw [State.takeCommand_taken _ _ _ _ _ hs.1.notClosed hs.2 (commandOfKind_kindOf c) ha]

/-- The kind, NOTIFY and arguments of the slot a command was taken from (R162). -/
@[simp] theorem Piu.latch_slot (u : Piu) (k : Byte) (n : Bool) :
    (u.latch k n).slot = { u.slot with busy := true, latched := u.slot.arguments, kind := k, notify := n, overrun := false } := rfl
@[simp] theorem Piu.latch_state (u : Piu) (k : Byte) (n : Bool) : (u.latch k n).state = u.state := rfl

/-- The latched arguments of a command just taken are the argument words (R161). -/
@[simp] theorem State.args_latch (s : State) (p : PortId) (k : Byte) (n : Bool) :
    (s.modPiu p fun u => u.latch k n).args p = (s.piu p).slot.arguments := by
  simp [State.args]

/-- Taking a command changes no port state. -/
theorem State.latch_state (s : State) (p q : PortId) (k : Byte) (n : Bool) :
    ((s.modPiu p fun u => u.latch k n).piu q).state = (s.piu q).state := by
  by_cases h : q = p <;> simp [h]

/-- A completion right after a step that makes the events `ns` from a state whose slot was just taken. -/
theorem State.EventsMade.completeAfter {s t : State} {p : PortId} {k : Byte} {n : Bool} {ns : PortId → List Notice} (h : s.EventsMade t ns)
    (hp : ∀ q, (t.piu q).state = (s.piu q).state) (hk : (t.piu p).slot.kind = k) (hn : (t.piu p).slot.notify = n) (status : Status)
    (results : Table Word 4) : s.EventsMade (t.complete p status results) fun q => ns q ++ noticeDone p n k status q := by
  have := State.EventsMade.complete t p status results
  rw [hk, hn] at this
  exact h.trans this hp

/-- Turning a taken command away (R165, R166). -/
theorem State.TurnedAway.intro (s : State) (p : PortId) (k : Byte) (n : Bool) (st : Status) :
    s.TurnedAway ((s.modPiu p fun u => u.latch k n).refuse p st) p k n st := by
  refine ⟨?_, ?_, ?_, ?_, by simp, ⟨by simp, by simp, by simp⟩, by simp, by simp, by simp, by simp, by simp, fun q => by simp⟩
  · simp [State.refuse, Piu.latch, CommandSlot.answered]
  · intro q hq
    simp [State.refuse, hq]
  · refine State.EventsMade.afterNone (State.EventsMade.ofEq (t := s.modPiu p fun u => u.latch k n) fun q => by simp) ?_
      fun q => State.latch_state s p q k n
    have := State.EventsMade.complete (s.modPiu p fun u => u.latch k n) p st (Table.fill 4 0)
    simpa only [State.refuse, State.modPiu_piu, if_true, Piu.latch_slot] using this
  · intro q
    simp

end Sys2Proof.Machine
end

