-- ==== Sys2Proof/Laws/Memory.lean ====
section
/-! SUPPORT. The byte memories: reading after writing, and the canonical form, which every operation keeps. -/

namespace Sys2Proof.Machine

/-- An address below every listed address reads 0. -/
theorem Memory.read_of_lt (m : Memory) (a : Nat) (h : ∀ c ∈ m, a < c.1) : Memory.read m a = 0 := by
  induction m with
  | nil => rfl
  | cons c m ih =>
    obtain ⟨k, v⟩ := c
    have hk : a < k := h (k, v) (by simp)
    rw [Memory.read, if_neg (by omega)]
    exact ih fun c hc => h c (by simp [hc])

/-- The canonical form of a list with a head. -/
theorem Memory.wf_cons {c : Host.Cell} {m : Memory} :
    Memory.wf (c :: m) ↔ (∀ d ∈ m, c.1 < d.1) ∧ c.2 ≠ 0 ∧ Memory.wf m := by
  simp only [Memory.wf, List.pairwise_cons, List.mem_cons, forall_eq_or_imp]
  tauto

/-- The addresses listed after a write: those listed before, and the one written. -/
theorem Memory.mem_write {m : Memory} {a : Nat} {b : Byte} {c : Host.Cell} (h : c ∈ Memory.write m a b) : c.1 = a ∨ c ∈ m := by
  induction m with
  | nil =>
    unfold Memory.write at h
    split at h
    · cases h
    · rw [List.mem_singleton] at h
      exact Or.inl (by rw [h])
  | cons d m ih =>
    obtain ⟨k, v⟩ := d
    unfold Memory.write at h
    split at h
    · split at h
      · exact Or.inr h
      · rcases List.mem_cons.mp h with h | h
        · exact Or.inl (by rw [h])
        · exact Or.inr h
    · split at h
      · split at h
        · exact Or.inr (List.mem_cons_of_mem _ h)
        · rcases List.mem_cons.mp h with h | h
          · exact Or.inl (by rw [h])
          · exact Or.inr (List.mem_cons_of_mem _ h)
      · rcases List.mem_cons.mp h with h | h
        · exact Or.inr (by rw [h]; simp)
        · rcases ih h with h | h
          · exact Or.inl h
          · exact Or.inr (List.mem_cons_of_mem _ h)

/-- A write keeps the canonical form. -/
theorem Memory.wf_write {m : Memory} (h : Memory.wf m) (a : Nat) (b : Byte) : Memory.wf (Memory.write m a b) := by
  induction m with
  | nil =>
    unfold Memory.write
    split
    · exact h
    · next hb => exact Memory.wf_cons.mpr ⟨by simp, hb, h⟩
  | cons d m ih =>
    obtain ⟨k, v⟩ := d
    obtain ⟨h1, h2, h3⟩ := Memory.wf_cons.mp h
    unfold Memory.write
    split
    · next hlt =>
      split
      · exact h
      · next hb =>
        refine Memory.wf_cons.mpr ⟨?_, hb, h⟩
        intro d hd
        rcases List.mem_cons.mp hd with hd | hd
        · rw [hd]; exact hlt
        · exact hlt.trans (h1 d hd)
    · split
      · next heq =>
        split
        · exact h3
        · next hb => exact Memory.wf_cons.mpr ⟨by rw [heq]; exact h1, hb, h3⟩
      · next hge hne =>
        refine Memory.wf_cons.mpr ⟨?_, h2, ih h3⟩
        intro d hd
        rcases Memory.mem_write hd with hd | hd
        · rw [hd]
          have : k ≠ a := fun e => hne e.symm
          show k < a
          omega
        · exact h1 d hd

/-- Reading after a write. -/
theorem Memory.read_write {m : Memory} (h : Memory.wf m) (a x : Nat) (b : Byte) :
    Memory.read (Memory.write m a b) x = if x = a then b else Memory.read m x := by
  induction m with
  | nil =>
    unfold Memory.write
    split
    · next hb => subst hb; simp [Memory.read]
    · by_cases hx : x = a
      · simp [Memory.read, hx]
      · have : ¬ a = x := fun e => hx e.symm
        simp [Memory.read, hx, this]
  | cons d m ih =>
    obtain ⟨k, v⟩ := d
    obtain ⟨h1, h2, h3⟩ := Memory.wf_cons.mp h
    unfold Memory.write
    split
    · next hlt =>
      have hz : Memory.read ((k, v) :: m) a = 0 := by
        refine Memory.read_of_lt _ _ ?_
        intro c hc
        rcases List.mem_cons.mp hc with hc | hc
        · rw [hc]; exact hlt
        · exact hlt.trans (h1 c hc)
      by_cases hx : x = a
      · subst hx
        split
        · next hb => simp [hb, hz]
        · simp [Memory.read]
      · have hx' : ¬ a = x := fun e => hx e.symm
        split <;> simp [Memory.read, hx']
    · split
      · next heq =>
        subst heq
        have hz : Memory.read m a = 0 := Memory.read_of_lt _ _ h1
        by_cases hx : x = a
        · subst hx
          split
          · next hb => simp [hb, hz]
          · simp [Memory.read]
        · have hx' : ¬ a = x := fun e => hx e.symm
          split <;> simp [Memory.read, hx']
      · next hge hne =>
        have hne' : ¬ k = a := fun e => hne e.symm
        by_cases hk : k = x
        · subst hk
          simp [Memory.read, hne']
        · simp [Memory.read, hk, ih h3]

/-- A write of a word keeps the canonical form. -/
theorem Memory.wf_writeWord {m : Memory} (h : Memory.wf m) (a : Nat) (w : Word) : Memory.wf (m.writeWord a w) :=
  Memory.wf_write (Memory.wf_write (Memory.wf_write (Memory.wf_write h _ _) _ _) _ _) _ _

/-- A byte outside the word written reads as before. -/
theorem Memory.read_writeWord_ne {m : Memory} (h : Memory.wf m) (a : Nat) (w : Word) {x : Nat} (hx : x < a ∨ a + 4 ≤ x) :
    Memory.read (m.writeWord a w) x = Memory.read m x := by
  unfold Memory.writeWord
  rw [Memory.read_write (Memory.wf_write (Memory.wf_write (Memory.wf_write h _ _) _ _) _ _),
    Memory.read_write (Memory.wf_write (Memory.wf_write h _ _) _ _), Memory.read_write (Memory.wf_write h _ _), Memory.read_write h]
  rw [if_neg (by omega), if_neg (by omega), if_neg (by omega), if_neg (by omega)]

/-- The bytes of the word written, little-endian (R171). -/
theorem Memory.read_writeWord {m : Memory} (h : Memory.wf m) (a : Nat) (w : Word) (i : Nat) (hi : i < 4) :
    Memory.read (m.writeWord a w) (a + i) = w.extractLsb' (8 * i) 8 := by
  unfold Memory.writeWord
  rw [Memory.read_write (Memory.wf_write (Memory.wf_write (Memory.wf_write h _ _) _ _) _ _),
    Memory.read_write (Memory.wf_write (Memory.wf_write h _ _) _ _), Memory.read_write (Memory.wf_write h _ _), Memory.read_write h]
  have : i = 0 ∨ i = 1 ∨ i = 2 ∨ i = 3 := by omega
  rcases this with rfl | rfl | rfl | rfl <;> simp

/-- The word written reads back (R55). -/
theorem Memory.readWord_writeWord {m : Memory} (h : Memory.wf m) (a : Nat) (w : Word) : (m.writeWord a w).readWord a = w := by
  have h0 := Memory.read_writeWord h a w 0 (by omega)
  simp only [Nat.add_zero, Nat.mul_zero] at h0
  unfold Memory.readWord
  rw [Memory.read_writeWord h a w 3 (by omega), Memory.read_writeWord h a w 2 (by omega), Memory.read_writeWord h a w 1 (by omega), h0]
  apply BitVec.eq_of_getLsbD_eq
  intro i hi
  simp only [BitVec.getLsbD_append, BitVec.getLsbD_extractLsb']
  have hcases : i < 8 ∨ (8 ≤ i ∧ i < 16) ∨ (16 ≤ i ∧ i < 24) ∨ (24 ≤ i ∧ i < 32) := by omega
  rcases hcases with hc | hc | hc | hc
  · simp [hc]
  · have h1 : ¬ i < 8 := by omega
    have h2 : i - 8 < 8 := by omega
    have h3 : 8 + (i - 8) = i := by omega
    simp [h1, h2, h3]
  · have h1 : ¬ i < 8 := by omega
    have h2 : ¬ i - 8 < 8 := by omega
    have h3 : i - 8 - 8 < 8 := by omega
    have h4 : 16 + (i - 8 - 8) = i := by omega
    simp [h1, h2, h3, h4]
  · have h1 : ¬ i < 8 := by omega
    have h2 : ¬ i - 8 < 8 := by omega
    have h3 : ¬ i - 8 - 8 < 8 := by omega
    have h4 : i - 8 - 8 - 8 < 8 := by omega
    have h5 : 24 + (i - 8 - 8 - 8) = i := by omega
    simp [h1, h2, h3, h4, h5]

/-- The copy of a payload keeps the canonical form of the segment store (R64). -/
theorem Memory.wf_copyBytes {m : Memory} (h : Memory.wf m) (buffer : Memory) (chain : List SegmentId) (n : Nat) :
    Memory.wf (copyBytes buffer chain n m) := by
  induction n with
  | zero => exact h
  | succ n ih => exact Memory.wf_write ih _ _

/-- A byte outside the copied addresses reads as before (R64). -/
theorem Memory.read_copyBytes_ne {m : Memory} (h : Memory.wf m) (buffer : Memory) (chain : List SegmentId) (n x : Nat)
    (hx : ∀ i < n, x ≠ segmentAddress chain i) : Memory.read (copyBytes buffer chain n m) x = Memory.read m x := by
  induction n with
  | zero => rfl
  | succ n ih =>
    rw [copyBytes, Memory.read_write (Memory.wf_copyBytes h _ _ _), if_neg (hx n (by omega))]
    exact ih fun i hi => hx i (by omega)

end Sys2Proof.Machine
end

