-- ==== Sys2Proof/Laws/PerInstr.lean ====
section
/-! SUPPORT. What well-formedness says of each command, command by command. -/

namespace Sys2Proof.Laws.WellFormedSound

/-- A well-formed BAD_COMMAND has a kind that is none of the fourteen (R162); a well-formed WINDOW_WRITE names no word that is a row of its own (R170). -/
def Statement (i : Instr) : Prop :=
  i.WellFormed = true →
    (∀ p k n, i = .badCommand p k n → commandOfKind k.toNat = none) ∧
    ∀ p z o w, i = .windowWrite p z o w →
      windowTarget z o ≠ .command ∧ windowTarget z o ≠ .eventRead ∧ (∀ k, windowTarget z o ≠ .compose k) ∧
        (∀ c, windowTarget z o ≠ .credit c) ∧ ∀ v, windowTarget z o ≠ .rearm v

/-- A command that is neither BAD_COMMAND nor WINDOW_WRITE satisfies the statement. -/
theorem of_other {i : Instr} (h1 : ∀ p k n, i ≠ .badCommand p k n) (h2 : ∀ p z o w, i ≠ .windowWrite p z o w) : Statement i :=
  fun _ => ⟨fun p k n h => absurd h (h1 p k n), fun p z o w h => absurd h (h2 p z o w)⟩

theorem offer (p : PortId) (notify : Bool) : Statement (.offer p notify) := of_other (fun _ _ _ e => by cases e) fun _ _ _ _ e => by cases e
theorem accept (p : PortId) (notify : Bool) : Statement (.accept p notify) := of_other (fun _ _ _ e => by cases e) fun _ _ _ _ e => by cases e
theorem decline (p : PortId) (notify : Bool) : Statement (.decline p notify) := of_other (fun _ _ _ e => by cases e) fun _ _ _ _ e => by cases e
theorem close (p : PortId) (notify : Bool) : Statement (.close p notify) := of_other (fun _ _ _ e => by cases e) fun _ _ _ _ e => by cases e
theorem post (p : PortId) (notify : Bool) : Statement (.post p notify) := of_other (fun _ _ _ e => by cases e) fun _ _ _ _ e => by cases e
theorem land (p : PortId) (notify : Bool) : Statement (.land p notify) := of_other (fun _ _ _ e => by cases e) fun _ _ _ _ e => by cases e
theorem confirm (p : PortId) (notify : Bool) : Statement (.confirm p notify) := of_other (fun _ _ _ e => by cases e) fun _ _ _ _ e => by cases e
theorem query (p : PortId) (notify : Bool) : Statement (.query p notify) := of_other (fun _ _ _ e => by cases e) fun _ _ _ _ e => by cases e
theorem readCounters (p : PortId) (notify : Bool) : Statement (.readCounters p notify) := of_other (fun _ _ _ e => by cases e) fun _ _ _ _ e => by cases e
theorem setVector (p : PortId) (notify : Bool) : Statement (.setVector p notify) := of_other (fun _ _ _ e => by cases e) fun _ _ _ _ e => by cases e
theorem attach (p : PortId) (notify : Bool) : Statement (.attach p notify) := of_other (fun _ _ _ e => by cases e) fun _ _ _ _ e => by cases e
theorem detach (p : PortId) (notify : Bool) : Statement (.detach p notify) := of_other (fun _ _ _ e => by cases e) fun _ _ _ _ e => by cases e
theorem armRetain (p : PortId) (notify : Bool) : Statement (.armRetain p notify) := of_other (fun _ _ _ e => by cases e) fun _ _ _ _ e => by cases e
theorem disarmRetain (p : PortId) (notify : Bool) : Statement (.disarmRetain p notify) := of_other (fun _ _ _ e => by cases e) fun _ _ _ _ e => by cases e
theorem badCommand (p : PortId) (kind : Byte) (notify : Bool) : Statement (.badCommand p kind notify) := by
  intro h
  refine ⟨fun q k n e => ?_, fun _ _ _ _ e => by cases e⟩
  cases e
  exact Option.isNone_iff_eq_none.mp h
theorem cmdOverrun (p : PortId) (kind : Byte) (notify : Bool) : Statement (.cmdOverrun p kind notify) := of_other (fun _ _ _ e => by cases e) fun _ _ _ _ e => by cases e
theorem composeBufferWrite (p : PortId) (index : Fin 256) (value : Word) : Statement (.composeBufferWrite p index value) := of_other (fun _ _ _ e => by cases e) fun _ _ _ _ e => by cases e
theorem creditWrite (p : PortId) (slot : SlotId) (value : Word) : Statement (.creditWrite p slot value) := of_other (fun _ _ _ e => by cases e) fun _ _ _ _ e => by cases e
theorem eventReadIndexWrite (p : PortId) (value : Word) : Statement (.eventReadIndexWrite p value) := of_other (fun _ _ _ e => by cases e) fun _ _ _ _ e => by cases e
theorem rearm (p : PortId) (vector : VectorId) (value : Word) : Statement (.rearm p vector value) := of_other (fun _ _ _ e => by cases e) fun _ _ _ _ e => by cases e
theorem windowWrite (p : PortId) (size : AccessSize) (offset : BitVec 13) (value : Word) : Statement (.windowWrite p size offset value) := by
  intro h
  refine ⟨fun _ _ _ e => (by cases e), fun q z o w e => ?_⟩
  cases e
  have h' : plainWindowTarget (windowTarget size offset) = true := h
  refine ⟨?_, ?_, fun k => ?_, fun c => ?_, fun v => ?_⟩ <;> intro e <;> rw [e] at h' <;> cases h'
theorem deviceReset : Statement (.deviceReset) := of_other (fun _ _ _ e => by cases e) fun _ _ _ _ e => by cases e
theorem deviceResetRelease : Statement (.deviceResetRelease) := of_other (fun _ _ _ e => by cases e) fun _ _ _ _ e => by cases e
theorem portReset (p : PortId) : Statement (.portReset p) := of_other (fun _ _ _ e => by cases e) fun _ _ _ _ e => by cases e
theorem portResetRelease (p : PortId) : Statement (.portResetRelease p) := of_other (fun _ _ _ e => by cases e) fun _ _ _ _ e => by cases e
theorem quiesceEnd (p : PortId) : Statement (.quiesceEnd p) := of_other (fun _ _ _ e => by cases e) fun _ _ _ _ e => by cases e
theorem detachmentOnEntry (p : PortId) (channel : ChannelId) : Statement (.detachmentOnEntry p channel) := of_other (fun _ _ _ e => by cases e) fun _ _ _ _ e => by cases e
theorem requeue (p : PortId) (channel : ChannelId) : Statement (.requeue p channel) := of_other (fun _ _ _ e => by cases e) fun _ _ _ _ e => by cases e
theorem poolHoldRequest (channel : ChannelId) : Statement (.poolHoldRequest channel) := of_other (fun _ _ _ e => by cases e) fun _ _ _ _ e => by cases e
theorem poolRetest (channel : ChannelId) : Statement (.poolRetest channel) := of_other (fun _ _ _ e => by cases e) fun _ _ _ _ e => by cases e
theorem offerTimerExpiry (channel : ChannelId) : Statement (.offerTimerExpiry channel) := of_other (fun _ _ _ e => by cases e) fun _ _ _ _ e => by cases e
theorem holdTimerExpiry (channel : ChannelId) : Statement (.holdTimerExpiry channel) := of_other (fun _ _ _ e => by cases e) fun _ _ _ _ e => by cases e
theorem coalescingDelayExpiry (p : PortId) (vector : VectorId) : Statement (.coalescingDelayExpiry p vector) := of_other (fun _ _ _ e => by cases e) fun _ _ _ _ e => by cases e
theorem writeTimeout (x : LinkTimeout) : Statement (.writeTimeout x) := of_other (fun _ _ _ e => by cases e) fun _ _ _ _ e => by cases e
theorem copyCompletion (p : PortId) : Statement (.copyCompletion p) := of_other (fun _ _ _ e => by cases e) fun _ _ _ _ e => by cases e
theorem landingJobStart (p : PortId) : Statement (.landingJobStart p) := of_other (fun _ _ _ e => by cases e) fun _ _ _ _ e => by cases e
theorem flushJobStart (p : PortId) : Statement (.flushJobStart p) := of_other (fun _ _ _ e => by cases e) fun _ _ _ _ e => by cases e
theorem signalJobStart (p : PortId) : Statement (.signalJobStart p) := of_other (fun _ _ _ e => by cases e) fun _ _ _ _ e => by cases e
theorem linkWriteOk (a : LinkAnswer) : Statement (.linkWriteOk a) := of_other (fun _ _ _ e => by cases e) fun _ _ _ _ e => by cases e
theorem landingCompletion (a : LinkAnswer) : Statement (.landingCompletion a) := of_other (fun _ _ _ e => by cases e) fun _ _ _ _ e => by cases e
theorem flushCompletion (a : LinkAnswer) : Statement (.flushCompletion a) := of_other (fun _ _ _ e => by cases e) fun _ _ _ _ e => by cases e
theorem signalCompletion (a : LinkAnswer) : Statement (.signalCompletion a) := of_other (fun _ _ _ e => by cases e) fun _ _ _ _ e => by cases e
theorem linkWriteError (x : LinkError) : Statement (.linkWriteError x) := of_other (fun _ _ _ e => by cases e) fun _ _ _ _ e => by cases e

end Sys2Proof.Laws.WellFormedSound
end

