-- ==== Sys2Proof/Laws/Pins.lean ====
section
/-! SUPPORT. No operation but the two rows of a reset pin changes the level of a PnRST_n. -/

namespace Sys2Proof.Machine

/-- A change of a Port Interface Unit that keeps the pin's level keeps every pin's level. -/
theorem State.modPiu_pin (s : State) (p q : PortId) (f : Piu → Piu) (h : ∀ u, (f u).resetPin = u.resetPin) :
    ((s.modPiu p f).piu q).resetPin = (s.piu q).resetPin := by
  by_cases hq : q = p <;> simp [hq, h]

@[simp] theorem State.complete_pin (s : State) (p : PortId) (status : Status) (results : Table Word 4) (q : PortId) : ((s.complete p status results).piu q).resetPin = (s.piu q).resetPin := by
  rw [State.complete_piu]; split <;> simp_all
@[simp] theorem State.refuse_pin (s : State) (p : PortId) (status : Status) (q : PortId) : ((s.refuse p status).piu q).resetPin = (s.piu q).resetPin := State.complete_pin _ _ _ _ _
@[simp] theorem State.finish_pin (s : State) (p : PortId) (q : PortId) : ((s.finish p).piu q).resetPin = (s.piu q).resetPin := State.complete_pin _ _ _ _ _
@[simp] theorem State.bindConsumer_pin (s : State) (a : Party) (c : ChannelId) (q : PortId) : ((s.bindConsumer a c).piu q).resetPin = (s.piu q).resetPin := by
  rw [State.bindConsumer_piu]; split <;> simp_all
@[simp] theorem offerBody_pin (s : State) (p : PortId) (q : PortId) : ((offerBody p s).piu q).resetPin = (s.piu q).resetPin := by
  unfold offerBody; dsimp only; unfold offerTake; (repeat' split) <;> by_cases hq : q = p <;> simp [hq]
@[simp] theorem acceptBody_pin (s : State) (p : PortId) (q : PortId) : ((acceptBody p s).piu q).resetPin = (s.piu q).resetPin := by
  unfold acceptBody acceptTake acceptAsConsumer acceptAsProducer; dsimp only; (repeat' split) <;> by_cases hq : q = p <;> simp [hq]
@[simp] theorem declineBody_pin (s : State) (p : PortId) (q : PortId) : ((declineBody p s).piu q).resetPin = (s.piu q).resetPin := by
  unfold declineBody; dsimp only; (repeat' split) <;> by_cases hq : q = p <;> simp [hq]
@[simp] theorem State.finishClose_pin (s : State) (p : PortId) (c : ChannelId) (q : PortId) : ((s.finishClose p c).piu q).resetPin = (s.piu q).resetPin := by simp only [State.finishClose, State.complete_pin]
@[simp] theorem closeBody_pin (s : State) (p : PortId) (q : PortId) : ((closeBody p s).piu q).resetPin = (s.piu q).resetPin := by
  unfold closeBody closeByParty; dsimp only; (repeat' split) <;> by_cases hq : q = p <;> simp [hq]
@[simp] theorem postBody_pin (s : State) (p : PortId) (q : PortId) : ((postBody p s).piu q).resetPin = (s.piu q).resetPin := by
  unfold postBody postRefused postAccept; dsimp only; (repeat' split) <;> by_cases hq : q = p <;> simp [hq]
@[simp] theorem landBody_pin (s : State) (p : PortId) (q : PortId) : ((landBody p s).piu q).resetPin = (s.piu q).resetPin := by
  unfold landBody landTake; dsimp only; (repeat' split) <;> by_cases hq : q = p <;> simp [hq]
@[simp] theorem confirmBody_pin (s : State) (p : PortId) (q : PortId) : ((confirmBody p s).piu q).resetPin = (s.piu q).resetPin := by
  unfold confirmBody; dsimp only; (repeat' split) <;> by_cases hq : q = p <;> simp [hq]
@[simp] theorem queryBody_pin (s : State) (p : PortId) (q : PortId) : ((queryBody p s).piu q).resetPin = (s.piu q).resetPin := by
  unfold queryBody; dsimp only; (repeat' split) <;> by_cases hq : q = p <;> simp [hq]
@[simp] theorem readCountersBody_pin (s : State) (p : PortId) (q : PortId) : ((readCountersBody p s).piu q).resetPin = (s.piu q).resetPin := by
  unfold readCountersBody; dsimp only; (repeat' split) <;> by_cases hq : q = p <;> simp [hq]
@[simp] theorem setVectorBody_pin (s : State) (p : PortId) (q : PortId) : ((setVectorBody p s).piu q).resetPin = (s.piu q).resetPin := by
  unfold setVectorBody; dsimp only; (repeat' split) <;> by_cases hq : q = p <;> simp [hq]
@[simp] theorem retainBody_pin (s : State) (b : Bool) (p : PortId) (q : PortId) : ((retainBody b p s).piu q).resetPin = (s.piu q).resetPin := by
  unfold retainBody; rw [State.finish_pin]; exact State.modPiu_pin _ _ _ _ fun _ => rfl
@[simp] theorem State.finishDetach_pin (s : State) (p : PortId) (q : PortId) : ((s.finishDetach p).piu q).resetPin = (s.piu q).resetPin := by
  unfold State.finishDetach; split <;> by_cases hq : q = p <;> simp [hq]
@[simp] theorem State.quiesceEnd_pin (s : State) (p : PortId) (mode : DetachMode) (q : PortId) : ((s.quiesceEnd p mode).piu q).resetPin = (s.piu q).resetPin := by
  unfold State.quiesceEnd; rw [State.oweDetachment_piu, State.finishDetach_pin, State.modNu_piu]
  exact State.modPiu_pin _ _ _ _ fun u => by cases mode <;> rfl
@[simp] theorem State.settle_pin (s : State) (p : PortId) (q : PortId) : ((s.settle p).piu q).resetPin = (s.piu q).resetPin := by
  unfold State.settle; (repeat' split) <;> by_cases hq : q = p <;> simp [hq]
@[simp] theorem State.departAttached_pin (s : State) (p : PortId) (next : PortState) (q : PortId) : ((s.departAttached p next).piu q).resetPin = (s.piu q).resetPin := by
  unfold State.departAttached; rw [State.modWriter_piu, State.modNu_piu]; exact State.modPiu_pin _ _ _ _ fun _ => rfl
@[simp] theorem State.faultPort_pin (s : State) (p : PortId) (q : PortId) : ((s.faultPort p).piu q).resetPin = (s.piu q).resetPin := by
  unfold State.faultPort; dsimp only
  have h : ∀ (t : State) (cs : List ChannelId), ((t.modPort p fun b => { b with requeueOwed := b.requeueOwed ++ cs }).piu q) = t.piu q :=
    fun t cs => (State.modPort_blocks t p q (fun b => { b with requeueOwed := b.requeueOwed ++ cs }) (fun _ => ⟨rfl, rfl, rfl⟩)).1
  rw [h, State.modNu_piu, State.departAttached_pin]
@[simp] theorem attachTake_pin (s : State) (p : PortId) (base : Word) (g : Grant) (line : Bool) (q : PortId) :
    ((attachTake s p base g line).piu q).resetPin = (s.piu q).resetPin := by
  have h : ∀ t : State, ((t.modPort p fun b => { b with flushOwed := [], requeueOwed := [] }).piu q) = t.piu q :=
    fun t => (State.modPort_blocks t p q (fun b => { b with flushOwed := [], requeueOwed := [] }) (fun _ => ⟨rfl, rfl, rfl⟩)).1
  unfold attachTake; dsimp only
  rw [State.complete_pin, h, State.modNu_piu, State.modWriter_piu]
  exact State.modPiu_pin _ _ _ _ fun _ => rfl
@[simp] theorem attachBody_pin (s : State) (p : PortId) (q : PortId) : ((attachBody p s).piu q).resetPin = (s.piu q).resetPin := by
  unfold attachBody; dsimp only
  split
  · exact State.refuse_pin _ _ _ _
  · split
    · exact State.refuse_pin _ _ _ _
    · split
      · exact State.refuse_pin _ _ _ _
      · exact attachTake_pin _ _ _ _ _ _
@[simp] theorem State.takeFault_pin (s : State) (p : PortId) (q : PortId) : ((s.takeFault p).piu q).resetPin = (s.piu q).resetPin := by
  unfold State.takeFault; split <;> simp
theorem detachByState_pin (s : State) (p : PortId) (mode : DetachMode) (q : PortId) :
    ((detachByState s p mode).piu q).resetPin = (s.piu q).resetPin := by
  unfold detachByState
  split
  · rw [State.settle_pin, State.departAttached_pin]; exact State.modPiu_pin _ _ _ _ fun _ => rfl
  · cases mode
    · exact State.quiesceEnd_pin _ _ _ _
    · exact State.finish_pin _ _ _
  · exact State.quiesceEnd_pin _ _ _ _
  · exact State.refuse_pin _ _ _ _
  · exact State.refuse_pin _ _ _ _
@[simp] theorem detachTake_pin (s : State) (p : PortId) (mode : DetachMode) (q : PortId) :
    ((detachTake s p mode).piu q).resetPin = (s.piu q).resetPin := by
  rw [detachTake, detachByState_pin, State.takeFault_pin]
@[simp] theorem detachBody_pin (s : State) (p : PortId) (q : PortId) : ((detachBody p s).piu q).resetPin = (s.piu q).resetPin := by
  unfold detachBody
  split
  · exact State.refuse_pin _ _ _ _
  · exact detachTake_pin _ _ _ _
/-- The body of a command changes no pin's level. -/
@[simp] theorem commandBody_pin (p : PortId) (c : Command) (s : State) (q : PortId) : ((commandBody p c s).piu q).resetPin = (s.piu q).resetPin := by
  cases c <;> simp only [commandBody, offerBody_pin, acceptBody_pin, declineBody_pin, closeBody_pin, postBody_pin, landBody_pin, confirmBody_pin,
    queryBody_pin, readCountersBody_pin, setVectorBody_pin, attachBody_pin, detachBody_pin, retainBody_pin]

/-- A write of the command word changes no pin's level. -/
theorem State.takeCommand_pin (s : State) (p q : PortId) (k : Byte) (n : Bool) (body : State → State)
    (h : ∀ t, ((body t).piu q).resetPin = (t.piu q).resetPin) : ((s.takeCommand p k n body).piu q).resetPin = (s.piu q).resetPin := by
  apply State.takeCommand_cases (P := fun t => (t.piu q).resetPin = (s.piu q).resetPin)
  · rfl
  · intro _; exact State.modPiu_pin _ _ _ _ fun _ => rfl
  · intro _ st; rw [State.refuse_pin]; exact State.modPiu_pin _ _ _ _ fun _ => rfl
  · intro c _ _ _ _; rw [h]; exact State.modPiu_pin _ _ _ _ fun _ => rfl

@[simp] theorem State.commandWordWrite_pin (s : State) (p : PortId) (k : Byte) (n : Bool) (q : PortId) : ((s.commandWordWrite p k n).piu q).resetPin = (s.piu q).resetPin := State.takeCommand_pin _ _ _ _ _ _ fun t => by
  unfold kindBody; split <;> by_cases hq : q = p <;> simp [hq]
@[simp] theorem State.composeWrite_pin (s : State) (p : PortId) (k : Fin 256) (w : Word) (q : PortId) : ((s.composeWrite p k w).piu q).resetPin = (s.piu q).resetPin := by
  unfold State.composeWrite; split
  · rfl
  · exact State.modPiu_pin _ _ _ _ fun u => by split <;> rfl
@[simp] theorem State.creditWrite_pin (s : State) (p : PortId) (i : SlotId) (w : Word) (q : PortId) : ((s.creditWrite p i w).piu q).resetPin = (s.piu q).resetPin := by
  unfold State.creditWrite State.takeCredit; (repeat' split) <;> by_cases hq : q = p <;> simp [hq]
@[simp] theorem State.eventReadWrite_pin (s : State) (p : PortId) (w : Word) (q : PortId) : ((s.eventReadWrite p w).piu q).resetPin = (s.piu q).resetPin := by
  unfold State.eventReadWrite State.takeReadIndex; dsimp only; (repeat' split) <;> by_cases hq : q = p <;> simp [hq]
@[simp] theorem State.argumentWrite_pin (s : State) (p : PortId) (k : Fin 8) (w : Word) (q : PortId) : ((s.argumentWrite p k w).piu q).resetPin = (s.piu q).resetPin := by
  unfold State.argumentWrite; split
  · rfl
  · exact State.modPiu_pin _ _ _ _ fun _ => rfl
@[simp] theorem State.windowWrite_pin (s : State) (p : PortId) (z : AccessSize) (o : BitVec 13) (w : Word) (q : PortId) : ((s.windowWrite p z o w).piu q).resetPin = (s.piu q).resetPin := by
  unfold State.windowWrite; split <;> by_cases hq : q = p <;> simp [hq]
@[simp] theorem State.completeCopy_pin (s : State) (p : PortId) (r : RecordId) (rec : Record) (q : PortId) : ((s.completeCopy p r rec).piu q).resetPin = (s.piu q).resetPin := by
  unfold State.completeCopy; dsimp only; (repeat' split) <;> by_cases hq : q = p <;> simp [hq]
@[simp] theorem State.abandonCopy_pin (s : State) (p : PortId) (q : PortId) : ((s.abandonCopy p).piu q).resetPin = (s.piu q).resetPin := by
  unfold State.abandonCopy; dsimp only; (repeat' split) <;> by_cases hq : q = p <;> simp [hq]
@[simp] theorem State.resetPortWork_pin (s : State) (p : PortId) (q : PortId) : ((s.resetPortWork p).piu q).resetPin = (s.piu q).resetPin := by
  unfold State.resetPortWork; rw [State.modPiu_pin _ p q Piu.clear (fun _ => rfl)]; simp
@[simp] theorem State.resetByState_pin (s : State) (p : PortId) (q : PortId) : ((s.resetByState p).piu q).resetPin = (s.piu q).resetPin := by
  unfold State.resetByState; dsimp only; (repeat' split) <;> by_cases hq : q = p <;> simp [hq]
@[simp] theorem State.takePortReset_pin (s : State) (p : PortId) (q : PortId) : ((s.takePortReset p).piu q).resetPin = (s.piu q).resetPin := by
  rw [State.takePortReset, State.resetByState_pin, State.takeFault_pin]
@[simp] theorem State.completeJob_pin (s : State) (p : PortId) (kind : JobKind) (q : PortId) : ((s.completeJob p kind).piu q).resetPin = (s.piu q).resetPin := by simp [State.completeJob]
@[simp] theorem State.failJob_pin (s : State) (p : PortId) (kind : FaultKind) (job : Job) (q : PortId) : ((s.failJob p kind job).piu q).resetPin = (s.piu q).resetPin := by
  unfold State.failJob; dsimp only; split <;> by_cases hq : q = p <;> simp [hq]
@[simp] theorem State.answerOk_pin (s : State) (p : PortId) (job : Job) (q : PortId) : ((s.answerOk p job).piu q).resetPin = (s.piu q).resetPin := by
  unfold State.answerOk; split <;> by_cases hq : q = p <;> simp [hq]
@[simp] theorem State.answerError_pin (s : State) (p : PortId) (job : Nat) (q : PortId) : ((s.answerError p job).piu q).resetPin = (s.piu q).resetPin := by
  unfold State.answerError; split <;> simp
@[simp] theorem State.timeOut_pin (s : State) (p : PortId) (q : PortId) : ((s.timeOut p).piu q).resetPin = (s.piu q).resetPin := by
  unfold State.timeOut; (repeat' split) <;> simp
@[simp] theorem State.takeHeldResets_pin (ps : List PortId) (s : State) (q : PortId) :
    ((s.takeHeldResets ps).piu q).resetPin = (s.piu q).resetPin := by
  induction ps generalizing s with
  | nil => rfl
  | cons p ps ih => unfold State.takeHeldResets; rw [ih]; split <;> simp

end Sys2Proof.Machine
end

