-- ==== Sys2Proof/Laws/Pool.lean ====
section
/-! SUPPORT. What a claim and a free do to the laws of the pool (01), and the lists of numbers in ascending order. -/

namespace Sys2Proof

/-- The numbers in ascending order, as a map over a range. -/
theorem ascending_eq (n : Nat) [NeZero n] (i k : Nat) : ascending n i k = (List.range' i k).map (Fin.ofNat n) := by
  induction k generalizing i with
  | zero => rfl
  | succ k ih => simp [ascending, ih, List.range'_succ]

/-- Every number below `n` is in the ascending list of all of them. -/
theorem mem_ascending {n : Nat} [NeZero n] (i : Fin n) : i ∈ ascending n 0 n := by
  rw [ascending_eq, List.mem_map]
  exact ⟨i.val, by simp [List.mem_range'_1], by simp [Fin.ofNat, Nat.mod_eq_of_lt i.isLt]⟩

/-- The ascending list of all numbers below `n` has no duplicates. -/
theorem nodup_ascending (n : Nat) [NeZero n] : (ascending n 0 n).Nodup := by
  rw [ascending_eq]
  refine (List.nodup_range' (step := 1)).map_on ?_
  intro a ha b hb h
  have ha' : a < n := by simpa using (List.mem_range'_1.mp ha).2
  have hb' : b < n := by simpa using (List.mem_range'_1.mp hb).2
  have := congrArg Fin.val h
  simpa [Fin.ofNat, Nat.mod_eq_of_lt ha', Nat.mod_eq_of_lt hb'] using this

/-- The ascending list of all numbers below `n` has `n` of them. -/
theorem length_ascending (n : Nat) [NeZero n] (i k : Nat) : (ascending n i k).length = k := by
  simp [ascending_eq]

/-- Taking one member out of a list without duplicates, under a flattening map. -/
theorem flatMap_perm_of_mem {α β : Type} [DecidableEq α] {l : List α} (hn : l.Nodup) {a : α} (ha : a ∈ l) (f g : α → List β)
    (h : ∀ b, b ≠ a → g b = f b) (hg : g a = []) : (l.flatMap f).Perm (f a ++ l.flatMap g) := by
  have hp := List.perm_cons_erase ha
  have h1 : (l.flatMap f).Perm ((a :: l.erase a).flatMap f) := hp.flatMap_right f
  have h2 : (l.flatMap g).Perm ((a :: l.erase a).flatMap g) := hp.flatMap_right g
  have h3 : (l.erase a).flatMap f = (l.erase a).flatMap g := by
    apply List.flatMap_congr
    intro b hb
    exact (h b ((hn.mem_erase_iff.mp hb).1)).symm
  refine h1.trans ?_
  rw [List.flatMap_cons, h3]
  refine List.Perm.append_left _ ?_
  simpa [List.flatMap_cons, hg] using h2.symm

end Sys2Proof

namespace Sys2Proof.Machine

/-- The chain of a record, empty for a free record. -/
theorem Pool.chained_eq (pool : Pool) :
    pool.chained = (ascending 1024 0 1024).flatMap fun r => ((pool.records.read r).map fun rec => rec.chain).getD [] := rfl

/-- A record that leaves use takes its chain out of the chains in use. -/
theorem Pool.chained_write_none (pool : Pool) {r : RecordId} {rec : Record} (h : pool.records.read r = some rec) :
    pool.chained.Perm (rec.chain ++ { pool with records := pool.records.write r none }.chained) := by
  have := flatMap_perm_of_mem (nodup_ascending 1024) (mem_ascending r)
    (fun k => ((pool.records.read k).map fun rec => rec.chain).getD [])
    (fun k => (((pool.records.write r none).read k).map fun rec => rec.chain).getD [])
    (by intro b hb; simp [hb]) (by simp)
  simpa [Pool.chained_eq, h] using this

/-- A record that comes into use adds its chain to the chains in use. -/
theorem Pool.chained_write_some (pool : Pool) {r : RecordId} (rec : Record) (h : pool.records.read r = none) :
    ({ pool with records := pool.records.write r (some rec) }.chained).Perm (rec.chain ++ pool.chained) := by
  have := flatMap_perm_of_mem (nodup_ascending 1024) (mem_ascending r)
    (fun k => (((pool.records.write r (some rec)).read k).map fun rec => rec.chain).getD [])
    (fun k => ((pool.records.read k).map fun rec => rec.chain).getD [])
    (by intro b hb; simp [hb]) (by simp [h])
  simpa [Pool.chained_eq] using this

/-- The laws of the pool that the two mark tests do not touch. -/
structure Pool.ListsLawful (pool : Pool) : Prop where
  segments : (pool.segFree ++ pool.chained).Perm (ascending 2048 0 2048)
  records : pool.recFree.Nodup ∧ ∀ r, r ∈ pool.recFree ↔ pool.records.read r = none
  chains : ∀ r rec, pool.records.read r = some rec → rec.chain.length = segmentCount rec.length

/-- One record's free keeps the lists lawful, raises the free count and leaves the level (R12). -/
theorem Pool.freeOne_lists {pool : Pool} (h : pool.ListsLawful) (r : RecordId) :
    (pool.freeOne r).ListsLawful ∧ pool.freeCount ≤ (pool.freeOne r).freeCount ∧ (pool.freeOne r).level = pool.level := by
  unfold Pool.freeOne
  split
  · exact ⟨h, le_refl _, rfl⟩
  · next rec hr =>
    refine ⟨⟨?_, ⟨?_, ?_⟩, ?_⟩, ?_, rfl⟩
    · have hc := pool.chained_write_none hr
      refine List.Perm.trans ?_ h.segments
      simp only [List.append_assoc]
      exact (List.Perm.append_left _ hc.symm)
    · refine List.Nodup.append h.records.1 (List.nodup_singleton r) ?_
      intro a ha hb
      rw [List.mem_singleton] at hb
      rw [h.records.2, hb, hr] at ha
      cases ha
    · intro k
      by_cases hk : k = r
      · simp [hk]
      · simp [hk, h.records.2]
    · intro k rec' hk
      by_cases hkr : k = r
      · simp [hkr] at hk
      · simp [hkr] at hk
        exact h.chains k rec' hk
    · simp [Pool.freeCount]

/-- A free keeps the lists lawful, raises the free count and leaves the level to the recover test (R12). -/
theorem Pool.foldFree_lists (rs : List RecordId) {pool : Pool} (h : pool.ListsLawful) :
    (rs.foldl Pool.freeOne pool).ListsLawful ∧ pool.freeCount ≤ (rs.foldl Pool.freeOne pool).freeCount
      ∧ (rs.foldl Pool.freeOne pool).level = pool.level := by
  induction rs generalizing pool with
  | nil => exact ⟨h, le_refl _, rfl⟩
  | cons r rs ih =>
    obtain ⟨h1, h2, h3⟩ := Pool.freeOne_lists h r
    obtain ⟨h4, h5, h6⟩ := ih h1
    exact ⟨h4, h2.trans h5, h6.trans h3⟩

/-- A lawful pool stays lawful through a free (R12, R15). -/
theorem Pool.free_lawful {pool : Pool} (h : pool.Lawful) (rs : List RecordId) : (pool.free rs).Lawful := by
  obtain ⟨h1, h2, h3⟩ := Pool.foldFree_lists rs ⟨h.segments, h.records, h.chains⟩
  have hn := h.level.1
  unfold Pool.free Pool.recoverTest
  split
  · next hc =>
    refine ⟨h1.segments, h1.records, h1.chains, ?_, by simp⟩
    intro _
    have := hc.2
    simp only [Pool.freeCount, Config.recoverMark, Config.lowMark] at this ⊢
    omega
  · next hc =>
    refine ⟨h1.segments, h1.records, h1.chains, ?_, ?_⟩
    · intro hl
      rw [h3] at hl
      exact (hn hl).trans h2
    · intro hl
      by_contra hcon
      exact hc ⟨hl, by omega⟩

/-- A granted claim: what the pool was able to give, and what it becomes (R9, R10). -/
theorem Pool.claim_granted {pool pool' : Pool} {c : Claim} {r : RecordId} (h : pool.claim c = .granted r pool') :
    ∃ rs, pool.recFree = r :: rs ∧ segmentCount c.length ≤ pool.freeCount ∧ pool' = (pool.take c (segmentCount c.length) r).lowTest := by
  unfold Pool.claim at h
  split at h
  · cases h
  · next r' rs hr =>
    dsimp only at h
    split at h
    · cases h
    · next h1 =>
      split at h
      · cases h
      · next h2 =>
        cases h
        refine ⟨rs, hr, ?_, rfl⟩
        by_cases hu : c.urgent = true
        · simp [hu] at h2
          exact h2
        · simp [hu] at h1
          omega

/-- A lawful pool stays lawful through a granted claim (R10, R14). -/
theorem Pool.claim_lawful {pool pool' : Pool} {c : Claim} {r : RecordId} (h : pool.Lawful) (hg : pool.claim c = .granted r pool') :
    pool'.Lawful := by
  obtain ⟨rs, hr, hn, rfl⟩ := Pool.claim_granted hg
  set n := segmentCount c.length with hndef
  have hfree : pool.records.read r = none := (h.records.2 r).mp (by simp [hr])
  have hlists : (pool.take c n r).ListsLawful := by
    refine ⟨?_, ⟨?_, ?_⟩, ?_⟩
    · have hc := pool.chained_write_some (c.record (pool.segFree.take n)) hfree
      have hc' : ((pool.take c n r).chained).Perm (pool.segFree.take n ++ pool.chained) := hc
      refine List.Perm.trans (List.Perm.append_left _ hc') ?_
      refine List.Perm.trans ?_ h.segments
      show (pool.segFree.drop n ++ (pool.segFree.take n ++ pool.chained)).Perm _
      rw [← List.append_assoc]
      refine List.Perm.append_right _ ?_
      refine List.perm_append_comm.trans ?_
      rw [List.take_append_drop]
    · show (pool.recFree.tail).Nodup
      exact h.records.1.tail
    · intro k
      show k ∈ pool.recFree.tail ↔ (pool.records.write r _).read k = none
      have hnd := h.records.1
      rw [hr] at hnd ⊢
      by_cases hk : k = r
      · subst hk
        simpa using (List.nodup_cons.mp hnd).1
      · have := h.records.2 k
        rw [hr] at this
        simp [hk] at this ⊢
        exact this
    · intro k rec' hk
      have hk' : (pool.records.write r (some (c.record (pool.segFree.take n)))).read k = some rec' := hk
      by_cases hkr : k = r
      · simp [hkr] at hk'
        subst hk'
        simp only [Claim.record, List.length_take]
        have : n ≤ pool.segFree.length := hn
        omega
      · simp [hkr] at hk'
        exact h.chains k rec' hk'
  have hcount : (pool.take c n r).freeCount = pool.freeCount - n := by simp [Pool.freeCount, Pool.take]
  have hlevel : (pool.take c n r).level = pool.level := rfl
  unfold Pool.lowTest
  split
  · next hc =>
    refine ⟨hlists.segments, hlists.records, hlists.chains, by simp, ?_⟩
    intro _
    have := hc.2
    simp only [Pool.freeCount, Config.recoverMark, Config.lowMark] at this ⊢
    omega
  · next hc =>
    refine ⟨hlists.segments, hlists.records, hlists.chains, ?_, ?_⟩
    · intro hl
      by_contra hcon
      exact hc ⟨hl, by omega⟩
    · intro hl
      have := h.level.2 (hlevel ▸ hl)
      omega

/-- A change of a record that keeps its chain and its length keeps the pool lawful (R5). -/
theorem Pool.Lawful.modRecord {s : State} (h : s.pool.Lawful) (r : RecordId) {f : Record → Record}
    (hf : ∀ rec, (f rec).chain = rec.chain ∧ (f rec).length = rec.length) : ((s.modRecord r f).pool).Lawful := by
  have hc : (s.modRecord r f).pool.chained = s.pool.chained := by
    rw [Pool.chained_eq, Pool.chained_eq]
    apply List.flatMap_congr
    intro k _
    by_cases hk : k = r
    · subst hk
      simp only [State.modRecord, Table.read_write, if_true]
      cases s.pool.records.read k <;> simp [hf]
    · simp [State.modRecord, hk]
  refine ⟨?_, ⟨h.records.1, ?_⟩, ?_, h.level⟩
  · rw [hc]
    exact h.segments
  · intro k
    rw [State.modRecord_recFree, h.records.2 k]
    by_cases hk : k = r
    · subst hk
      simp [State.modRecord]
    · simp [State.modRecord, hk]
  · intro k rec hk
    by_cases hkr : k = r
    · subst hkr
      simp only [State.modRecord, Table.read_write, if_true, Option.map_eq_some_iff] at hk
      obtain ⟨rec', h1, rfl⟩ := hk
      rw [(hf rec').1, (hf rec').2]
      exact h.chains k rec' h1
    · simp [State.modRecord, hkr] at hk
      exact h.chains k rec hk

/-- A write into the segment store keeps the pool's lists and level (R1). -/
theorem Pool.Lawful.segmentsWritten {pool : Pool} (h : pool.Lawful) (m : Memory) : { pool with segments := m }.Lawful :=
  ⟨h.segments, h.records, h.chains, h.level⟩

end Sys2Proof.Machine
end

