-- ==== Sys2Proof/Laws/Time.lean ====
section
/-! SUPPORT. What time does to a timer and to the device, when an expiry is overdue, and which job an answer of a link names. -/

namespace Sys2Proof.Machine

/-! ## Timers -/

/-- A timer is expired when it has counted its interval (R177). -/
theorem Timer.expired_iff (x : Timer) : x.expired = true ↔ x.RanOut := by
  obtain ⟨n, c⟩ := x
  cases c <;> simp [Timer.expired, Timer.RanOut]

/-- A timer that starts has counted nothing. -/
@[simp] theorem Timer.start_expired (n : Nat) : (Timer.start n).expired = false := rfl

@[simp] theorem Timer.start_pass (n : Nat) : (Timer.start n).pass = ⟨n, some 0⟩ := rfl
@[simp] theorem Timer.start_tick (n : Nat) : (Timer.start n).tick = ⟨n, none⟩ := rfl
@[simp] theorem Timer.tick_some (n k : Nat) : (Timer.mk n (some k)).tick = ⟨n, some (k + 1)⟩ := rfl
@[simp] theorem Timer.pass_some (n k : Nat) : (Timer.mk n (some k)).pass = ⟨n, some k⟩ := rfl

/-- A timer is at its interval `n` ticks after the first tick at or after its start, and at no tick before (R177). -/
theorem Timer.expires_at_its_interval (n k : Nat) : (Timer.mk n (some k)).expired = true ↔ n ≤ k := by simp [Timer.expired]

/-! ## The members of the fixed lists -/

theorem mem_allChannels (c : ChannelId) : c ∈ allChannels := mem_ascending c
theorem mem_allPorts (p : PortId) : p ∈ allPorts := mem_ascending p
theorem mem_allVectors (v : VectorId) : v ∈ allVectors := mem_ascending v

/-! ## What is overdue -/

/-- The offer timer of an entry is due when the entry is OFFERED and its timer has run out (R36). -/
theorem Use.offerDue_iff (u : Use) : u.offerDue = true ↔ ∃ o, u.stage = .offered o ∧ o.timer.RanOut := by
  unfold Use.offerDue
  cases h : u.stage <;> simp [Timer.expired_iff]

/-- The hold timer of an entry is due when the entry is OPEN and HELD and its timer has run out (R117). -/
theorem Use.holdDue_iff (u : Use) : u.holdDue = true ↔ ∃ h, u.stage = .opened ∧ u.hold = some h ∧ h.timer.RanOut := by
  unfold Use.holdDue
  cases h : u.hold <;> simp [Timer.expired_iff]

/-- The write timeout is due when the write in flight has been unanswered for its interval (R75). -/
theorem Writer.timeoutDue_iff (w : Writer) : w.timeoutDue = true ↔ ∃ job, w.state = .busy job ∧ job.timeout.RanOut := by
  unfold Writer.timeoutDue
  cases h : w.state <;> simp [Timer.expired_iff]

/-- A delay timer is due when it has run out with the fired mark of its vector clear (R133). -/
theorem Nu.mem_delaysDue (nu : Nu) (v : VectorId) :
    v ∈ nu.delaysDue ↔ ∃ x, (nu.vectors.read v).timer = some x ∧ (nu.vectors.read v).fired = false ∧ x.RanOut := by
  simp only [Nu.delaysDue, List.mem_filter, mem_allVectors, true_and]
  cases h : (nu.vectors.read v).timer <;> simp [Timer.expired_iff]

/-- With nothing overdue time goes on: past the tick it stands on, or onto the next tick (log 1). -/
theorem State.passTime_calm {s : State} (h : s.overdue = []) : s.passTime = if s.onTick then s.passTick else s.tick := by
  simp [State.passTime, h]

/-- What is overdue goes onto the queue before time goes on (log 1). -/
theorem State.passTime_due {s : State} (h : s.overdue ≠ []) : s.passTime = { s with pending := s.overdue } := by
  unfold State.passTime
  split
  · contradiction
  · simp_all

/-! ## The job that an answer names -/

/-- An answer names the job in flight by its number (R75; log 26). -/
theorem Writer.jobNamed_iff (w : Writer) (k : Nat) (j : Job) : w.jobNamed k = some j ↔ w.state = .busy j ∧ k = w.jobs := by
  unfold Writer.jobNamed
  cases h : w.state <;> simp [and_comm]

/-- An answer with another number names no job: it is late (R75). -/
theorem Writer.jobNamed_late {w : Writer} {k : Nat} (h : k ≠ w.jobs) : w.jobNamed k = none := by
  unfold Writer.jobNamed
  cases w.state <;> simp [h]

/-- The port state machine has no failure to take when none was handed to it (R85, R157). -/
theorem State.takeFault_none {s : State} {p : PortId} (h : (s.piu p).faultHanded = false) : s.takeFault p = s := by simp [State.takeFault, h]

/-- A failure that was handed over makes the port fault when it is taken (R85, R157). -/
theorem State.takeFault_handed {s : State} {p : PortId} (h : (s.piu p).faultHanded = true) : s.takeFault p = s.faultPort p := by
  simp [State.takeFault, h]

end Sys2Proof.Machine
end

