-- ==== Sys2Proof/Laws/Requests.lean ====
section
/-! SUPPORT. The requests that entries wait for: which entries a port's change reaches, when one is outstanding, and what a release check can do. -/

namespace Sys2Proof.Machine

/-- A detachment reaches the entries of which the port is a party (R148). -/
theorem State.mem_partyEntries (s : State) (p : PortId) (c : ChannelId) : c ∈ s.partyEntries p ↔ ∃ u, s.use c = some u ∧ u.isParty p = true := by
  simp [State.partyEntries, mem_allChannels, Option.any_eq_true]

/-- A fault reaches a use of which the port is the consumer, unless it is an offer (R157). -/
theorem Use.faultReaches_iff (u : Use) (p : PortId) : u.faultReaches p = true ↔ u.consumedBy p = true ∧ ∀ o, u.stage ≠ .offered o := by
  unfold Use.faultReaches
  cases u.stage <;> simp

/-- A fault reaches the entries of which the port is the consumer, offers apart (R157). -/
theorem State.mem_faultEntries (s : State) (p : PortId) (c : ChannelId) :
    c ∈ s.faultEntries p ↔ ∃ u, s.use c = some u ∧ u.consumedBy p = true ∧ ∀ o, u.stage ≠ .offered o := by
  simp [State.faultEntries, mem_allChannels, Option.any_eq_true, Use.faultReaches_iff]

/-- A request is outstanding when it is owed to an entry of which the port is a party (R145). -/
theorem State.requestsOutstanding_iff (s : State) (p : PortId) :
    s.requestsOutstanding p = true ↔
      ∃ c u, (c ∈ (s.port p).flushOwed ∨ c ∈ (s.port p).requeueOwed) ∧ s.use c = some u ∧ u.isParty p = true := by
  simp [State.requestsOutstanding, Option.any_eq_true, or_and_right, exists_or]

/-- A retest sees NORMAL when the pool is NORMAL, or its entry into LOW has not reached the entry (R116). -/
theorem State.levelSeen_normal_iff (s : State) (c : ChannelId) : s.levelSeen c = .normal ↔ s.pool.level = .normal ∨ c ∈ s.holdOwed := by
  unfold State.levelSeen
  split <;> simp_all

/-- A release check ends the hold of the entry, or changes nothing (R115). -/
theorem State.releaseCheckAt_cases (s : State) (level : PoolLevel) (c : ChannelId) :
    s.releaseCheckAt level c = s ∨
      (level = .normal ∧ (∃ u, s.use c = some u ∧ u.stage = .opened ∧ u.hold.isSome = true ∧ u.held ≤ u.terms.releaseMark) ∧
        s.releaseCheckAt level c = s.endHold c false) := by
  unfold State.releaseCheckAt
  cases h : s.use c with
  | none => exact Or.inl rfl
  | some u =>
    dsimp only
    split
    · rename_i h'
      exact Or.inr ⟨h'.2.2.2, ⟨u, rfl, h'.1, h'.2.1, h'.2.2.1⟩, rfl⟩
    · exact Or.inl rfl

end Sys2Proof.Machine
end

