-- ==== Sys2Proof/Tests/Slice0.lean ====
section
/-! SUPPORT. Small tests: ill-formed commands are refused by the check, one step of the commands on small states, and for every statement with hypotheses a state
that meets them. -/

namespace Sys2Proof.Tests

open Sys2Proof.Machine

set_option Elab.async false

/-! ## Ill-formed commands -/

theorem test_illFormed_badCommand : (Instr.badCommand 0 1 false).WellFormed = false ∧ (Instr.badCommand 0 14 true).WellFormed = false := by decide
theorem test_wellFormed_badCommand : (Instr.badCommand 0 0 false).WellFormed = true ∧ (Instr.badCommand 3 15 true).WellFormed = true := by decide
theorem test_illFormed_windowWrite_compose : (Instr.windowWrite 0 .word 0x3FC 0).WellFormed = false := by decide
theorem test_illFormed_windowWrite_command : (Instr.windowWrite 0 .word 0x400 0).WellFormed = false := by decide
theorem test_illFormed_windowWrite_credit :
    (Instr.windowWrite 0 .word 0x500 0).WellFormed = false ∧ (Instr.windowWrite 0 .word 0x53C 0).WellFormed = false := by decide
theorem test_illFormed_windowWrite_eventRead : (Instr.windowWrite 0 .word 0x540 0).WellFormed = false := by decide
theorem test_illFormed_windowWrite_rearm :
    (Instr.windowWrite 0 .word 0x550 0).WellFormed = false ∧ (Instr.windowWrite 0 .word 0x55C 0).WellFormed = false := by decide
theorem test_wellFormed_windowWrite :
    (Instr.windowWrite 0 .byte 0x400 0).WellFormed = true ∧ (Instr.windowWrite 0 .word 0x402 0).WellFormed = true ∧
      (Instr.windowWrite 0 .word 0x420 0).WellFormed = true ∧ (Instr.windowWrite 0 .word 0x1FFC 0).WellFormed = true := by decide

/-! ## Small states -/

/-- An ATTACHED port with an IDLE Port Writer. -/
def attachedPort : Port := { Port.reset with piu := { Piu.reset with state := .attached }, writer := ⟨.idle, .noFault, 0, 0⟩ }

/-- Four ATTACHED ports, nothing open. -/
def up : State := { State.reset with ports := Table.fill 4 attachedPort }

/-- The argument words of a port. -/
def withArgs (p : PortId) (ws : List Word) (s : State) : State :=
  s.modPiu p fun u => { u with slot := { u.slot with arguments := Table.build fun i => ws.getD i.val 0 } }

/-- A port in another state, with its Port Writer STOPPED. -/
def withPort (p : PortId) (st : PortState) (s : State) : State :=
  (s.modPiu p fun u => { u with state := st }).modWriter p fun w => { w with state := .stopped }

/-- A channel in use, generation 1. -/
def withUse (c : ChannelId) (u : Use) (s : State) : State := s.setEntry c ⟨1, Counters.zero, some u⟩

/-- A record in use. -/
def withRecord (r : RecordId) (rec : Record) (s : State) : State :=
  { s with pool := { s.pool with records := s.pool.records.write r (some rec) } }

/-- A Port Writer with a job in flight. -/
def withJob (p : PortId) (kind : JobKind) (waited : Nat) (s : State) : State :=
  s.modWriter p fun w => { w with state := .busy ⟨kind, [⟨0x2000, 9⟩], ⟨64, some waited⟩⟩ }

/-- A copy in flight for a POST with NOTIFY. -/
def withCopy (p : PortId) (r : RecordId) (s : State) : State :=
  s.modPiu p fun u => { u with copy := some r, slot := { u.slot with busy := true, kind := kindOf .post, notify := true } }

/-- A vector of a port. -/
def withVector (p : PortId) (v : VectorId) (f : Coalescer → Coalescer) (s : State) : State := s.modNu p fun nu => nu.modVector v f

def plainTerms : Terms := ⟨.plain, 0, 1024, 20, 10, 5, 7⟩
def confirmedTerms : Terms := ⟨.confirmed 255, 0, 1024, 20, 10, 5, 7⟩
def armedRing : Ring := ⟨true, 0x1000, 4, 17, 2, 1⟩
def disarmedRing : Ring := ⟨false, 0x1000, 4, 17, 2, 1⟩
/-- An OPEN channel from slot 0 of port 0 to slot 0 of port 1, FLOWING, empty. -/
def opened : Use := ⟨.opened, some ⟨0, 0⟩, some ⟨1, 0⟩, plainTerms, 4, [], [], 3, false, some armedRing, none⟩
def heldUse : Use := { opened with held := 10, hold := some ⟨.quota, ⟨56, some 56⟩⟩ }
def offerFrom (offeror peer : PortId) (count : Nat) : Stage := .offered ⟨offeror, peer, ⟨1000, some count⟩⟩
/-- An offer by port 0 as producer to port 1. -/
def offeredUse : Use := { opened with stage := offerFrom 0 1 1000, consumer := none, ring := none, held := 0, nextSequence := 0 }
/-- An offer by port 1 as consumer to port 0. -/
def wantedUse : Use := { opened with stage := offerFrom 1 0 999, producer := none, ring := some disarmedRing, held := 0, nextSequence := 0 }
/-- A message of 100 bytes on channel 5. -/
def message (st : RecordState) : Record := ⟨5, 1, 2, 100, 7, 0, false, false, [10, 11], st⟩

/-- The word that names channel 5, generation 1. -/
def named : Word := 0x105
/-- Arguments of an OFFER by port 0 to port 1 as producer, PLAIN, priority 0, slot 0. -/
def offerWords : List Word := [0x00000001, 0x00140400, 0x0005000A, 0x01000007, 0, 0, 0]
/-- Arguments of an OFFER by port 0 to port 1 as consumer, CONFIRMED with window 255, priority 3, slot 15. -/
def offerWordsConsumer : List Word := [0x03010101, 0x00140400, 0x0005000A, 0xFFFFFFFF, 15, 0x1000, 0x00110400]
/-- Channel 5 and ring arguments: base 0x1000, 4 slots of 17 units, and slot 2 for ACCEPT. -/
def ringWords : List Word := [0x20105, 0, 0, 0, 0, 0x1000, 0x00110004]

/-- The next state. -/
def after (o : Host.Outcome State Fault Refusal) : State :=
  match o with
  | .next t => t
  | .fault _ => State.reset
  | .refused _ => State.reset

/-- The status code and the result words of a port's last completion. -/
def answer (s : State) (p : PortId) : Nat × List Nat :=
  ((s.piu p).slot.status.toNat, [0, 1, 2, 3].map fun k => ((s.piu p).slot.results.read k).toNat)

/-- A slot that no entry binds is unbound. -/
theorem slotUnbound_of {s : State} {role : Role} {q : Party}
    (h : allChannels.all (fun d => (s.use d).all fun u => !u.binds role q) = true) : s.SlotUnbound role q := by
  intro d u hu
  have := List.all_eq_true.mp h d (mem_ascending d)
  rw [hu] at this
  simpa using this

/-! ## One step of the commands -/

def sOffer : State := withArgs 0 offerWords up
theorem test_offer : answer (after (exec (.offer 0 false) sOffer)) 0 = (1, [0, 1, 0, 0]) ∧
    ((after (exec (.offer 0 false) sOffer)).nu 1).backlog = [⟨.offerReceived, 0, 0, 0x0001, 0⟩] := by decide +kernel

def sAccept : State := withArgs 1 ringWords (withUse 5 offeredUse up)
theorem test_accept : answer (after (exec (.accept 1 false) sAccept)) 1 = (1, [5, 1, 0, 0]) ∧
    ((after (exec (.accept 1 false) sAccept)).use 5).map (fun u => (u.stage, u.consumer)) = some (.opened, some ⟨1, 2⟩) := by decide +kernel

def sDecline : State := withArgs 1 [named] (withUse 5 offeredUse up)
theorem test_decline : answer (after (exec (.decline 1 true) sDecline)) 1 = (1, [0, 0, 0, 0]) ∧ (after (exec (.decline 1 true) sDecline)).use 5 = none ∧
    ((after (exec (.decline 1 true) sDecline)).nu 1).backlog = [⟨.commandDone, 0, 0, 0x0103, 0⟩] := by decide +kernel

def sClose (p : PortId) (u : Use) : State := withArgs p [named] (withUse 5 u up)
theorem test_close_consumer : answer (after (exec (.close 1 false) (sClose 1 opened))) 1 = (1, [0, 0, 0, 0]) ∧
    ((after (exec (.close 1 false) (sClose 1 opened))).nu 0).backlog = [⟨.peerClosed, 0, 5, 1, 0⟩] := by decide +kernel
theorem test_close_producer_filling :
    answer (after (exec (.close 0 false) (sClose 0 { opened with queue := [1] }))) 0 = (1, [3, 0, 0, 0]) := by decide +kernel

def sPost (length : Word) (u : Use) : State := withArgs 0 [5, length] (withUse 5 u up)
theorem test_post : ((after (exec (.post 0 false) (sPost 100 opened))).piu 0).copy = some 0 ∧
    ((after (exec (.post 0 false) (sPost 100 opened))).use 5).map (fun u => (u.held, u.nextSequence, u.fill, u.hold)) = some (6, 4, true, none) := by
  decide +kernel
theorem test_post_held : answer (after (exec (.post 0 false) (sPost 100 heldUse))) 0 = (12, [0, 0, 0, 0]) := by decide +kernel

def sLand : State := withArgs 1 ringWords (withUse 5 { opened with ring := some disarmedRing, queue := [1] } up)
theorem test_land : answer (after (exec (.land 1 false) sLand)) 1 = (1, [1, 0, 0, 0]) ∧
    ((after (exec (.land 1 false) sLand)).use 5).bind (fun u => u.ring) = some ⟨true, 0x1000, 4, 17, 0, 0⟩ := by decide +kernel

def sConfirm (u : Use) : State :=
  withArgs 1 [0x00020005] (withRecord 3 (message .unconfirmed) (withUse 5 { u with terms := confirmedTerms, unconfirmed := [3] } up))
theorem test_confirm : answer (after (exec (.confirm 1 false) (sConfirm opened))) 1 = (1, [1, 0, 0, 0]) ∧
    (((after (exec (.confirm 1 false) (sConfirm opened))).nu 0).producerWords.read 0).lastConfirmed = 2 := by decide +kernel

theorem test_query : answer (after (exec (.query 0 false) (withArgs 0 [0x205] (withUse 5 opened up)))) 0 =
    (1, [0x04000000, 0x000A0014, 0x00070005, 0]) := by decide +kernel
theorem test_readCounters : answer (after (exec (.readCounters 0 false) (withArgs 0 [0x205] (withUse 5 opened up)))) 0 = (4, [0, 0, 0, 0]) := by
  decide +kernel

def sSetVector : State := withArgs 0 [0x00FF0200, 9, 0x3000, 77] up
theorem test_setVector : (((after (exec (.setVector 0 false) sSetVector)).nu 0).vectors.read 0).target = .message 0x3000 77 ∧
    (((after (exec (.setVector 0 false) sSetVector)).nu 0).vectors.read 0).state = .armed := by decide +kernel

def sAttach : State := withArgs 0 [0x400, 0x104] State.reset
theorem test_attach : ((after (exec (.attach 0 false) sAttach)).piu 0).state = .attached ∧
    ((after (exec (.attach 0 false) sAttach)).nu 0).grant = .four ∧ ((after (exec (.attach 0 false) sAttach)).nu 0).flushRequest = true := by
  decide +kernel

def sDetach (mode : Word) : State := withArgs 1 [mode] (withUse 5 opened up)
theorem test_detach : ((after (exec (.detach 1 false) (sDetach 0))).piu 1).state = .detached ∧
    ((after (exec (.detach 1 false) (sDetach 0))).port 1).flushOwed = [5] := by decide +kernel
theorem test_detach_retain : ((after (exec (.detach 1 false) (sDetach 1))).piu 1).state = .retained ∧
    ((after (exec (.detach 1 false) (sDetach 1))).port 1).requeueOwed = [5] := by decide +kernel

/-- Port 0, the producer, retains; its ATTACH waits until the retain has been taken on its entry (R145, R148, R151). -/
def sRetainedProducer (u : Use) : State := withArgs 0 [0x400, 0x104] (after (exec (.detach 0 false) (withArgs 0 [1] (withUse 5 u up))))
theorem test_attach_outstanding : answer (after (exec (.attach 0 false) (sRetainedProducer opened))) 0 = (3, [0, 0, 0, 0]) ∧
    ((after (exec (.attach 0 false) (after (exec (.requeue 0 5) (sRetainedProducer opened))))).piu 0).state = .attached := by decide +kernel

theorem test_armRetain : ((after (exec (.armRetain 2 false) up)).piu 2).retainArmed = true := by decide +kernel
theorem test_disarmRetain :
    ((after (exec (.disarmRetain 2 false) (up.modPiu 2 fun u => { u with retainArmed := true }))).piu 2).retainArmed = false := by decide +kernel
theorem test_badCommand : answer (after (exec (.badCommand 0 15 false) up)) 0 = (2, [0, 0, 0, 0]) := by decide +kernel
theorem test_cmdOverrun : ((after (exec (.cmdOverrun 0 5 true) (withCopy 0 1 up))).piu 0).slot.overrun = true := by decide +kernel
theorem test_composeBufferWrite :
    ((after (exec (.composeBufferWrite 0 255 0x01020300) up)).piu 0).compose = [(1021, 3), (1022, 2), (1023, 1)] := by decide +kernel
theorem test_creditWrite :
    ((after (exec (.creditWrite 1 0 2) (withUse 5 opened up))).use 5).bind (fun u => u.ring) = some { armedRing with readIndex := 2 } := by decide +kernel
theorem test_creditWrite_range :
    ((after (exec (.creditWrite 1 0 3) (withUse 5 opened up))).nu 1).backlog = [⟨.creditRange, 0, 0, 3, 0⟩] := by decide +kernel
theorem test_eventReadIndexWrite :
    ((after (exec (.eventReadIndexWrite 0 3) (up.modNu 0 fun nu => { nu with eventWrite := 3 }))).piu 0).eventRead = 3 := by decide +kernel
theorem test_windowWrite : (after (exec (.windowWrite 0 .word 0x43C 8) up)).windowRead 0 .word 0x43C = 8 := by decide +kernel
theorem test_deviceReset : (after (exec .deviceReset up)).resetPin = true ∧ ((after (exec .deviceReset up)).piu 0).state = .detached := by decide +kernel
theorem test_portReset : ((after (exec (.portReset 0) up)).piu 0).state = .quiescing ∧
    ((after (exec (.portResetRelease 0) (after (exec (.portReset 0) up)))).piu 0).state = .detached := by decide +kernel

def sOwed : State := (withUse 5 opened up).modPort 1 fun b => { b with flushOwed := [5], requeueOwed := [5] }
theorem test_detachmentOnEntry : ((after (exec (.detachmentOnEntry 1 5) sOwed)).use 5).map (fun u => u.stage) = some .orphaned := by decide +kernel
theorem test_requeue : ((after (exec (.requeue 1 5) sOwed)).use 5).bind (fun u => u.ring) = some disarmedRing ∧
    ((after (exec (.requeue 1 5) sOwed)).nu 0).backlog = [⟨.consumerAway, 0, 5, 1, 0⟩] := by decide +kernel

def sHoldOwed : State := { withUse 5 { opened with held := 6 } up with holdOwed := allChannels }
theorem test_poolHoldRequest : ((after (exec (.poolHoldRequest 5) sHoldOwed)).nu 0).backlog = [⟨.hold, 1, 5, 7, 0⟩] := by decide +kernel
def sRetestOwed : State := { withUse 5 { heldUse with held := 5 } up with retestOwed := [5] }
theorem test_poolRetest : ((after (exec (.poolRetest 5) sRetestOwed)).nu 0).backlog = [⟨.resume, 0, 5, 5, 0⟩] := by decide +kernel
/-- The pool is LOW again before the retest has reached the entry. -/
def sLowAgain : State := { sRetestOwed with holdOwed := allChannels, pool := { sRetestOwed.pool with level := .low } }
/-- The retest taken first sees NORMAL and releases; taken after the new pool request it finds the pool LOW (R116). -/
theorem test_poolRetest_lowAgain : ((after (exec (.poolRetest 5) sLowAgain)).nu 0).backlog = [⟨.resume, 0, 5, 5, 0⟩] ∧
    ((after (exec (.poolRetest 5) (after (exec (.poolHoldRequest 5) sLowAgain)))).nu 0).backlog = [] := by decide +kernel
theorem test_offerTimerExpiry : (after (exec (.offerTimerExpiry 5) (withUse 5 offeredUse up))).use 5 = none ∧
    ((after (exec (.offerTimerExpiry 5) (withUse 5 offeredUse up))).nu 1).backlog = [⟨.offerWithdrawn, 0, 5, 1, 0⟩] := by decide +kernel
theorem test_holdTimerExpiry : ((after (exec (.holdTimerExpiry 5) (withUse 5 heldUse up))).nu 0).backlog = [⟨.hold, 2, 5, 7, 0⟩] ∧
    ((after (exec (.holdTimerExpiry 5) (withUse 5 { heldUse with held := 9 } up))).nu 0).backlog = [⟨.resume, 1, 5, 9, 0⟩] := by decide +kernel

def sDelay (count : Nat) : State := withVector 0 0 (fun c => { c with state := .armed, pending := 1, threshold := 2, timer := some ⟨64, some count⟩ }) up
theorem test_coalescingDelayExpiry : ((after (exec (.coalescingDelayExpiry 0 0) (sDelay 64))).nu 0).flushRequest = true := by decide +kernel

def sCopy (u : Use) : State := withCopy 0 3 (withRecord 3 (message .filling) (withUse 5 { u with fill := true } up))
theorem test_copyCompletion : answer (after (exec (.copyCompletion 0) (sCopy opened))) 0 = (1, [2, 1, 0, 0]) ∧
    ((after (exec (.copyCompletion 0) (sCopy opened))).use 5).map (fun u => u.queue) = some [3] := by decide +kernel

def sReady : State := withRecord 3 (message .queued) (withUse 5 { opened with queue := [3] } up)
theorem test_landingJobStart : ((after (exec (.landingJobStart 1) sReady)).writer 1).isBusy = true ∧
    ((after (exec (.landingJobStart 1) sReady)).roundRobin.read 1).read 0 = 5 := by decide +kernel
def sFlush : State := up.modNu 0 fun nu => { nu.fire 0 with backlog := [⟨.hold, 2, 5, 7, 0⟩], eventWrite := 63 }
theorem test_flushJobStart : (match ((after (exec (.flushJobStart 0) sFlush)).writer 0).state with
    | .busy job => (job.writes.take 2, job.writes.length)
    | _ => ([], 0)) = ([⟨0x1F8, 0x0005020B⟩, ⟨0x1FC, 7⟩], 35) := by decide +kernel
def sSignal (target : VectorTarget) : State := withVector 0 0 (fun c => { c with state := .signalled, due := true, target := target }) up
theorem test_signalJobStart : ((after (exec (.signalJobStart 0) (sSignal .line))).nu 0).irq = true ∧
    ((after (exec (.signalJobStart 0) (sSignal (.message 0x3000 77)))).writer 0).isBusy = true := by decide +kernel
theorem test_rearm : (((after (exec (.rearm 0 0 0) (withVector 0 0 (fun c => { c with state := .signalled }) up))).nu 0).vectors.read 0).state = .armed := by
  decide +kernel

def sLanding (u : Use) : State := withJob 1 (.landing 5 1 3 2) 64 (withRecord 3 (message .landing) (withUse 5 { u with queue := [3] } up))
theorem test_landingCompletion : ((after (exec (.landingCompletion ⟨1, 0⟩) (sLanding opened))).use 5).map (fun u => (u.held, u.queue)) = some (2, []) ∧
    (((after (exec (.landingCompletion ⟨1, 0⟩) (sLanding opened))).nu 1).consumerWords.read 0).writeIndex = 3 := by decide +kernel
theorem test_linkWriteOk : exec (.linkWriteOk ⟨1, 0⟩) (sLanding opened) = exec (.landingCompletion ⟨1, 0⟩) (sLanding opened) := by rfl
theorem test_linkWriteError : ((after (exec (.linkWriteError ⟨1, 0, true⟩) (sLanding opened))).piu 1).state = .faulted ∧
    ((after (exec (.linkWriteError ⟨1, 0, true⟩) (sLanding opened))).writer 1) = ⟨.stopped, .busError, 0x2000, 0⟩ := by decide +kernel
theorem test_writeTimeout : ((after (exec (.writeTimeout ⟨1, true⟩) (sLanding opened))).writer 1).faultKind = .timeout := by decide +kernel
theorem test_flushCompletion : ((after (exec (.flushCompletion ⟨0, 0⟩) (withJob 0 (.flush 1 1 [0]) 0 sFlush))).nu 0).tag = 1 ∧
    ((after (exec (.flushCompletion ⟨0, 0⟩) (withJob 0 (.flush 1 1 [0]) 0 sFlush))).nu 0).backlog = [] := by decide +kernel
theorem test_signalCompletion :
    (((after (exec (.signalCompletion ⟨0, 0⟩) (withJob 0 (.signal 0) 0 (sSignal (.message 0x3000 77))))).nu 0).vectors.read 0).due = false := by decide +kernel
theorem test_quiesceEnd :
    ((after (exec (.quiesceEnd 0) ((withPort 0 .quiescing up).modPiu 0 fun u => { u with leaveMode := some .retain }))).piu 0).state = .retained := by
  decide +kernel

/-! ## Time, late answers, failures that are handed over -/

/-- A timer that starts on a tick expires at the Nth tick after it; one that starts between two ticks at the Nth after the next (R177). -/
theorem test_expiryFallsOnItsTick :
    (Timer.start 2).pass.tick.pass.expired = false ∧ (Timer.start 2).pass.tick.pass.tick.expired = true ∧
      (Timer.start 2).tick.pass.tick.pass.expired = false ∧ (Timer.start 2).tick.pass.tick.pass.tick.expired = true := by decide

/-- A hold renewed at its own expiry counts from the tick it stands on (R118, R177). -/
theorem test_renewalStartsOnItsTick :
    ((after (exec (.holdTimerExpiry 5) (withUse 5 heldUse { up with onTick := true }))).passTime.use 5).bind (fun u => u.hold) =
      some ⟨.quota, ⟨56, some 0⟩⟩ := by decide +kernel

/-- An answer to a write of a job that has ended is not taken, also while another job is in flight (R75). -/
theorem test_lateAnswer : exec (.linkWriteOk ⟨1, 7⟩) (sLanding opened) = .next (sLanding opened) ∧
    exec (.linkWriteError ⟨1, 7, true⟩) (sLanding opened) = .next (sLanding opened) := ⟨rfl, rfl⟩

/-- A landing failure that is handed over and not yet taken: the port is still ATTACHED, so a CLOSE is taken and discards the returned record (R51). -/
def sHanded (u : Use) : State := after (exec (.linkWriteError ⟨1, 0, false⟩) (withArgs 1 [named] (sLanding u)))
theorem test_closeAfterAHandedFailure : ((sHanded opened).piu 1).state = .attached ∧ ((sHanded opened).piu 1).faultHanded = true ∧
    answer (after (exec (.close 1 false) (sHanded opened))) 1 = (1, [0, 0, 0, 0]) ∧ (after (exec (.close 1 false) (sHanded opened))).record 3 = none := by
  decide +kernel

/-- The interval of a timer is over. -/
theorem ranOut_of {n k : Nat} (h : n ≤ k) : (Timer.mk n (some k)).RanOut := ⟨k, rfl, h⟩

/-- The interval of a timer is not over. -/
theorem not_ranOut_of {n k : Nat} (h : k < n) : ¬ (Timer.mk n (some k)).RanOut := fun hr => absurd ((Timer.expired_iff _).mpr hr) (by simp [Timer.expired, h])

/-! ## States that meet the hypotheses of the statements

One theorem for each statement that has hypotheses: it shows a state and operands for each of its clauses, at a boundary of the clause's range where it has
one. -/

theorem test_witness_IdleStepLetsTimePass :
    (up.pending = [] ∧ (∀ p, (up.piu p).faultHanded = false ∧ (up.writer p).state = .idle) ∧ (∀ c, up.use c = none) ∧
      ∀ p v, ((up.nu p).vectors.read v).timer = none) ∧
    ((withUse 5 offeredUse up).use 5 = some offeredUse ∧ offeredUse.stage = .offered ⟨0, 1, ⟨1000, some 1000⟩⟩ ∧ (⟨1000, some 1000⟩ : Timer).RanOut) ∧
    ((withUse 5 heldUse up).use 5 = some heldUse ∧ heldUse.stage = .opened ∧ heldUse.hold = some ⟨.quota, ⟨56, some 56⟩⟩ ∧
      (⟨56, some 56⟩ : Timer).RanOut) ∧
    ((((sDelay 64).nu 0).vectors.read 0).timer = some ⟨64, some 64⟩ ∧ (((sDelay 64).nu 0).vectors.read 0).fired = false ∧ (⟨64, some 64⟩ : Timer).RanOut) ∧
    ((sLanding opened).writer 1).state = .busy ⟨.landing 5 1 3 2, [⟨0x2000, 9⟩], ⟨64, some 64⟩⟩ ∧ ((sHanded opened).piu 1).faultHanded = true :=
  ⟨by decide +kernel, ⟨by decide +kernel, rfl, ranOut_of (by decide)⟩, ⟨by decide +kernel, rfl, rfl, ranOut_of (by decide)⟩,
    ⟨by decide +kernel, by decide +kernel, ranOut_of (by decide)⟩, by decide +kernel, by decide +kernel⟩

/-- The pool's laws hold of an empty pool. -/
theorem emptyPool_lawful (pool : Pool) (hseg : pool.segFree = ascending 2048 0 2048) (hrec : pool.recFree = ascending 1024 0 1024)
    (hnone : ∀ r, pool.records.read r = none) (hlevel : pool.level = .normal) (hmark : Config.lowMark ≤ pool.freeCount) : pool.Lawful := by
  have hchained : pool.chained = [] := by
    unfold Pool.chained
    rw [List.flatMap_eq_nil_iff]
    intro r _
    rw [hnone]
    rfl
  refine ⟨?_, ⟨hrec ▸ nodup_ascending 1024, fun r => ?_⟩, fun r rec h => ?_, ?_⟩
  · rw [hchained, List.append_nil, hseg]
  · rw [hrec]
    exact ⟨fun _ => hnone r, fun _ => mem_ascending r⟩
  · rw [hnone] at h
    cases h
  · rw [hlevel]
    exact ⟨fun _ => hmark, fun h => by cases h⟩

theorem test_reset_records : ∀ r, Pool.reset.records.read r = none := fun r => Table.read_fill none r
theorem test_reset_free_count : Config.lowMark ≤ Pool.reset.freeCount := by decide +kernel
theorem test_reset_pool_lawful : Pool.reset.Lawful := by
  have hseg : Pool.reset.segFree = ascending 2048 0 2048 := by simp only [Pool.reset]
  have hrec : Pool.reset.recFree = ascending 1024 0 1024 := by simp only [Pool.reset]
  exact emptyPool_lawful Pool.reset hseg hrec test_reset_records rfl test_reset_free_count

theorem test_witness_EveryStepKeepsThePoolLawful : ({ State.reset with pending := [.portReset 0] } : State).pool.Lawful :=
  test_reset_pool_lawful

theorem test_witness_EveryStepKeepsMemoriesCanonical :
    State.MemoriesCanonical { (up.modPiu 0 fun u => { u with compose := [(3, 1), (1023, 255)] }) with pending := [.composeBufferWrite 0 0 7] } := by
  refine ⟨by decide +kernel, ?_⟩
  decide +kernel

/-- A Notice Unit at the bounds of its laws: 32 events wait, a pending count of 65535, a due signal of a SIGNALLED vector, PnIRQ asserted. -/
def sFull : State := (withVector 0 0 (fun c => { c with state := .signalled, due := true, target := .line, pending := 65535 }) up).modNu 0 fun nu =>
  { nu with irq := true, backlog := List.replicate 32 ⟨.hold, 0, 0, 0, 0⟩ }
theorem test_witness_EveryStepKeepsNoticeUnitsLawful : ∀ p, (sFull.port p).NoticeLawful := by
  intro p
  refine ⟨?_, ?_, ?_, ?_, ?_⟩ <;> revert p <;> decide +kernel

theorem test_witness_EveryStepKeepsWritersAndLocksLawful :
    ∀ p, ((sCopy opened).port p).WriterLawful ∧ ((sCopy opened).port p).LockLawful := by
  intro p
  refine ⟨?_, ?_⟩
  · unfold Port.WriterLawful
    have h : ∀ p, ((sCopy opened).port p).writer.state = .idle ∧ ((sCopy opened).port p).piu.state = .attached ∧
        ((sCopy opened).port p).piu.faultHanded = false := by decide +kernel
    rw [(h p).1]
    exact (h p).2
  · unfold Port.LockLawful
    revert p
    decide +kernel

theorem test_witness_EveryStepKeepsTheChannelTableLawful :
    (withUse 5 heldUse up).EntriesLawful ∧ (withUse 5 heldUse up).SlotsBoundOnce ∧ (withUse 5 heldUse up).FreeEntriesClear := by
  have h : ∀ c, (withUse 5 heldUse up).use c = if c = 5 then some heldUse else none := by decide +kernel
  refine ⟨fun c u hu => ?_, fun role q c d u w hu hw _ _ => ?_, fun c _ => ?_⟩
  · rw [h] at hu
    split at hu
    · cases hu
      refine ⟨by decide, by decide, by decide, by decide, fun o ho => (by cases ho), by decide, by decide⟩
    · cases hu
  · rw [h] at hu hw
    split at hu <;> split at hw <;> simp_all
  · revert c
    decide +kernel

theorem test_witness_WindowWritesAreDiscardedUnderReset :
    windowPort (.offer 0 false) = some 0 ∧ ¬ ({ up with resetPin := true } : State).WindowOpen 0 ∧
      ¬ (up.modPiu 0 fun u => { u with resetPin := true }).WindowOpen 0 := by decide +kernel

theorem test_witness_CommandWordToABusySlotIsAnOverrun :
    commandWordOf (.query 0 true) = some (0, 8, true) ∧ commandWordOf (.badCommand 0 255 false) = some (0, 255, false) ∧
      (withCopy 0 1 up).WindowOpen 0 ∧ ((withCopy 0 1 up).piu 0).slot.busy = true := by decide +kernel

theorem test_witness_UnknownKindIsABadCommand :
    (Instr.badCommand 0 0 false).WellFormed = true ∧ (Instr.badCommand 0 15 false).WellFormed = true ∧ (Instr.badCommand 0 255 true).WellFormed = true ∧
      up.SlotReady 0 := by decide +kernel

theorem test_witness_PortStateTurnsCommandsAway :
    slotCommand (.attach 0 false) = some (0, .attach, false) ∧ (up.SlotReady 0 ∧ (up.piu 0).state = .attached) ∧
      slotCommand (.detach 0 false) = some (0, .detach, false) ∧ (State.reset.SlotReady 0 ∧ (State.reset.piu 0).state = .detached) ∧
      ((withPort 0 .quiescing up).SlotReady 0 ∧ ((withPort 0 .quiescing up).piu 0).state = .quiescing) ∧
      slotCommand (.setVector 0 true) = some (0, .setVector, true) ∧
      ((withPort 0 .retained up).SlotReady 0 ∧ ((withPort 0 .retained up).piu 0).state = .retained) ∧
      ((withPort 0 .faulted up).SlotReady 0 ∧ ((withPort 0 .faulted up).piu 0).state = .faulted) := by decide +kernel

theorem test_witness_ArgumentWordsAreStored : up.WindowOpen 0 ∧ State.reset.WindowOpen 3 := by decide +kernel

theorem test_witness_OtherWindowAccessesAreDiscarded :
    (AccessSize.byte ≠ .word ∧ (0x402 : BitVec 13).toNat % 4 ≠ 0) ∧
      [(0x418 : BitVec 13), 0x41C].all (fun o => 0x418 ≤ o.toNat && o.toNat < 0x420) = true ∧
      [(0x440 : BitVec 13), 0x4FC].all (fun o => 0x440 ≤ o.toNat && o.toNat < 0x500) = true ∧
      [(0x544 : BitVec 13), 0x54C].all (fun o => 0x544 ≤ o.toNat && o.toNat < 0x550) = true ∧
      [(0x560 : BitVec 13), 0x57C].all (fun o => 0x560 ≤ o.toNat && o.toNat < 0x580) = true ∧
      [(0x58C : BitVec 13), 0x1FFC].all (fun o => 0x58C ≤ o.toNat) = true ∧
      (0x404 : BitVec 13).toNat ∈ [0x404, 0x408, 0x40C, 0x410, 0x414, 0x580, 0x584, 0x588] ∧
      commandWordOf (.offer 0 true) = some (0, BitVec.ofNat 8 (0x101 : Word).toNat, (0x101 : Word).getLsbD 8) ∧
      commandWordOf (.badCommand 0 15 false) = some (0, BitVec.ofNat 8 (0x0F : Word).toNat, (0x0F : Word).getLsbD 8) ∧
      commandWordOf (.cmdOverrun 0 14 false) = some (0, BitVec.ofNat 8 (0x0E : Word).toNat, (0x0E : Word).getLsbD 8) ∧
      State.reset.resetPin = false ∧ (after (exec .deviceReset up)).resetPin = true := by decide +kernel

def sOfferConsumer : State := withArgs 0 offerWordsConsumer up
theorem test_witness_OfferTakesTheLowestFreeEntry :
    (sOffer.SlotReady 0 ∧ (sOffer.piu 0).state = .attached ∧ (offerArgs (sOffer.piu 0).slot.arguments).inRange 0 = true ∧
      (offerArgs (sOffer.piu 0).slot.arguments).role = 0 ∧ sOffer.SlotUnbound .producer ⟨0, 0⟩ ∧ (sOffer.piu 1).state = .attached ∧ sOffer.use 0 = none) ∧
    (sOfferConsumer.SlotReady 0 ∧ (offerArgs (sOfferConsumer.piu 0).slot.arguments).inRange 0 = true ∧
      (offerArgs (sOfferConsumer.piu 0).slot.arguments).role = 1 ∧ (offerArgs (sOfferConsumer.piu 0).slot.arguments).maxLength + 16 ≤ 64 * 17 ∧
      (offerArgs (sOfferConsumer.piu 0).slot.arguments).ring.slotUnits = 17 ∧ sOfferConsumer.SlotUnbound .consumer ⟨0, 15⟩) := by
  refine ⟨⟨?_, ?_, ?_, ?_, ?_, ?_, ?_⟩, ?_, ?_, ?_, ?_, ?_, ?_⟩
  case refine_5 => exact slotUnbound_of (by decide +kernel)
  case refine_13 => exact slotUnbound_of (by decide +kernel)
  all_goals decide +kernel

/-- Every entry in use. -/
def sNoChannel : State := { sOffer with entries := Table.fill 64 ⟨1, Counters.zero, some { opened with producer := some ⟨2, 3⟩ }⟩ }
theorem test_witness_OfferIsRefusedByTheFirstTestThatFails :
    (offerArgs ((withArgs 0 [0, 0x00140400, 0x0005000A, 0x01000007] up).piu 0).slot.arguments).inRange 0 = false ∧
    (let a := offerArgs ((withArgs 0 [0x03010101, 0x00140400, 0x0005000A, 0xFFFFFFFF, 15, 0x1000, 0x00100400] up).piu 0).slot.arguments
     a.inRange 0 = true ∧ a.role = 1 ∧ 64 * a.ring.slotUnits < a.maxLength + 16) ∧
    ¬ (withUse 5 opened sOffer).SlotUnbound .producer ⟨0, 0⟩ ∧ ((withPort 1 .detached sOffer).piu 1).state ≠ .attached ∧
    (sNoChannel.SlotReady 0 ∧ sNoChannel.SlotUnbound .producer ⟨0, 0⟩ ∧ ∀ c, sNoChannel.use c ≠ none) :=
  ⟨by decide +kernel, by decide +kernel, fun h => absurd (h 5 opened (by decide +kernel)) (by decide), by decide +kernel, by decide +kernel,
    slotUnbound_of (by decide +kernel), by decide +kernel⟩

theorem test_witness_AcceptByTheConsumerOpensTheChannel :
    sAccept.SlotReady 1 ∧ (sAccept.piu 1).state = .attached ∧
      sAccept.OfferNamed 1 (channelArg (sAccept.piu 1).slot.arguments) (generationArg (sAccept.piu 1).slot.arguments) 5 offeredUse ⟨0, 1, ⟨1000, some 1000⟩⟩ ∧
      offeredUse.producer.isSome = true ∧ acceptSlotArg (sAccept.piu 1).slot.arguments = 2 ∧ sAccept.SlotUnbound .consumer ⟨1, 2⟩ ∧
      ringOk (ringArgs (sAccept.piu 1).slot.arguments) = true ∧ offeredUse.terms.maxLength + 16 ≤ 64 * (ringArgs (sAccept.piu 1).slot.arguments).slotUnits :=
  ⟨by decide +kernel, by decide +kernel, by decide +kernel, by decide +kernel, by decide +kernel, slotUnbound_of (by decide +kernel), by decide +kernel,
    by decide +kernel⟩

/-- Port 0 answers port 1's offer to consume. -/
def sAcceptWanted : State := withArgs 0 [0xF0105] (withUse 5 wantedUse up)
theorem test_witness_AcceptByTheProducerOpensTheChannel :
    (∀ s ∈ [sAcceptWanted, withPort 1 .retained sAcceptWanted, withPort 1 .faulted sAcceptWanted], s.SlotReady 0 ∧ (s.piu 0).state = .attached ∧
      s.OfferNamed 0 (channelArg (s.piu 0).slot.arguments) (generationArg (s.piu 0).slot.arguments) 5 wantedUse ⟨1, 0, ⟨1000, some 999⟩⟩ ∧
      wantedUse.producer = none ∧ acceptSlotArg (s.piu 0).slot.arguments = 15) ∧ sAcceptWanted.SlotUnbound .producer ⟨0, 15⟩ ∧
      ((withPort 1 .retained sAcceptWanted).piu 1).state = .retained :=
  ⟨by decide +kernel, slotUnbound_of (by decide +kernel), by decide +kernel⟩

theorem test_witness_AcceptIsRefusedByTheFirstTestThatFails :
    (up.SlotReady 1 ∧ ∀ c, up.use c = none) ∧
    ¬ (withUse 6 { opened with consumer := some ⟨1, 2⟩ } sAccept).SlotUnbound .consumer ⟨1, 2⟩ ∧
    (let r := ringArgs ((withArgs 1 [0x20105, 0, 0, 0, 0, 0x1000, 0x00100004] sAccept).piu 1).slot.arguments
     64 * r.slotUnits < offeredUse.terms.maxLength + 16) ∧
    15 < acceptSlotArg ((withArgs 1 [0x100105, 0, 0, 0, 0, 0x1000, 0x00110004] sAccept).piu 1).slot.arguments ∧
    (let r := ringArgs ((withArgs 1 [0x20105, 0, 0, 0, 0, 0x1001, 0x00110004] sAccept).piu 1).slot.arguments
     ringOk r = false ∧ offeredUse.terms.maxLength + 16 ≤ 64 * r.slotUnits) :=
  ⟨by decide +kernel, fun h => absurd (h 6 { opened with consumer := some ⟨1, 2⟩ } (by decide +kernel)) (by decide), by decide +kernel, by decide +kernel,
    by decide +kernel⟩

theorem test_witness_DeclineFreesTheEntry :
    ((withPort 1 .retained sDecline).SlotReady 1 ∧ ((withPort 1 .retained sDecline).piu 1).state ≠ .attached) ∧
    ((withArgs 1 [0x0205] sDecline).SlotReady 1 ∧ generationArg ((withArgs 1 [0x0205] sDecline).piu 1).slot.arguments ≠ (sDecline.entry 5).generation) ∧
    (sDecline.SlotReady 1 ∧ (sDecline.piu 1).state = .attached ∧ sDecline.OfferNamed 1 (channelArg (sDecline.piu 1).slot.arguments)
      (generationArg (sDecline.piu 1).slot.arguments) 5 offeredUse ⟨0, 1, ⟨1000, some 1000⟩⟩) := by decide +kernel

theorem test_witness_CloseIsRefusedByTheFirstTestThatFails :
    (up.SlotReady 0 ∧ 63 < channelArg ((withArgs 0 [64] up).piu 0).slot.arguments) ∧ up.use 5 = none ∧
    (generationArg ((withArgs 0 [0x205] (sClose 0 opened)).piu 0).slot.arguments ≠ ((sClose 0 opened).entry 5).generation) ∧
    ((sClose 2 opened).SlotReady 2 ∧ (sClose 2 opened).EntryNamed 5 1 5 opened ∧ opened.isParty 2 = false) ∧
    (offeredUse.stage = .offered ⟨0, 1, ⟨1000, some 1000⟩⟩ ∧ (0 : PortId) ≠ 1) ∧
    (({ opened with stage := .closing } : Use).producedBy 0 = true) ∧ ({ opened with stage := .ending } : Use).isParty 1 = true := by decide +kernel

theorem test_witness_CloseOfAnOfferOrAnOrphanFreesTheEntry :
    ((sClose 0 offeredUse).SlotReady 0 ∧ ((sClose 0 offeredUse).piu 0).state = .attached ∧
      (sClose 0 offeredUse).EntryNamed (channelArg ((sClose 0 offeredUse).piu 0).slot.arguments) (generationArg ((sClose 0 offeredUse).piu 0).slot.arguments) 5
        offeredUse ∧ offeredUse.stage = .offered ⟨0, 1, ⟨1000, some 1000⟩⟩) ∧
    ((sClose 1 offeredUse).SlotReady 1 ∧ ((sClose 1 offeredUse).piu 1).state = .attached ∧
      (sClose 1 offeredUse).EntryNamed (channelArg ((sClose 1 offeredUse).piu 1).slot.arguments) (generationArg ((sClose 1 offeredUse).piu 1).slot.arguments) 5
        offeredUse ∧ (0 : PortId) ≠ 1) ∧
    (let u : Use := { opened with stage := .orphaned, consumer := none, ring := none }
     (sClose 0 u).EntryNamed (channelArg ((sClose 0 u).piu 0).slot.arguments) (generationArg ((sClose 0 u).piu 0).slot.arguments) 5 u ∧
       u.isParty 0 = true) := by decide +kernel

theorem test_witness_ProducerCloseDrainsTheChannel :
    ∀ u ∈ [opened, { opened with queue := [3] }, { opened with fill := true }],
      (sClose 0 u).SlotReady 0 ∧ ((sClose 0 u).piu 0).state = .attached ∧
      (sClose 0 u).EntryNamed (channelArg ((sClose 0 u).piu 0).slot.arguments) (generationArg ((sClose 0 u).piu 0).slot.arguments) 5 u ∧
      u.stage = .opened ∧ u.producedBy 0 = true := by decide +kernel

/-- A consumer's CLOSE with a LANDING head, and its entry. -/
def sCloseLanding : State := withRecord 3 (message .landing) (sClose 1 { opened with queue := [3, 4] })
theorem test_witness_ConsumerCloseDiscardsTheMessages :
    (∀ u ∈ [opened, { opened with stage := .closing, fill := true }], (sClose 1 u).SlotReady 1 ∧ ((sClose 1 u).piu 1).state = .attached ∧
      (sClose 1 u).EntryNamed (channelArg ((sClose 1 u).piu 1).slot.arguments) (generationArg ((sClose 1 u).piu 1).slot.arguments) 5 u ∧
      u.consumedBy 1 = true ∧ u.producedBy 1 = false) ∧
    sCloseLanding.landingHead { opened with queue := [3, 4] } = some 3 := by decide +kernel

theorem test_witness_OfferTimerExpiryFreesTheEntry :
    ((withUse 5 offeredUse up).use 5 = some offeredUse ∧ offeredUse.stage = .offered ⟨0, 1, ⟨1000, some 1000⟩⟩ ∧
      wantedUse.stage = .offered ⟨1, 0, ⟨1000, some 999⟩⟩ ∧ (withUse 5 wantedUse up).use 5 = some wantedUse) ∧
    (⟨1000, some 1000⟩ : Timer).RanOut ∧ ¬ (⟨1000, some 999⟩ : Timer).RanOut :=
  ⟨by decide +kernel, ranOut_of (by decide), not_ranOut_of (by decide)⟩

theorem test_witness_ComposeBufferWritesAreLocked :
    ((withCopy 0 1 up).WindowOpen 0 ∧ ((withCopy 0 1 up).piu 0).copy ≠ none) ∧ (up.WindowOpen 0 ∧ (up.piu 0).copy = none ∧ up.resetPin = false) ∧
      (up.MemoriesCanonical ∧ (withCopy 0 1 up).MemoriesCanonical) :=
  ⟨by decide +kernel, by decide +kernel, ⟨⟨by decide +kernel, by decide +kernel⟩, ⟨by decide +kernel, by decide +kernel⟩⟩⟩

/-- Conditions of acceptance, for a state whose POST is on channel 5. -/
def postAllowed (s : State) (u : Use) (r : RecordId) (rs : List RecordId) : Bool :=
  let w := (s.piu 0).slot.arguments
  (s.SlotReady 0 ∧ (s.piu 0).state = .attached ∧ channelArg w = 5 ∧ s.use 5 = some u ∧ u.stage = .opened ∧ u.producedBy 0 = true) ∧
    (1 ≤ lengthArg w ∧ lengthArg w ≤ u.terms.maxLength) ∧ (u.hold = none ∨ urgentArg w = true) ∧ u.held + segmentCount (lengthArg w) ≤ u.terms.quota ∧
    s.pool.recFree = r :: rs ∧ (if urgentArg w = true then segmentCount (lengthArg w) else 64 + segmentCount (lengthArg w)) ≤ s.pool.segFree.length
/-- A pool with so many free segments. -/
def withFree (n : Nat) (s : State) : State := { s with pool := { s.pool with segFree := ascending 2048 0 n } }
theorem test_witness_PostIsAccepted :
    postAllowed (sPost 1024 opened) opened 0 (ascending 1024 1 1023) = true ∧ postAllowed (sPost 1 { opened with held := 9 }) { opened with held := 9 } 0
      (ascending 1024 1 1023) = true ∧
    postAllowed (withArgs 0 [0x105, 1] (withFree 1 (sPost 1 heldUse))) heldUse 0 (ascending 1024 1 1023) = true ∧
    postAllowed (withFree 192 (sPost 1 opened)) opened 0 (ascending 1024 1 1023) = true := by decide +kernel

/-- What the tests of POST look at: the channel's use and the length. -/
def postNamed (s : State) (u : Use) : Prop :=
  s.SlotReady 0 ∧ (s.piu 0).state = .attached ∧ channelArg (s.piu 0).slot.arguments = (5 : ChannelId).val ∧ s.use 5 = some u ∧ u.producedBy 0 = true
theorem test_witness_PostIsRefusedByTheFirstTestThatFails :
    63 < channelArg ((withArgs 0 [64] up).piu 0).slot.arguments ∧ up.use 5 = none ∧
    (postNamed (sPost 0 opened) opened ∧ lengthArg ((sPost 0 opened).piu 0).slot.arguments = 0) ∧
    (postNamed (sPost 1025 opened) opened ∧ opened.terms.maxLength < lengthArg ((sPost 1025 opened).piu 0).slot.arguments) ∧
    (postNamed (sPost 1 heldUse) heldUse ∧ heldUse.hold.isSome = true ∧ urgentArg ((sPost 1 heldUse).piu 0).slot.arguments = false) ∧
    (postNamed (sPost 1 { opened with held := 20 }) { opened with held := 20 } ∧ opened.terms.quota < 20 + segmentCount 1) ∧
    ({ sPost 1 opened with pool := { Pool.reset with recFree := [] } } : State).pool.recFree = [] ∧
    (withFree 64 (sPost 1 opened)).pool.segFree.length < 64 + segmentCount 1 ∧
    (postNamed (sPost 1 { opened with stage := .closing }) { opened with stage := .closing } ∧
      postNamed (sPost 1 { opened with stage := .orphaned }) { opened with stage := .orphaned }) := by
  unfold postNamed
  decide +kernel

theorem test_witness_CopyCompletionQueuesTheMessage :
    (sCopy opened).MemoriesCanonical ∧ ((sCopy opened).piu 0).copy = some 3 ∧ (sCopy opened).record 3 = some (message .filling) ∧
      ((sCopy opened).entry 5).generation = 1 ∧ (sCopy opened).use 5 = some { opened with fill := true } ∧ (message .filling).ChainWhole :=
  ⟨⟨by decide +kernel, by decide +kernel⟩, by decide +kernel⟩

theorem test_witness_CopyCompletionOnADepartedConsumer :
    ∀ u ∈ [{ opened with stage := .ending }, { opened with stage := .ending, queue := [4] }, { opened with stage := .orphaned, consumer := none, ring := none }],
      ((sCopy u).piu 0).copy = some 3 ∧ (sCopy u).record 3 = some (message .filling) ∧ ((sCopy u).entry 5).generation = 1 ∧
        (sCopy u).use 5 = some { u with fill := true } := by decide +kernel

theorem test_witness_LandingJobStartServesTheChosenChannel :
    ((up.writer 1).state = .idle ∧ (up.piu 1).state = .attached ∧ (∀ v, ((up.nu 1).vectors.read v).due = false) ∧ (up.nu 1).flushRequest = false ∧
      ∀ c, up.use c = none) ∧
    ∀ u ∈ [opened, { opened with stage := .closing }, { opened with terms := confirmedTerms, unconfirmed := List.replicate 254 4 }],
      let s := withRecord 3 (message .queued) (withUse 5 { u with queue := [3] } up)
      ((s.writer 1).state = .idle ∧ (s.piu 1).state = .attached ∧ (∀ v, ((s.nu 1).vectors.read v).due = false) ∧ (s.nu 1).flushRequest = false) ∧
        s.use 5 = some { u with queue := [3] } ∧ u.consumedBy 1 = true ∧ (u.stage = .opened ∨ u.stage = .closing) ∧ u.ring = some armedRing ∧
        armedRing.armed = true ∧ s.record 3 = some (message .queued) ∧
        1 ≤ armedRing.slotCount - (armedRing.writeIndex - armedRing.readIndex).toNat ∧
        (u.terms.cls = .plain ∨ (u.terms.cls = .confirmed 255 ∧ u.unconfirmed.length < 255)) ∧ u.terms.priority = 0 ∧
        ∀ d, d ≠ 5 → s.use d = none := by decide +kernel

theorem test_witness_LandingWritesPayloadThenHeader : (message .landing).length < 65536 := by decide

theorem test_witness_LinkWriteOkIssuesTheNextWrite :
    (((sLanding opened).writer 1).state = .busy ⟨.landing 5 1 3 2, [⟨0x2000, 9⟩], ⟨64, some 64⟩⟩ ∧
      ((withJob 0 (.flush 1 1 [0]) 63 sFlush).writer 0).state = .busy ⟨.flush 1 1 [0], [⟨0x2000, 9⟩], ⟨64, some 63⟩⟩ ∧
      ((up.modWriter 0 fun w => { w with state := .busy ⟨.signal 3, [⟨0, 1⟩, ⟨4, 2⟩], ⟨64, some 0⟩⟩ }).writer 0).state =
        .busy ⟨.signal 3, [⟨0, 1⟩, ⟨4, 2⟩], ⟨64, some 0⟩⟩) ∧
    ((∀ c g r i, JobKind.signal 3 ≠ .landing c g r i) ∧ (∀ m tag vs, JobKind.landing 5 1 3 2 ≠ .flush m tag vs) ∧ ∀ v, JobKind.flush 1 1 [0] ≠ .signal v) ∧
    ((up.writer 0).state = .idle ∧ (State.reset.writer 0).state = .stopped ∧ 1 ≠ ((sLanding opened).writer 1).jobs ∧
      ((sLanding opened).piu 1).faultHanded = false) ∧ ¬ (⟨64, some 63⟩ : Timer).RanOut :=
  ⟨by decide +kernel, ⟨nofun, nofun, nofun⟩, by decide +kernel, not_ranOut_of (by decide)⟩

theorem test_witness_LandingCompletionOnAnOpenEntry :
    ∀ u ∈ [opened, { heldUse with held := 7 }, { opened with terms := confirmedTerms }],
      ((sLanding u).writer 1).state = .busy ⟨.landing (message .landing).channel 1 3 2, [⟨0x2000, 9⟩], ⟨64, some 64⟩⟩ ∧ ((sLanding u).piu 1).state = .attached ∧
        (sLanding u).record 3 = some (message .landing) ∧ ((sLanding u).entry 5).generation = (message .landing).generation ∧
        (sLanding u).use 5 = some { u with queue := [3] } ∧ u.stage = .opened ∧ u.ring = some armedRing ∧ u.consumer = some ⟨1, 0⟩ := by decide +kernel

theorem test_witness_LandingCompletionDrainsTheEntry :
    (∀ u ∈ [{ opened with stage := .closing, queue := [3] }, { opened with stage := .closing, queue := [3, 4] },
        { opened with stage := .closing, queue := [3], fill := true }, { opened with stage := .closing, queue := [3], terms := confirmedTerms },
        { opened with stage := .ending, queue := [3] }, { opened with stage := .ending, queue := [3], fill := true }],
      let s := withUse 5 u (sLanding opened)
      (s.writer 1).state = .busy ⟨.landing (message .landing).channel 1 3 2, [⟨0x2000, 9⟩], ⟨64, some 64⟩⟩ ∧ (s.piu 1).state = .attached ∧
        s.record 3 = some (message .landing) ∧ (s.entry 5).generation = (message .landing).generation ∧ s.use 5 = some u ∧ u.ring = some armedRing ∧
        u.consumer = some ⟨1, 0⟩) ∧
    ([3] : List RecordId).erase 3 = [] ∧ ([3, 4] : List RecordId).erase 3 ≠ [] ∧ plainTerms.cls = .plain ∧ confirmedTerms.cls ≠ .plain := by decide +kernel

theorem test_witness_LinkFailureFaultsThePort :
    (∀ u ∈ [opened, { opened with stage := .closing }, { opened with stage := .ending }, { opened with stage := .ending, fill := true }],
      ((sLanding u).writer 1).state = .busy ⟨.landing 5 1 3 2, [⟨0x2000, 9⟩], ⟨64, some 64⟩⟩ ∧ ((sLanding u).piu 1).state = .attached ∧
        (sLanding u).record 3 = some (message .landing) ∧ ((sLanding u).entry 5).generation = (message .landing).generation ∧
        (sLanding u).use 5 = some { u with queue := [3] }) ∧ (⟨64, some 64⟩ : Timer).RanOut ∧
    ((withJob 0 (.flush 1 1 [0]) 64 sFlush).writer 0).state = .busy ⟨.flush 1 1 [0], [⟨0x2000, 9⟩], ⟨64, some 64⟩⟩ ∧
    (((sHanded opened).writer 1).state = .stopped ∧ ((sHanded opened).piu 1).state = .attached ∧ ((sHanded opened).piu 1).faultHanded = true) :=
  ⟨by decide +kernel, ranOut_of (by decide), by decide +kernel, by decide +kernel⟩

/-- The fault of port 1, taken beside its offer as consumer, is owed to its consumer channel and not to the offer (log 31). -/
theorem test_faultReachesNoOffer :
    (let t := after (exec (.linkWriteError ⟨1, 0, true⟩) (withUse 9 wantedUse (sLanding opened)))
     (t.piu 1).state = .faulted ∧ (t.port 1).requeueOwed = [5]) ∧
    (let t := after (exec (.linkWriteError ⟨1, 0, true⟩) (withUse 5 wantedUse (withJob 1 (.flush 0 1 [0]) 0 up)))
     (t.piu 1).state = .faulted ∧ t.requestsOutstanding 1 = false) := by decide +kernel

theorem test_witness_CreditWriteMovesTheReadIndex :
    up.SlotUnbound .consumer ⟨1, 0⟩ ∧ (withUse 5 opened up).SlotsBoundOnce ∧
    ((withUse 5 opened up).WindowOpen 1 ∧ (withUse 5 opened up).use 5 = some opened ∧ opened.binds .consumer ⟨1, 0⟩ = true ∧
      opened.ring = some armedRing ∧ armedRing.armed = true ∧ disarmedRing.armed = false ∧
      ((2 : Half) - armedRing.readIndex).toNat ≤ (armedRing.writeIndex - armedRing.readIndex).toNat ∧
      ¬ ((3 : Half) - armedRing.readIndex).toNat ≤ (armedRing.writeIndex - armedRing.readIndex).toNat) := by
  have h : ∀ c, (withUse 5 opened up).use c = if c = 5 then some opened else none := by decide +kernel
  refine ⟨slotUnbound_of (by decide +kernel), fun role q c d u w hu hw _ _ => ?_, by decide +kernel⟩
  rw [h] at hu hw
  split at hu <;> split at hw <;> simp_all

theorem test_witness_LandArmsAFreshRing :
    sLand.SlotReady 1 ∧ (sLand.piu 1).state = .attached ∧
      sLand.EntryNamed (channelArg (sLand.piu 1).slot.arguments) (generationArg (sLand.piu 1).slot.arguments) 5
        { opened with ring := some disarmedRing, queue := [1] } ∧
      disarmedRing.armed = false ∧ ringOk (ringArgs (sLand.piu 1).slot.arguments) = true ∧
      opened.terms.maxLength + 16 ≤ 64 * (ringArgs (sLand.piu 1).slot.arguments).slotUnits := by decide +kernel

theorem test_witness_LandAndConfirmAreRefusedByTheFirstTestThatFails :
    (up.SlotReady 1 ∧ 63 < channelArg ((withArgs 1 [64] up).piu 1).slot.arguments ∧ up.use 5 = none) ∧
    (∀ u ∈ [opened, offeredUse, { opened with stage := .ending }, { opened with stage := .orphaned, consumer := none, ring := none },
        { opened with ring := some disarmedRing }],
      (withArgs 1 ringWords (withUse 5 u up)).EntryNamed (channelArg ((withArgs 1 ringWords (withUse 5 u up)).piu 1).slot.arguments)
        (generationArg ((withArgs 1 ringWords (withUse 5 u up)).piu 1).slot.arguments) 5 u) ∧
    opened.consumedBy 0 = false ∧ opened.consumedBy 1 = true ∧
    ringOk (ringArgs ((withArgs 1 [named, 0, 0, 0, 0, 0x1020, 0x00110004] up).piu 1).slot.arguments) = false ∧
    (let r := ringArgs ((withArgs 1 [named, 0, 0, 0, 0, 0x1000, 0x00100004] up).piu 1).slot.arguments
     ringOk r = true ∧ 64 * r.slotUnits < opened.terms.maxLength + 16) ∧
    (confirmedTerms.cls ≠ .plain ∧ sequenceArg ((withArgs 1 [0x00030005] (sConfirm opened)).piu 1).slot.arguments ≠ (message .unconfirmed).sequence) := by
  decide +kernel

theorem test_witness_ConfirmReleasesTheConfirmedMessages :
    ∀ u ∈ [opened, { opened with stage := .closing }, { opened with stage := .closing, queue := [4] }],
      (sConfirm u).SlotReady 1 ∧ ((sConfirm u).piu 1).state = .attached ∧ channelArg ((sConfirm u).piu 1).slot.arguments = 5 ∧
        (sConfirm u).use 5 = some { u with terms := confirmedTerms, unconfirmed := [] ++ 3 :: [] } ∧ u.consumedBy 1 = true ∧ u.producer = some ⟨0, 0⟩ ∧
        confirmedTerms.cls ≠ .plain ∧ (sConfirm u).record 3 = some (message .unconfirmed) ∧
        (message .unconfirmed).sequence = sequenceArg ((sConfirm u).piu 1).slot.arguments ∧ u.fill = false := by decide +kernel

theorem test_witness_RequeueMovesTheUnconfirmedToTheFront :
    5 ∉ (up.port 1).requeueOwed ∧ 5 ∈ (sOwed.port 1).requeueOwed ∧ sOwed.use 5 = some opened ∧ opened.consumedBy 1 = true ∧
      (sConfirm opened).use 5 = some { opened with terms := confirmedTerms, unconfirmed := [3] } := by decide +kernel

theorem test_witness_PoolChangesReachTheEntries :
    (([] : List RecordId).Nodup ∧ ([3] : List RecordId).Nodup ∧ ((withRecord 3 (message .queued) up).pool.records.read 3).isSome = true) ∧
    (5 ∉ up.holdOwed ∧ 5 ∉ up.retestOwed) ∧
    (5 ∈ sHoldOwed.holdOwed ∧ sHoldOwed.use 5 = some { opened with held := 6 } ∧ opened.terms.releaseMark < 6) ∧
    (5 ∈ sRetestOwed.retestOwed ∧ sRetestOwed.use 5 = some { heldUse with held := 5 } ∧ heldUse.hold ≠ none ∧ 5 ≤ heldUse.terms.releaseMark ∧
      sRetestOwed.pool.level = .normal) ∧
    (5 ∈ sLowAgain.retestOwed ∧ sLowAgain.use 5 = some { heldUse with held := 5 } ∧ sLowAgain.pool.level = .low ∧ 5 ∈ sLowAgain.holdOwed) := by
  decide +kernel

theorem test_witness_HoldTimerExpiryReleasesOrRenews :
    ((withUse 5 heldUse up).use 5 = some heldUse ∧ heldUse.stage = .opened ∧ heldUse.hold = some ⟨.quota, ⟨56, some 56⟩⟩ ∧
      ¬ (heldUse.held < heldUse.terms.holdMark ∧ up.pool.level = .normal) ∧ (9 < heldUse.terms.holdMark ∧ up.pool.level = .normal)) ∧
    (⟨56, some 56⟩ : Timer).RanOut ∧
    (up.use 5 = none ∧ { heldUse with stage := .closing }.stage ≠ .opened ∧ opened.hold = none) ∧ ¬ (⟨56, some 55⟩ : Timer).RanOut :=
  ⟨by decide +kernel, ranOut_of (by decide), by decide +kernel, not_ranOut_of (by decide)⟩

theorem test_witness_EventsAreQueuedAndCountsFireVectors :
    ((sFlush.nu 0).backlog.length < 32 ∧ 32 ≤ (sFull.nu 0).backlog.length ∧
      (((sDelay 64).nu 0).vectors.read 0).timer = some ⟨64, some 64⟩ ∧ (((sDelay 64).nu 0).vectors.read 0).fired = false ∧
      (((sDelay 63).nu 0).vectors.read 0).timer = some ⟨64, some 63⟩) ∧ (⟨64, some 64⟩ : Timer).RanOut ∧ ¬ (⟨64, some 63⟩ : Timer).RanOut :=
  ⟨by decide +kernel, ranOut_of (by decide), not_ranOut_of (by decide)⟩

theorem test_witness_EventReadIndexMakesRoom :
    up.WindowOpen 0 ∧ (State.reset.piu 0).state = .detached ∧ (sFlush.WindowOpen 0 ∧ (sFlush.piu 0).state = .attached ∧
      ((63 : Byte) - (sFlush.piu 0).eventRead).toNat ≤ ((sFlush.nu 0).eventWrite - (sFlush.piu 0).eventRead).toNat ∧
      ¬ ((64 : Byte) - (sFlush.piu 0).eventRead).toNat ≤ ((sFlush.nu 0).eventWrite - (sFlush.piu 0).eventRead).toNat) := by decide +kernel

theorem test_witness_RearmAnswersTheTag :
    (let s := withVector 0 0 (fun c => { c with state := .signalled }) up
     s.WindowOpen 0 ∧ (s.piu 0).state = .attached ∧ (0 : VectorId).val < (s.nu 0).grant.count ∧ ((s.nu 0).vectors.read 0).state ≠ .off ∧
       ((s.nu 0).vectors.read 0).due = false ∧ ¬ (1 : VectorId).val < (s.nu 0).grant.count) ∧ up.WindowOpen 0 := by decide +kernel

theorem test_witness_SetVectorConfiguresTheVector :
    (∀ x ∈ [([0x00010000, 1] , 0, 1), ([0x00FF0100, 65535], 1, 255), ([0x00FF0200, 9, 0x3000, 77], 2, 255)],
      let s := withArgs 0 x.1 up
      let a := vectorArgs (s.piu 0).slot.arguments
      s.SlotReady 0 ∧ (s.piu 0).state = .attached ∧ a.vector = 0 ∧ a.vector < (s.nu 0).grant.count ∧ a.mode = x.2.1 ∧ a.threshold = x.2.2 ∧
        (1 ≤ a.delay ∧ a.delay ≤ 65535) ∧ a.address.toNat % 4 = 0) ∧
    (vectorArgs ((withArgs 0 [0x00FF0201, 9] up).piu 0).slot.arguments).vector = (up.nu 0).grant.count := by decide +kernel

theorem test_witness_FlushJobStartFixesTheFlush :
    ((sFlush.writer 0).state = .idle ∧ (sFlush.piu 0).state = .attached ∧ (∀ v, ((sFlush.nu 0).vectors.read v).due = false) ∧
      (sFlush.nu 0).flushRequest = true) ∧ 1 ≤ (sFlush.nu 0).backlog.length ∧ (sFlush.nu 0).backlog[0]? = some ⟨.hold, 2, 5, 7, 0⟩ ∧
    (((withJob 0 (.flush 1 1 [0]) 0 sFlush).writer 0).state ≠ .idle ∧ ((withPort 0 .quiescing sFlush).piu 0).state ≠ .attached ∧
      (((sSignal .line).nu 0).vectors.read 0).due = true ∧ (up.nu 0).flushRequest = false) := by decide +kernel

theorem test_witness_FlushCompletionServesTheVectors :
    ((withJob 0 (.flush 1 1 [0]) 0 sFlush).writer 0).state = .busy ⟨.flush 1 1 [0], [⟨0x2000, 9⟩], ⟨64, some 0⟩⟩ ∧
      ((withJob 0 (.flush 1 1 [0]) 0 sFlush).piu 0).state = .attached := by decide +kernel

theorem test_witness_SignalJobsGiveTheSignal :
    ((∀ v, ((up.nu 0).vectors.read v).due = false) ∧ ((withJob 0 (.flush 1 1 [0]) 0 (sSignal .line)).writer 0).state ≠ .idle ∧
      ((withPort 0 .quiescing (sSignal .line)).piu 0).state ≠ .attached) ∧
    (∀ s ∈ [sSignal .line, sSignal (.message 0x3000 77)], (s.writer 0).state = .idle ∧ (s.piu 0).state = .attached ∧ ((s.nu 0).vectors.read 0).due = true) ∧
    ((withJob 0 (.signal 0) 0 (sSignal (.message 0x3000 77))).writer 0).state = .busy ⟨.signal 0, [⟨0x2000, 9⟩], ⟨64, some 0⟩⟩ := by decide +kernel

theorem test_witness_AttachGivesAFreshConfiguration :
    (∀ s ∈ [sAttach, withPort 0 .retained sAttach, withPort 0 .faulted sAttach], s.SlotReady 0 ∧
      ((s.piu 0).state = .detached ∨ (s.piu 0).state = .retained ∨ (s.piu 0).state = .faulted) ∧ (s.port 0).flushOwed = [] ∧ (s.port 0).requeueOwed = [] ∧
      ((s.piu 0).slot.arguments.read 0).toNat % 1024 = 0 ∧ bits ((s.piu 0).slot.arguments.read 1) 15 8 ≤ 1 ∧
      grantOf (bits ((s.piu 0).slot.arguments.read 1) 7 0) = some .four) ∧
    ((withPort 1 .retained sOwed).SlotReady 1 ∧ ((withPort 1 .retained sOwed).piu 1).state = .retained ∧
      5 ∈ ((withPort 1 .retained sOwed).port 1).flushOwed ∧ 5 ∈ ((withPort 1 .retained sOwed).port 1).requeueOwed ∧
      (withPort 1 .retained sOwed).use 5 = some opened ∧ opened.isParty 1 = true) ∧
    (∀ u ∈ [opened, offeredUse, { opened with stage := .closing }], 5 ∈ ((sRetainedProducer u).port 0).requeueOwed ∧ (sRetainedProducer u).use 5 = some u ∧
      u.isParty 0 = true) ∧
    (let s := up.modPort 1 fun b => { b with flushOwed := [5] }
     5 ∈ (s.port 1).flushOwed ∧ (s.port 1).requeueOwed = [] ∧ ∀ c, s.use c = none) ∧
    (((withArgs 0 [0x200, 0x104] sAttach).piu 0).slot.arguments.read 0).toNat % 1024 ≠ 0 ∧
    1 < bits (((withArgs 0 [0x400, 0x204] sAttach).piu 0).slot.arguments.read 1) 15 8 ∧
    bits (((withArgs 0 [0x400, 0x103] sAttach).piu 0).slot.arguments.read 1) 7 0 ∉ [1, 2, 4] := by decide +kernel

theorem test_witness_DetachQuiescesThePort :
    (∀ x ∈ [((0 : Word), DetachMode.flush), (1, .retain)], ∀ s ∈ [sDetach x.1, withPort 1 .retained (sDetach x.1), withPort 1 .faulted (sDetach x.1)],
      s.SlotReady 1 ∧ ((s.piu 1).state = .attached ∨ (s.piu 1).state = .retained ∨ (s.piu 1).state = .faulted) ∧ (s.piu 1).faultHanded = false ∧
        detachModeOf (bits ((s.piu 1).slot.arguments.read 0) 7 0) = some x.2 ∧ (s.writer 1).isBusy = false) ∧
    1 < bits (((sDetach 2).piu 1).slot.arguments.read 0) 7 0 ∧
    ((withArgs 1 [1] (sLanding opened)).SlotReady 1 ∧ ((withArgs 1 [1] (sLanding opened)).piu 1).state = .attached ∧
      ((withArgs 1 [1] (sLanding opened)).writer 1).isBusy = true) ∧
    (let s := withArgs 1 [1] (sHanded opened)
     s.SlotReady 1 ∧ (s.piu 1).state = .attached ∧ (s.piu 1).faultHanded = true ∧ (s.writer 1).state = .stopped ∧
       detachModeOf (bits ((s.piu 1).slot.arguments.read 0) 7 0) = some .retain) := by decide +kernel

def sQuiescing (mode : DetachMode) : State := (withPort 0 .quiescing up).modPiu 0 fun u => { u with leaveMode := some mode }
/-- A quiesce whose DETACH waits in the slot. -/
def sQuiesceWaits : State :=
  (sQuiescing .retain).modPiu 0 fun u => { u with slot := { u.slot with busy := true, kind := kindOf .detach, notify := true } }
theorem test_witness_QuiesceEndReachesTheStateOfTheDetach :
    (∀ s ∈ [sQuiescing .flush, sQuiescing .retain, sQuiesceWaits, (sQuiescing .flush).modPiu 0 fun u => { u with state := .faulted }],
      ((s.piu 0).state = .quiescing ∨ (s.piu 0).state = .faulted) ∧ (s.piu 0).leaveMode.isSome = true ∧ (s.piu 0).resetPin = false ∧
        (s.writer 0).isBusy = false) ∧
    ((sQuiesceWaits.piu 0).slot.busy = true ∧ (sQuiesceWaits.piu 0).slot.kind = kindOf .detach ∧ (sQuiesceWaits.piu 0).leaveMode = some .retain) ∧
    (((sQuiescing .flush).modPiu 0 fun u => { u with resetPin := true }).piu 0).resetPin = true ∧
    ((withPort 0 .faulted up).piu 0).leaveMode = none ∧
    (∀ kind ∈ [JobKind.signal 3, .flush 1 1 [0], .landing 5 1 3 2], let s := withJob 0 kind 64 (sQuiescing .flush)
      (s.piu 0).state = .quiescing ∧ (s.writer 0).state = .busy ⟨kind, [⟨0x2000, 9⟩], ⟨64, some 64⟩⟩ ∧ (s.piu 0).faultHanded = false) ∧
    (∀ u ∈ [opened, { opened with stage := .closing }, { opened with stage := .ending }, { opened with stage := .ending, fill := true }],
      let s := (sLanding u).modPiu 1 fun v => { v with state := .quiescing, leaveMode := some .flush }
      (s.piu 1).state = .quiescing ∧ (s.writer 1).state = .busy ⟨.landing 5 1 3 2, [⟨0x2000, 9⟩], ⟨64, some 64⟩⟩ ∧ (s.piu 1).faultHanded = false ∧
        s.record 3 = some (message .landing) ∧ (s.entry 5).generation = (message .landing).generation ∧ s.use 5 = some { u with queue := [3] }) ∧
    (∀ s : State, ∃ t, exec (.linkWriteOk ⟨1, 0⟩) (s.modPiu 1 fun u => { u with state := .attached }) = .next t) ∧
    (⟨64, some 64⟩ : Timer).RanOut :=
  ⟨by decide +kernel, by decide +kernel, by decide +kernel, by decide +kernel, by decide +kernel, by decide +kernel, fun _ => ⟨_, rfl⟩,
    ranOut_of (by decide)⟩

theorem test_witness_RetainArmedFollowsItsCommands :
    (up.SlotReady 0 ∧ (up.piu 0).state = .attached) ∧ ((withPort 0 .retained up).SlotReady 0 ∧ ((withPort 0 .retained up).piu 0).state = .retained) ∧
      ((withPort 0 .faulted up).SlotReady 0 ∧ ((withPort 0 .faulted up).piu 0).state = .faulted) := by decide +kernel

/-- A FLUSH detachment of a port owed to entry 5. -/
def sFlushOwed (p : PortId) (u : Use) : State := (withUse 5 u up).modPort p fun b => { b with flushOwed := [5] }
theorem test_witness_DetachmentReachesTheEntry :
    5 ∉ (up.port 1).flushOwed ∧
    (5 ∈ ((sFlushOwed 2 opened).port 2).flushOwed ∧ (sFlushOwed 2 opened).use 5 = some opened ∧ opened.isParty 2 = false) ∧
    (let s := up.modPort 1 fun b => { b with flushOwed := [5] }
     5 ∈ (s.port 1).flushOwed ∧ s.use 5 = none) ∧
    ∀ x ∈ [((0 : PortId), offeredUse), (1, offeredUse), (1, opened), (0, opened), (0, { opened with queue := [3] }), (1, { opened with stage := .closing }),
        (0, { opened with stage := .closing }), (0, { opened with stage := .ending }), (0, { opened with stage := .orphaned, consumer := none, ring := none })],
      5 ∈ ((sFlushOwed x.1 x.2).port x.1).flushOwed ∧ (sFlushOwed x.1 x.2).use 5 = some x.2 ∧ x.2.isParty x.1 = true := by decide +kernel

theorem test_witness_PortResetClearsThePort :
    (∀ st ∈ [PortState.attached, .quiescing, .faulted, .retained, .detached], let s := up.modPiu 0 fun u => { u with state := st }
      s.resetPin = false ∧ (s.piu 0).resetPin = false ∧ (s.piu 0).state = st ∧ (s.piu 0).copy = none ∧ (s.piu 0).faultHanded = false ∧
        (s.writer 0).isBusy = false) ∧
    (∀ st ∈ [PortState.retained, .detached, .attached, .quiescing],
      (((withPort 0 st up).modPiu 0 fun u => { u with resetPin := true }).piu 0).resetPin = true) ∧
    (∀ u ∈ [opened, { opened with stage := .closing }, { opened with stage := .ending }, { opened with stage := .ending, fill := true }],
      let s := sLanding u
      s.resetPin = false ∧ (s.piu 1).resetPin = false ∧ (s.piu 1).copy = none ∧ (s.piu 1).faultHanded = false ∧
        (s.writer 1).state = .busy ⟨.landing 5 1 3 2, [⟨0x2000, 9⟩], ⟨64, some 64⟩⟩ ∧ s.record 3 = some (message .landing) ∧
        (s.entry (message .landing).channel).generation = (message .landing).generation ∧ s.use (message .landing).channel = some { u with queue := [3] }) ∧
    (let s := withCopy 1 6 (withRecord 6 { message .filling with channel := 9 } (sLanding opened))
     (s.piu 1).copy = some 6 ∧ s.record 6 = some { message .filling with channel := 9 } ∧ (6 : RecordId) ≠ 3 ∧ (9 : ChannelId) ≠ (message .landing).channel ∧
       (s.writer 1).state = .busy ⟨.landing 5 1 3 2, [⟨0x2000, 9⟩], ⟨64, some 64⟩⟩ ∧ s.record 3 = some (message .landing)) ∧
    (∀ s : State, ∃ t0, exec (.portReset 1) (s.modWriter 1 fun w => { w with state := .stopped }) = .next t0) ∧
    ((sHanded opened).resetPin = false ∧ ((sHanded opened).piu 1).resetPin = false ∧ ((sHanded opened).piu 1).state = .attached ∧
      ((sHanded opened).piu 1).faultHanded = true ∧ ((sHanded opened).writer 1).state = .stopped) :=
  ⟨by decide +kernel, by decide +kernel, by decide +kernel, by decide +kernel, fun _ => ⟨_, rfl⟩, by decide +kernel⟩

theorem test_witness_PortResetAbandonsTheCopy :
    (∀ u ∈ [opened, heldUse, { opened with stage := .closing }, { opened with stage := .closing, queue := [4] }, { opened with stage := .ending },
        { opened with stage := .ending, queue := [4] }, { opened with stage := .orphaned, consumer := none, ring := none }], ∀ st ∈ [PortState.attached, .faulted],
      let s := (sCopy u).modPiu 0 fun x => { x with state := st }
      s.resetPin = false ∧ (s.piu 0).resetPin = false ∧ (s.piu 0).faultHanded = false ∧ (s.writer 0).isBusy = false ∧ (s.piu 0).copy = some 3 ∧
        s.record 3 = some (message .filling) ∧ (s.entry 5).generation = (message .filling).generation ∧ s.use 5 = some { u with fill := true }) ∧
    (message .filling).ChainWhole ∧
    (let s := (sCopy opened).setEntry 5 ⟨2, Counters.zero, some opened⟩
     (s.piu 0).copy = some 3 ∧ s.record 3 = some (message .filling) ∧ (s.entry (message .filling).channel).generation ≠ (message .filling).generation) ∧
    (∀ s : State, ∃ t0, exec (.portReset 0) (s.modPiu 0 fun x => { x with copy := none }) = .next t0) :=
  ⟨by decide +kernel, by decide, by decide +kernel, fun _ => ⟨_, rfl⟩⟩

theorem test_witness_QueryAndReadCountersAnswerFromTheEntry :
    (∀ x ∈ [((0x5 : Word), 0), (0x105, 1), (0x205, 2), (0x10005, 0), (0x10105, 1)], ∀ st ∈ [PortState.attached, .retained, .faulted],
      ∀ u ∈ [opened, offeredUse, { opened with stage := .orphaned, consumer := none, ring := none }],
      let s := (withArgs 0 [x.1] (withUse 5 u up)).modPiu 0 fun v => { v with state := st }
      s.SlotReady 0 ∧ (s.piu 0).state = st ∧ channelArg (s.piu 0).slot.arguments = 5 ∧ pageArg (s.piu 0).slot.arguments = x.2 ∧
        s.use 5 = some u ∧ u.isParty 0 = true ∧ u.isParty 2 = false) ∧
    (63 < channelArg ((withArgs 0 [64] up).piu 0).slot.arguments ∧ 2 < pageArg ((withArgs 0 [0x305] up).piu 0).slot.arguments ∧
      up.use 5 = none) := by decide +kernel

end Sys2Proof.Tests
end

/-! # Proofs: DECLINE, and the CLOSE of an offer and of an orphan (O22, O24) -/

namespace Sys2Proof.Machine

/-! ## Which offer, and which entry, a command names -/

/-- A channel number names the channel of that number (11). -/
theorem channelOf_eq_some_iff (n : Nat) (c : ChannelId) : channelOf n = some c ↔ n = c.val := by
  unfold channelOf
  split
  · simp [Fin.ext_iff]
  · have := c.isLt
    simp only [reduceCtorEq, false_iff]
    omega

/-- Test 2 of R37 finds an offer exactly when the channel and the generation name it to this port. -/
theorem offerNamed_eq_some_iff (s : State) (p : PortId) (n : Nat) (g : Byte) (c : ChannelId) (u : Use) (o : Offer) :
    offerNamed s p n g = some (c, u, o) ↔ s.OfferNamed p n g c u o := by
  constructor
  · intro h
    unfold offerNamed at h
    split at h
    · cases h
    · next d hd =>
      split at h
      · cases h
      · next w hw =>
        split at h
        case h_1 o' ho =>
          split at h
          · next hg =>
            cases h
            exact ⟨(channelOf_eq_some_iff n c).mp hd, hw, ho, hg⟩
          · cases h
        all_goals cases h
  · rintro ⟨hc, hu, ho, hg, hp⟩
    simp [offerNamed, (channelOf_eq_some_iff n c).mpr hc, hu, ho, hg, hp]

/-- Where nothing is named, test 2 of R37 finds no offer. -/
theorem offerNamed_eq_none {s : State} {p : PortId} {n : Nat} {g : Byte} (h : ∀ c u o, ¬ s.OfferNamed p n g c u o) :
    offerNamed s p n g = none :=
  Option.eq_none_iff_forall_ne_some.mpr fun ⟨c, u, o⟩ e => h c u o ((offerNamed_eq_some_iff s p n g c u o).mp e)

/-- Tests 2 and 3 of R43 pass for an entry in use that the channel and the generation name. -/
theorem entryNamed_eq_ok {s : State} {n : Nat} {g : Byte} {c : ChannelId} {u : Use} (h : s.EntryNamed n g c u) :
    entryNamed s n g = .ok (c, u) := by
  obtain ⟨hc, hu, hg⟩ := h
  simp [entryNamed, (channelOf_eq_some_iff n c).mpr hc, hu, hg]

/-! ## Commands that are turned away -/

/-- A command that Table 10-2 does not allow in the port state is turned away with BAD_STATE (R162 test 2). -/
theorem exec_badState {i : Instr} {p : PortId} {c : Command} {n : Bool} (h : slotCommand i = some (p, c, n)) {s : State} (hs : s.SlotReady p)
    (ha : admits (s.piu p).state c = false) : ∃ t, exec i s = .next t ∧ s.TurnedAway t p (kindOf c) n .badState := by
  refine ⟨_, ?_, State.TurnedAway.intro s p (kindOf c) n .badState⟩
  rw [exec_slotCommand h]
  simp [State.takeCommand, hs.1.notClosed, hs.2, ha]

/-- A taken command whose body refuses it is turned away (R165). -/
theorem exec_refused {i : Instr} {p : PortId} {c : Command} {n : Bool} (h : slotCommand i = some (p, c, n)) {s : State} (hs : s.SlotReady p)
    (ha : admits (s.piu p).state c = true) {st : Status}
    (hb : commandBody p c (s.modPiu p fun u => u.latch (kindOf c) n) = (s.modPiu p fun u => u.latch (kindOf c) n).refuse p st) :
    ∃ t, exec i s = .next t ∧ s.TurnedAway t p (kindOf c) n st :=
  ⟨_, by rw [exec_taken h hs ha, hb], State.TurnedAway.intro s p (kindOf c) n st⟩

/-! ## Steps that only hand events -/

/-- Between `s` and `t` the events `made` were handed to the Notice Units, and nothing else happened. -/
structure State.OnlyNotified (s t : State) (made : PortId → List Notice) : Prop where
  events : s.EventsMade t made
  words : s.WordsSame t
  entries : ∀ d, t.entry d = s.entry d
  pius : s.PiusSame t
  pool : s.PoolSame t
  device : s.DeviceSame t

/-- A step that does nothing hands no event. -/
theorem State.OnlyNotified.refl (s : State) : s.OnlyNotified s fun _ => [] :=
  ⟨.ofEq fun _ => rfl, fun _ => ⟨rfl, rfl⟩, fun _ => rfl, fun _ => rfl, ⟨rfl, rfl, rfl⟩, rfl, rfl, rfl, rfl, rfl, fun _ => ⟨rfl, rfl, rfl⟩⟩

/-- An event for a party reaches nothing but Notice Units (R126). -/
theorem State.OnlyNotified.tellParty (s : State) (a : Option Party) (kind : EventKind) (qualifier : Byte) (c : ChannelId) (detail : Half) :
    s.OnlyNotified (s.tellParty a kind qualifier c detail) (noticeTo a kind qualifier c detail) where
  events := .tellParty s a kind qualifier c detail
  words := fun _ => by simp
  entries := fun _ => by simp
  pius := fun _ => by simp
  pool := by simp [State.PoolSame]
  device := by simp [State.DeviceSame]

/-- An event for a port without a slot on the channel reaches nothing but Notice Units (R126). -/
theorem State.OnlyNotified.portEvent (s : State) (p : PortId) (kind : EventKind) (c : ChannelId) (detail : Half) :
    s.OnlyNotified (s.portEvent p kind c detail) (noticeToPort p kind c detail) where
  events := .portEvent s p kind c detail
  words := fun _ => by simp
  entries := fun _ => by simp
  pius := fun _ => by simp
  pool := by simp [State.PoolSame]
  device := by simp [State.DeviceSame]

/-! ## An entry that becomes FREE -/

/-- What freeing an entry in use leaves of the Channel Table: its generation (R20). -/
theorem State.freeEntry_entry {s : State} {c : ChannelId} {u : Use} (hu : s.use c = some u) (d : ChannelId) :
    (s.freeEntry c).entry d = if d = c then ⟨(s.entry c).generation, Counters.zero, none⟩ else s.entry d := by
  simp [State.freeEntry, hu]

/-- Freeing an entry in use releases its consumer slot (R25). -/
theorem State.freeEntry_consumerWords {s : State} {c : ChannelId} {u : Use} (hu : s.use c = some u) (q : PortId) (i : SlotId) :
    ((s.freeEntry c).nu q).consumerWords.read i =
      if u.consumer = some ⟨q, i⟩ then { (s.nu q).consumerWords.read i with bound := false } else (s.nu q).consumerWords.read i := by
  simp [State.freeEntry, hu]

/-- Freeing an entry in use releases its producer slot (R25). -/
theorem State.freeEntry_producerWords {s : State} {c : ChannelId} {u : Use} (hu : s.use c = some u) (q : PortId) (i : SlotId) :
    ((s.freeEntry c).nu q).producerWords.read i =
      if u.producer = some ⟨q, i⟩ then { (s.nu q).producerWords.read i with bound := false } else (s.nu q).producerWords.read i := by
  simp [State.freeEntry, hu]

/-- Freeing an entry in use is what the statements call its becoming FREE (R20, R25). -/
theorem State.BecameFree.freeEntry {s : State} {c : ChannelId} {u : Use} (hu : s.use c = some u) : s.BecameFree (s.freeEntry c) c u :=
  ⟨by simp [State.freeEntry_entry hu], fun d hd => by simp [State.freeEntry_entry hu, hd], State.freeEntry_consumerWords hu,
    State.freeEntry_producerWords hu⟩

/-- An entry's becoming FREE does not see changes before it and after it that reach neither entries nor slot words. -/
theorem State.BecameFree.congr {s r r' t : State} {c : ChannelId} {u : Use} (h : r.BecameFree r' c u) (he : ∀ d, r.entry d = s.entry d)
    (hw : s.WordsSame r) (he' : ∀ d, t.entry d = r'.entry d) (hw' : r'.WordsSame t) : s.BecameFree t c u := by
  obtain ⟨hfree, hothers, hconsumer, hproducer⟩ := h
  refine ⟨?_, fun d hd => ?_, fun q i => ?_, fun q i => ?_⟩
  · rw [he', hfree, he]
  · rw [he', hothers d hd, he]
  · rw [(hw' q).1, hconsumer q i, (hw q).1]
  · rw [(hw' q).2, hproducer q i, (hw q).2]

/-- A command that hands the events `ns`, frees entry `c` and completes with DONE: how DECLINE and the CLOSE of an offer or of an orphan end
(R40, R41, R53). -/
theorem State.freed_and_answered {s r : State} {p : PortId} {k : Byte} {n : Bool} {c : ChannelId} {u : Use} {ns : PortId → List Notice}
    (hk : k ≠ kindOf .post) (hr : (s.modPiu p fun x => x.latch k n).OnlyNotified r ns) (hu : s.use c = some u) (results : Table Word 4) :
    s.BecameFree ((r.freeEntry c).complete p .done results) c u ∧
      s.Answered ((r.freeEntry c).complete p .done results) p k n .done results ∧
      s.EventsMade ((r.freeEntry c).complete p .done results) (fun q => ns q ++ noticeDone p n k .done q) ∧
      s.PoolSame ((r.freeEntry c).complete p .done results) ∧ s.DeviceSame ((r.freeEntry c).complete p .done results) := by
  have hlatch : s.EventsMade (s.modPiu p fun x => x.latch k n) fun _ => [] := .ofEq fun q => by simp
  have hpiu : ∀ q, (r.freeEntry c).piu q = if q = p then (s.piu p).latch k n else s.piu q := fun q => by simp [hr.pius q]
  have hstate : ∀ q, ((r.freeEntry c).piu q).state = (s.piu q).state := fun q => by
    rw [State.freeEntry_piu, hr.pius q, State.latch_state]
  have hru : r.use c = some u := by rw [← State.entry_use, hr.entries]; exact hu
  refine ⟨?_, ⟨?_, fun q hq => ?_⟩, ?_, ?_, ?_⟩
  · exact (State.BecameFree.freeEntry hru).congr hr.entries (fun q => by simpa using hr.words q) (fun d => by simp) fun q => by simp
  · simp [hpiu, Piu.latch, CommandSlot.answered, hk]
  · simp [hpiu, hq]
  · have hfreed : s.EventsMade (r.freeEntry c) ns :=
      (hlatch.afterNone hr.events fun q => State.latch_state s p q k n).thenNone (.freeEntry r c) fun q => by
        rw [hr.pius q, State.latch_state]
    exact hfreed.completeAfter hstate (by simp [hpiu]) (by simp [hpiu]) _ _
  · simpa [State.PoolSame] using hr.pool
  · simpa [State.DeviceSame] using hr.device

/-- A command whose body hands the events `ns`, frees entry `c` and completes with DONE: the entry became FREE, the port was answered, and nothing else
changed (R162, R165). -/
theorem exec_frees {i : Instr} {p : PortId} {cmd : Command} {n : Bool} (h : slotCommand i = some (p, cmd, n)) {s r : State} (hs : s.SlotReady p)
    (ha : admits (s.piu p).state cmd = true) (hk : kindOf cmd ≠ kindOf .post) {c : ChannelId} {u : Use} (hu : s.use c = some u)
    {ns : PortId → List Notice} (hr : (s.modPiu p fun x => x.latch (kindOf cmd) n).OnlyNotified r ns) {results : Table Word 4}
    (hb : commandBody p cmd (s.modPiu p fun x => x.latch (kindOf cmd) n) = (r.freeEntry c).complete p .done results) :
    ∃ t, exec i s = .next t ∧ s.BecameFree t c u ∧ s.Answered t p (kindOf cmd) n .done results ∧
      s.EventsMade t (fun q => ns q ++ noticeDone p n (kindOf cmd) .done q) ∧ s.PoolSame t ∧ s.DeviceSame t :=
  ⟨_, by rw [exec_taken h hs ha, hb], State.freed_and_answered hk hr hu results⟩

/-! ## DECLINE -/

/-- An OFFERED entry binds the slot of its producer, or else that of its consumer (R24). -/
theorem Use.offerorParty_eq (u : Use) : u.offerorParty = (u.producer <|> u.consumer) := by
  unfold Use.offerorParty
  cases u.producer <;> rfl

/-- DECLINE of no offer to the port is refused with LATE (R40). -/
theorem declineBody_late {s : State} {p : PortId} {w : Table Word 8} (hw : s.args p = w)
    (h : ∀ c u o, ¬ s.OfferNamed p (channelArg w) (generationArg w) c u o) :
    declineBody p s = s.refuse p .late := by
  simp [declineBody, hw, offerNamed_eq_none h]

/-- DECLINE of an offer tells the offeror, frees the entry and completes with DONE (R40). -/
theorem declineBody_offer {s : State} {p : PortId} {w : Table Word 8} {c : ChannelId} {u : Use} {o : Offer} (hw : s.args p = w)
    (h : s.OfferNamed p (channelArg w) (generationArg w) c u o) :
    declineBody p s =
      ((s.tellParty (u.producer <|> u.consumer) .offerDeclined 0 c (generationDetail (s.entry c).generation)).freeEntry c).complete p .done
        (resultWords 0 0 0 0) := by
  have ⟨_, hu, _⟩ := h
  simp only [declineBody, hw, (offerNamed_eq_some_iff ..).mpr h, State.declineOffer, hu, Use.offerorParty_eq]
  rfl

/-- Settles O22: by the port state, and by whether an offer to the port is named. -/
theorem declineFreesTheEntry : Obligations.DeclineFreesTheEntry := by
  intro p n s w hs
  have hcmd : slotCommand (.decline p n) = some (p, .decline, n) := rfl
  refine ⟨fun hstate => ?_, fun hstate hnone => ?_, fun c u o hstate hnamed => ?_⟩
  · refine exec_badState hcmd hs ?_
    cases h : (s.piu p).state
    case attached => exact absurd h hstate
    all_goals rfl
  · exact exec_refused hcmd hs (by rw [hstate]; rfl) (declineBody_late (State.args_latch ..) hnone)
  · have ⟨_, hu, _⟩ := hnamed
    exact exec_frees hcmd hs (by rw [hstate]; rfl) (by decide) hu (.tellParty _ _ _ _ _ _) (declineBody_offer (State.args_latch ..) hnamed)

/-! ## CLOSE of an offer and of an orphan -/

/-- CLOSE by a party of the entry that it names is decided by state and role (R43). -/
theorem closeBody_party {s : State} {p : PortId} {w : Table Word 8} {c : ChannelId} {u : Use} (hw : s.args p = w)
    (h : s.EntryNamed (channelArg w) (generationArg w) c u) (hp : u.isParty p = true) :
    closeBody p s = closeByParty s p c u := by
  simp [closeBody, hw, entryNamed_eq_ok h, hp]

/-- CLOSE of an offer by a port that is not its offeror is refused with BAD_CHANNEL, whether or not the port is the peer (R41, R43). -/
theorem closeBody_notOfferor {s : State} {p : PortId} {w : Table Word 8} {c : ChannelId} {u : Use} {o : Offer} (hw : s.args p = w)
    (h : s.EntryNamed (channelArg w) (generationArg w) c u) (hstage : u.stage = .offered o) (ho : o.offeror ≠ p) :
    closeBody p s = s.refuse p .badChannel := by
  simp [closeBody, hw, entryNamed_eq_ok h, closeByParty, hstage, ho]

/-- The response to a CLOSE that freed the entry carries FREE (R43). -/
theorem State.finishClose_freed {s : State} {c : ChannelId} {u : Use} (hu : s.use c = some u) (p : PortId) :
    (s.freeEntry c).finishClose p c = (s.freeEntry c).complete p .done (resultWords 0 0 0 0) := by
  have hfree : (s.freeEntry c).use c = none := by rw [← State.entry_use, State.freeEntry_entry hu, if_pos rfl]
  rw [State.finishClose, hfree]
  rfl

/-- CLOSE by the offeror tells the peer, frees the entry and completes with DONE and FREE (R41). -/
theorem closeByParty_offeror {s : State} {c : ChannelId} {u : Use} {o : Offer} (hu : s.use c = some u) (hstage : u.stage = .offered o) :
    closeByParty s o.offeror c u =
      ((s.portEvent o.peer .offerWithdrawn c (generationDetail (s.entry c).generation)).freeEntry c).complete o.offeror .done
        (resultWords 0 0 0 0) := by
  simp only [closeByParty, hstage, if_true, State.withdrawOffer]
  exact State.finishClose_freed (by simpa using hu) _

/-- CLOSE by the party of an orphan frees the entry and completes with DONE and FREE (R53). -/
theorem closeByParty_orphan {s : State} {p : PortId} {c : ChannelId} {u : Use} (hu : s.use c = some u) (hstage : u.stage = .orphaned) :
    closeByParty s p c u = (s.freeEntry c).complete p .done (resultWords 0 0 0 0) := by
  simp only [closeByParty, hstage]
  exact State.finishClose_freed hu p

/-- Settles O24: by the stage of the entry, and by whether the port is the offeror. -/
theorem closeOfAnOfferOrAnOrphanFreesTheEntry : Obligations.CloseOfAnOfferOrAnOrphanFreesTheEntry := by
  intro p n s c u w hs hstate hnamed
  have hcmd : slotCommand (.close p n) = some (p, .close, n) := rfl
  have hadmits : admits (s.piu p).state .close = true := by rw [hstate]; rfl
  have ⟨_, hu, _⟩ := hnamed
  have hargs : (s.modPiu p fun x => x.latch (kindOf .close) n).args p = w := State.args_latch ..
  refine ⟨fun o hstage ho => ?_, fun o hstage ho => ?_, fun hstage hparty => ?_⟩
  · subst ho
    have hparty : u.isParty o.offeror = true := by simp [Use.isParty, hstage]
    exact exec_frees hcmd hs hadmits (by decide) hu (.portEvent _ _ _ _ _)
      ((closeBody_party hargs hnamed hparty).trans (closeByParty_offeror hu hstage))
  · exact exec_refused hcmd hs hadmits (closeBody_notOfferor hargs hnamed hstage ho)
  · exact exec_frees hcmd hs hadmits (by decide) hu (.refl _) ((closeBody_party hargs hnamed hparty).trans (closeByParty_orphan hu hstage))

end Sys2Proof.Machine

/-! # Proofs: laws of the pool, of the memories and of the Notice Units that every step keeps (O6, O7, O8)

One relation between the states before and after an operation carries the three laws, each as an implication of its own; each operation of the model is
shown to keep them from the operations that it is made of. -/

namespace Sys2Proof.Machine

/-- What the laws of O6, O7 and O8 say of `s` they say of `t`: the pool, the segment store, the compose buffers and the Notice Units. -/
structure State.Keeps (s t : State) : Prop where
  pool : s.pool.Lawful → t.pool.Lawful
  segments : Memory.wf s.pool.segments → Memory.wf t.pool.segments
  compose : ∀ p, Memory.wf (s.piu p).compose → Memory.wf (t.piu p).compose
  notice : ∀ p, (s.port p).NoticeLawful → (t.port p).NoticeLawful

theorem State.Keeps.refl (s : State) : s.Keeps s := ⟨id, id, fun _ => id, fun _ => id⟩

theorem State.Keeps.trans {s t u : State} (h : s.Keeps t) (k : t.Keeps u) : s.Keeps u :=
  ⟨k.pool ∘ h.pool, k.segments ∘ h.segments, fun p => k.compose p ∘ h.compose p, fun p => k.notice p ∘ h.notice p⟩

/-! ## The laws of a Notice Unit -/

/-- A Notice Unit whose PnIRQ and whose vectors' states, targets and due marks stay keeps its laws, when its backlog and its pending counts stay within
bounds. -/
theorem Port.NoticeLawful.signalsSame {b b' : Port} (h : b.NoticeLawful) (hstate : b'.piu.state = b.piu.state)
    (hbacklog : b'.nu.backlog.length ≤ Config.backlogDepth) (hirq : b'.nu.irq = b.nu.irq)
    (hv : ∀ v, (b'.nu.vectors.read v).state = (b.nu.vectors.read v).state ∧ (b'.nu.vectors.read v).target = (b.nu.vectors.read v).target ∧
      (b'.nu.vectors.read v).due = (b.nu.vectors.read v).due ∧ (b'.nu.vectors.read v).pending ≤ Config.pendingMax) :
    b'.NoticeLawful where
  backlog := hbacklog
  pending v := (hv v).2.2.2
  due v := by rw [(hv v).1, (hv v).2.2.1]; exact h.due v
  line v := by rw [(hv v).2.1]; exact h.line v
  irq := by rw [hirq, hstate, (hv 0).1, (hv 0).2.1]; exact h.irq

/-- With PnIRQ deasserted the laws speak of the backlog and of the vectors alone. -/
theorem Port.NoticeLawful.quiet {b : Port} (hirq : b.nu.irq = false) (hbacklog : b.nu.backlog.length ≤ Config.backlogDepth)
    (hpending : ∀ v, (b.nu.vectors.read v).pending ≤ Config.pendingMax)
    (hdue : ∀ v, (b.nu.vectors.read v).due = true → (b.nu.vectors.read v).state = .signalled)
    (hline : ∀ v, v ≠ 0 → (b.nu.vectors.read v).target ≠ .line) : b.NoticeLawful :=
  ⟨hbacklog, hpending, hdue, hline, fun h => by simp [hirq] at h⟩

/-- Off ATTACHED PnIRQ is deasserted (R139). -/
theorem Port.NoticeLawful.irq_deasserted {b : Port} (h : b.NoticeLawful) (hb : b.piu.state ≠ .attached) : b.nu.irq = false := by
  by_contra hirq
  exact hb (h.irq (by simpa using hirq)).1

/-- A PIU change that leaves the port state is not seen by the laws of the Notice Unit. -/
theorem Port.NoticeLawful.congr {b b' : Port} (h : b.NoticeLawful) (hstate : b'.piu.state = b.piu.state) (hnu : b'.nu = b.nu) : b'.NoticeLawful :=
  h.signalsSame hstate (hnu ▸ h.backlog) (by rw [hnu]) fun v => by rw [hnu]; exact ⟨rfl, rfl, rfl, h.pending v⟩

/-- The Notice Unit of a port replaced. -/
def Port.withNu (b : Port) (nu : Nu) : Port := { b with nu := nu }

/-- A firing keeps the laws (R134). -/
theorem Port.NoticeLawful.fire {b : Port} (h : b.NoticeLawful) (v : VectorId) : (b.withNu (b.nu.fire v)).NoticeLawful := by
  refine h.signalsSame rfl h.backlog rfl fun w => ?_
  rw [Port.withNu, Nu.fire_vector]
  split
  · next hw => subst hw; exact ⟨rfl, rfl, rfl, h.pending w⟩
  · exact ⟨rfl, rfl, rfl, h.pending w⟩

/-- A firing that is due, or nothing, keeps the laws (R133). -/
theorem Port.NoticeLawful.fireIfDue {b : Port} (h : b.NoticeLawful) (v : VectorId) : (b.withNu (b.nu.fireIfDue v)).NoticeLawful :=
  Nu.fireIfDue_cases b.nu v (P := fun nu => (b.withNu nu).NoticeLawful) h (h.fire v)

/-- A count keeps the laws: the pending count saturates at 65535 (R133). -/
theorem Port.NoticeLawful.count {b : Port} (h : b.NoticeLawful) (v : VectorId) : (b.withNu (b.nu.count v)).NoticeLawful := by
  have raised : (b.withNu (b.nu.modVector v Coalescer.raise)).NoticeLawful := by
    refine h.signalsSame rfl h.backlog rfl fun w => ?_
    rw [Port.withNu, Nu.modVector_vector]
    split
    · next hw => subst hw; exact ⟨rfl, rfl, rfl, Nat.min_le_right _ _⟩
    · exact ⟨rfl, rfl, rfl, h.pending w⟩
  exact raised.fireIfDue v

/-- An event keeps the laws: with 32 events waiting it is dropped (R127, R128). -/
theorem Port.NoticeLawful.take {b : Port} (h : b.NoticeLawful) (kind : EventKind) (qualifier channel : Byte) (detail : Half) :
    (b.withNu (b.nu.take kind qualifier channel detail)).NoticeLawful := by
  refine h.signalsSame rfl ?_ (Nu.take_irq ..) fun v => ?_
  · rw [Port.withNu, Nu.take_backlog]
    split
    · rw [List.length_append, List.length_singleton]
      omega
    · exact h.backlog
  · rw [Port.withNu, Nu.take_vectors]
    exact ⟨rfl, rfl, rfl, h.pending v⟩

/-- A handing to the slot words keeps the laws (R131). -/
theorem Port.NoticeLawful.words {b : Port} (h : b.NoticeLawful) (consumers : Table ConsumerWord 16) (producers : Table ProducerWord 16) :
    (b.withNu { b.nu with consumerWords := consumers, producerWords := producers }).NoticeLawful :=
  h.signalsSame rfl h.backlog rfl fun v => ⟨rfl, rfl, rfl, h.pending v⟩

/-- The start of a flush keeps the laws: pending counts only fall to 0 (R135). -/
theorem Port.NoticeLawful.startFlush {b : Port} (h : b.NoticeLawful) : (b.withNu b.nu.startFlush).NoticeLawful := by
  refine h.signalsSame rfl h.backlog rfl fun v => ?_
  simp only [Port.withNu, Nu.startFlush, Nu.mapVectors, Table.read_build]
  split
  · exact ⟨rfl, rfl, rfl, Nat.zero_le _⟩
  · exact ⟨rfl, rfl, rfl, h.pending v⟩

/-- A vector that a flush served is lawful, and SIGNALLED if it was (R136). -/
theorem Coalescer.served_lawful {c : Coalescer} (hdue : c.due = true → c.state = .signalled) :
    (c.served.due = true → c.served.state = .signalled) ∧ (c.state = .signalled → c.served.state = .signalled) ∧ c.served.pending = c.pending ∧
      c.served.target = c.target := by
  unfold Coalescer.served
  cases hs : c.state with
  | off => simpa [hs] using hdue
  | armed => simp
  | signalled => simp

/-- A completed flush keeps the laws (R136). -/
theorem Port.NoticeLawful.completeFlush {b : Port} (h : b.NoticeLawful) (n : Nat) (tag : Byte) (vs : List VectorId) :
    (b.withNu (b.nu.completeFlush n tag vs)).NoticeLawful := by
  have hread : ∀ v, (b.nu.completeFlush n tag vs).vectors.read v = if vs.contains v then (b.nu.vectors.read v).served else b.nu.vectors.read v :=
    fun v => by simp [Nu.completeFlush]
  have hserved := fun v => Coalescer.served_lawful (h.due v)
  refine ⟨?_, fun v => ?_, fun v => ?_, fun v => ?_, fun hirq => ?_⟩
  · simpa [Port.withNu, Nu.completeFlush] using (Nat.sub_le _ n).trans h.backlog
  · simp only [Port.withNu, hread]
    split
    · rw [(hserved v).2.2.1]; exact h.pending v
    · exact h.pending v
  · simp only [Port.withNu, hread]
    split
    · exact (hserved v).1
    · exact h.due v
  · simp only [Port.withNu, hread]
    split
    · rw [(hserved v).2.2.2]; exact h.line v
    · exact h.line v
  · obtain ⟨hstate, hsignalled, htarget⟩ := h.irq hirq
    refine ⟨hstate, ?_⟩
    simp only [Port.withNu, hread]
    split
    · exact ⟨(hserved 0).2.1 hsignalled, (hserved 0).2.2.2.trans htarget⟩
    · exact ⟨hsignalled, htarget⟩

/-- A change of one vector that keeps its target and leaves it SIGNALLED if it was, or PnIRQ deasserted, keeps the laws. -/
theorem Port.NoticeLawful.modVector {b : Port} (h : b.NoticeLawful) (v : VectorId) {f : Coalescer → Coalescer} {irq : Bool}
    (hpending : (f (b.nu.vectors.read v)).pending = (b.nu.vectors.read v).pending)
    (hdue : (f (b.nu.vectors.read v)).due = true → (f (b.nu.vectors.read v)).state = .signalled)
    (hline : v ≠ 0 → (f (b.nu.vectors.read v)).target ≠ .line)
    (hirq : irq = true → b.piu.state = .attached ∧ ((b.nu.modVector v f).vectors.read 0).state = .signalled ∧
      ((b.nu.modVector v f).vectors.read 0).target = .line) :
    (b.withNu { b.nu.modVector v f with irq := irq }).NoticeLawful := by
  have hread : ∀ w, ({ b.nu.modVector v f with irq := irq } : Nu).vectors.read w = if w = v then f (b.nu.vectors.read v) else b.nu.vectors.read w :=
    Nu.modVector_vector b.nu v f
  refine ⟨h.backlog, fun w => ?_, fun w => ?_, fun w => ?_, hirq⟩
  · simp only [Port.withNu, hread]
    split
    · rw [hpending]; exact h.pending v
    · exact h.pending w
  · simp only [Port.withNu, hread]
    split
    · exact hdue
    · exact h.due w
  · simp only [Port.withNu, hread]
    split
    · next hw => subst hw; exact hline
    · exact h.line w

/-- PnIRQ as it is obeys its law after a change of a vector that keeps state and target of vector 0, or is a change of another one. -/
theorem Port.NoticeLawful.irq_modVector {b : Port} (h : b.NoticeLawful) (v : VectorId) {f : Coalescer → Coalescer}
    (hf : v = 0 → b.nu.irq = true → (f (b.nu.vectors.read 0)).state = .signalled ∧ (f (b.nu.vectors.read 0)).target = .line)
    (hirq : b.nu.irq = true) : b.piu.state = .attached ∧ ((b.nu.modVector v f).vectors.read 0).state = .signalled ∧
      ((b.nu.modVector v f).vectors.read 0).target = .line := by
  obtain ⟨hstate, hsignalled, htarget⟩ := h.irq hirq
  refine ⟨hstate, ?_⟩
  rw [Nu.modVector_vector]
  split
  · next hv => subst hv; exact hf rfl hirq
  · exact ⟨hsignalled, htarget⟩

/-- A completed signal keeps the laws (R138). -/
theorem Port.NoticeLawful.completeSignal {b : Port} (h : b.NoticeLawful) (v : VectorId) : (b.withNu (b.nu.completeSignal v)).NoticeLawful :=
  h.modVector v (f := fun c => { c with due := false }) (irq := b.nu.irq) rfl (fun hdue => by simp at hdue) (fun hv => h.line v hv)
    (h.irq_modVector v fun _ hirq => (h.irq hirq).2)

/-- A LINE signal for a due vector of an ATTACHED port keeps the laws: LINE is vector 0's, and a due vector is SIGNALLED (R138, R139). -/
theorem Port.NoticeLawful.lineSignal {b : Port} (h : b.NoticeLawful) {v : VectorId} (hattached : b.piu.state = .attached)
    (hdue : (b.nu.vectors.read v).due = true) (hline : (b.nu.vectors.read v).target = .line) :
    (b.withNu { b.nu.completeSignal v with irq := true }).NoticeLawful := by
  have hv : v = 0 := by
    by_contra hv
    exact h.line v hv hline
  subst hv
  refine h.modVector 0 rfl (fun hdue => by simp at hdue) (fun h0 => absurd rfl h0) fun _ => ⟨hattached, ?_⟩
  rw [Nu.modVector_vector, if_pos rfl]
  exact ⟨h.due 0 hdue, hline⟩

/-- A re-arm of a vector that has no signal due keeps the laws: in LINE mode it deasserts PnIRQ (R140). -/
theorem Port.NoticeLawful.rearm {b : Port} (h : b.NoticeLawful) (v : VectorId) (tag : Byte) (hdue : (b.nu.vectors.read v).due = false) :
    (b.withNu (b.nu.rearm v tag)).NoticeLawful := by
  have hirq : ∀ f : Coalescer → Coalescer, (if v = 0 ∧ (b.nu.vectors.read v).target = .line then false else b.nu.irq) = true →
      b.piu.state = .attached ∧ ((b.nu.modVector v f).vectors.read 0).state = .signalled ∧ ((b.nu.modVector v f).vectors.read 0).target = .line := by
    intro f hirq
    split at hirq
    · cases hirq
    · next hn => exact h.irq_modVector v (fun hv hirq => absurd ⟨hv, hv ▸ (h.irq hirq).2.2⟩ hn) hirq
  have rearmed : b.nu.rearm v tag =
      { b.nu.modVector v (fun c => if tag = b.nu.tag ∧ (b.nu.vectors.read v).owed = false then { c with state := .armed }
          else { c with state := .signalled, due := true, owed := false }) with
        irq := if v = 0 ∧ (b.nu.vectors.read v).target = .line then false else b.nu.irq } := by
    unfold Nu.rearm Nu.modVector
    dsimp only
    split <;> split <;> simp_all
  rw [rearmed]
  refine h.modVector v ?_ ?_ ?_ (hirq _)
  · split <;> rfl
  · split <;> simp [hdue]
  · intro hv
    split <;> exact h.line v hv

/-- SET_VECTOR with arguments in range keeps the laws: LINE is given to vector 0 alone, and PnIRQ follows vector 0 (R141). -/
theorem Port.NoticeLawful.setVector {b : Port} (h : b.NoticeLawful) {a : VectorArgs} (ha : a.inRange b.nu.grant = true) :
    (b.withNu (b.nu.setVector a)).NoticeLawful := by
  have hmode : a.mode = 1 → a.vector = 0 := by
    simp only [VectorArgs.inRange, Bool.and_eq_true, Bool.or_eq_true, decide_eq_true_eq] at ha
    intro h1
    exact ha.1.1.1.2.resolve_left (by simp [h1])
  set v : VectorId := Fin.ofNat 4 a.vector with hv
  have hpending : ∀ c : Coalescer, (c.set a).pending = c.pending := fun _ => rfl
  have hdue : ∀ c : Coalescer, (c.set a).due = true → (c.set a).state = .signalled := by
    intro c
    simp only [Coalescer.set]
    split
    · simp
    · intro hc
      simp [hc]
  have hline : v ≠ 0 → ((b.nu.vectors.read v).set a).target ≠ .line := by
    intro hv0
    have h1 : a.mode ≠ 1 := fun h1 => hv0 (by rw [hv, hmode h1]; rfl)
    simp only [Coalescer.set, h1, if_false]
    split
    · simp
    · exact h.line v hv0
  have configured : (b.withNu (if v = 0 then (b.nu.modVector v fun c => c.set a).settleLine else b.nu.modVector v fun c => c.set a)).NoticeLawful := by
    split
    · refine h.modVector v (hpending _) (hdue _) hline fun hirq => ?_
      simp only [Bool.and_eq_true, decide_eq_true_eq] at hirq
      exact ⟨(h.irq hirq.1).1, hirq.2⟩
    · next hv0 => exact h.modVector v (f := fun c => c.set a) (irq := b.nu.irq) (hpending _) (hdue _) hline (h.irq_modVector v fun h0 => absurd h0 hv0)
  exact configured.fireIfDue v

/-- Leaving ATTACHED keeps the laws: PnIRQ is deasserted and no signal is due (R142). -/
theorem Port.NoticeLawful.depart {b : Port} (h : b.NoticeLawful) {u : Piu} {w : Writer} : ({ b with piu := u, nu := b.nu.depart, writer := w } : Port).NoticeLawful :=
  .quiet rfl h.backlog (fun v => by simpa [Nu.depart, Nu.mapVectors] using h.pending v) (fun v hdue => by simp [Nu.depart, Nu.mapVectors] at hdue)
    fun v hv => by simpa [Nu.depart, Nu.mapVectors] using h.line v hv

/-- With every vector OFF the laws hold of a port whose PnIRQ is deasserted (R148, R157). -/
theorem Port.NoticeLawful.vectorsOff {b : Port} (h : b.NoticeLawful) (hirq : b.nu.irq = false) : (b.withNu b.nu.vectorsOff).NoticeLawful :=
  .quiet hirq h.backlog (fun v => by simp [Port.withNu, Nu.vectorsOff, Nu.mapVectors]) (fun v hdue => by simp [Port.withNu, Nu.vectorsOff, Nu.mapVectors] at hdue)
    fun v hv => by simpa [Port.withNu, Nu.vectorsOff, Nu.mapVectors] using h.line v hv

/-- The end of the quiesce on a port that is not ATTACHED keeps the laws (R148). -/
theorem Port.NoticeLawful.leave {b : Port} (h : b.NoticeLawful) (hb : b.piu.state ≠ .attached) (mode : DetachMode) :
    ({ b with piu := b.piu.leave mode, nu := b.nu.leave mode } : Port).NoticeLawful := by
  have off := h.vectorsOff (h.irq_deasserted hb)
  have hirq := h.irq_deasserted hb
  cases mode with
  | flush => exact .quiet hirq (Nat.zero_le _) off.pending off.due off.line
  | retain => exact .quiet hirq off.backlog off.pending off.due off.line

/-- ATTACH of a port that is not ATTACHED gives lawful vectors: LINE is vector 0's, and no signal is due (R142). -/
theorem Port.NoticeLawful.attach {b : Port} (h : b.NoticeLawful) (hb : b.piu.state ≠ .attached) (base : Word) (g : Grant) (line : Bool) {u : Piu}
    {w : Writer} {fs rs : List ChannelId} : (⟨u, w, b.nu.attach base g line, fs, rs⟩ : Port).NoticeLawful := by
  have hread : ∀ v, (b.nu.attach base g line).vectors.read v =
      { Coalescer.fresh (line && v.val == 0) with timer := none, fired := v == 0 } := by
    intro v
    rw [Nu.attach, Nu.fire_vector]
    simp only [Table.read_build]
    by_cases hv : v = 0 <;> simp [hv, Coalescer.fresh]
  refine .quiet (h.irq_deasserted hb) h.backlog (fun v => ?_) (fun v => ?_) fun v hv => ?_
  · rw [hread]; exact Nat.zero_le _
  · rw [hread]; simp [Coalescer.fresh]
  · have hv' : v.val ≠ 0 := fun e => hv (Fin.ext e)
    rw [hread]
    simp [Coalescer.fresh, hv']

end Sys2Proof.Machine

namespace Sys2Proof.Machine

/-! ## The operations of the state -/

section keeps

variable {s t : State}

/-- An operation that leaves the ports keeps the laws when what it does to the pool keeps them. -/
theorem State.Keeps.changePool (h : s.Keeps t) {r : State} (hports : r.ports = t.ports) (hpool : t.pool.Lawful → r.pool.Lawful)
    (hsegments : Memory.wf t.pool.segments → Memory.wf r.pool.segments) : s.Keeps r :=
  h.trans ⟨hpool, hsegments, fun p => by rw [State.piu, State.piu, State.port_congr hports]; exact id, fun p => by rw [State.port_congr hports]; exact id⟩

/-- An operation that leaves the ports and the pool keeps the laws. -/
theorem State.Keeps.others (h : s.Keeps t) {r : State} (hports : r.ports = t.ports) (hpool : r.pool = t.pool) : s.Keeps r :=
  h.changePool hports (hpool ▸ id) (hpool ▸ id)

/-- An operation on the blocks of one port keeps the laws when what it does to the buffer and to the Notice Unit keeps them. -/
theorem State.Keeps.modPort (h : s.Keeps t) {p : PortId} {f : Port → Port}
    (hcompose : Memory.wf (t.port p).piu.compose → Memory.wf (f (t.port p)).piu.compose)
    (hnotice : (t.port p).NoticeLawful → (f (t.port p)).NoticeLawful) : s.Keeps (t.modPort p f) := by
  refine h.trans ⟨id, id, fun q => ?_, fun q => ?_⟩
  · rw [State.piu, State.piu, State.modPort_port]
    split
    · next hq => subst hq; exact hcompose
    · exact id
  · rw [State.modPort_port]
    split
    · next hq => subst hq; exact hnotice
    · exact id

/-- A change of a Port Interface Unit that leaves port state and buffer keeps the laws. -/
theorem State.Keeps.modPiu (h : s.Keeps t) {p : PortId} {f : Piu → Piu} (hstate : (f (t.piu p)).state = (t.piu p).state)
    (hcompose : (f (t.piu p)).compose = (t.piu p).compose) : s.Keeps (t.modPiu p f) :=
  h.modPort (fun hwf => by rwa [← State.port_piu, hcompose] at *) fun hn => hn.congr hstate rfl

/-- A change of a Port Writer keeps the laws. -/
theorem State.Keeps.modWriter (h : s.Keeps t) {p : PortId} {f : Writer → Writer} : s.Keeps (t.modWriter p f) :=
  h.modPort id fun hn => hn.congr rfl rfl

/-- A change of a Notice Unit keeps the laws when the Notice Unit keeps its own. -/
theorem State.Keeps.modNu (h : s.Keeps t) {p : PortId} {f : Nu → Nu}
    (hnotice : (t.port p).NoticeLawful → ((t.port p).withNu (f (t.nu p))).NoticeLawful) : s.Keeps (t.modNu p f) :=
  h.modPort id hnotice

theorem State.Keeps.setEntry (h : s.Keeps t) {c : ChannelId} {e : Entry} : s.Keeps (t.setEntry c e) := h.others rfl rfl

theorem State.Keeps.modUse (h : s.Keeps t) {c : ChannelId} {f : Use → Use} : s.Keeps (t.modUse c f) := h.others rfl rfl

theorem State.Keeps.modCounters (h : s.Keeps t) {c : ChannelId} {f : Counters → Counters} : s.Keeps (t.modCounters c f) := h.others rfl rfl

theorem State.Keeps.pointAt (h : s.Keeps t) {p : PortId} {k : Fin 4} {c : ChannelId} : s.Keeps (t.pointAt p k c) := h.others rfl rfl

theorem State.Keeps.countFreeValue (h : s.Keeps t) : s.Keeps t.countFreeValue := h.others rfl rfl

/-- A change of a record's place in the life of its message keeps the laws (R7). -/
theorem State.Keeps.setRecordState (h : s.Keeps t) {r : RecordId} {place : RecordState} :
    s.Keeps (t.modRecord r fun rec => { rec with state := place }) :=
  h.changePool rfl (fun hp => hp.modRecord r fun _ => ⟨rfl, rfl⟩) id

/-- One record's free writes no segment (R1). -/
theorem Pool.freeOne_segments (pool : Pool) (r : RecordId) : (pool.freeOne r).segments = pool.segments := by
  unfold Pool.freeOne
  split <;> rfl

/-- A free writes no segment (R1). -/
theorem Pool.free_segments (pool : Pool) (rs : List RecordId) : (pool.free rs).segments = pool.segments := by
  have recover : ∀ q : Pool, q.recoverTest.segments = q.segments := fun q => by
    unfold Pool.recoverTest
    split <;> rfl
  rw [Pool.free, recover]
  induction rs generalizing pool with
  | nil => rfl
  | cons r rs ih => rw [List.foldl_cons, ih, Pool.freeOne_segments]

/-- A granted claim writes no segment (R1). -/
theorem Pool.claim_segments {pool pool' : Pool} {c : Claim} {r : RecordId} (h : pool.claim c = .granted r pool') :
    pool'.segments = pool.segments := by
  obtain ⟨_, _, _, rfl⟩ := Pool.claim_granted h
  unfold Pool.lowTest
  split <;> rfl

/-- A free of records keeps the laws (R12, R15). -/
theorem State.Keeps.free (h : s.Keeps t) {rs : List RecordId} : s.Keeps (t.setPool (t.pool.free rs)) :=
  h.changePool rfl (fun hp => Pool.free_lawful hp rs) (by rw [State.setPool_pool, Pool.free_segments]; exact id)

/-- A granted claim keeps the laws (R10, R14). -/
theorem State.Keeps.claim (h : s.Keeps t) {c : Claim} {r : RecordId} {pool : Pool} (hc : t.pool.claim c = .granted r pool) : s.Keeps (t.setPool pool) :=
  h.changePool rfl (fun hp => Pool.claim_lawful hp hc) (by rw [State.setPool_pool, Pool.claim_segments hc]; exact id)

/-- A copy into the segments keeps the laws (R64). -/
theorem State.Keeps.copyPayload (h : s.Keeps t) {p : PortId} {rec : Record} {n : Nat} : s.Keeps (t.copyPayload p rec n) :=
  h.changePool rfl (fun hp => hp.segmentsWritten _) fun hm => Memory.wf_copyBytes hm _ _ _

/-! ## Events and handings -/

theorem State.Keeps.countVector (h : s.Keeps t) {p : PortId} {v : VectorId} : s.Keeps (t.countVector p v) := by
  unfold State.countVector
  split
  · exact h.modNu fun hn => hn.count v
  · exact h

theorem State.Keeps.event (h : s.Keeps t) {p : PortId} {kind : EventKind} {qualifier channel : Byte} {detail : Half} {slot : Option SlotId} :
    s.Keeps (t.event p kind qualifier channel detail slot) := by
  unfold State.event
  split
  · exact h
  · exact (h.modNu fun hn => hn.take _ _ _ _).countVector

theorem State.Keeps.tellParty (h : s.Keeps t) {a : Option Party} {kind : EventKind} {qualifier : Byte} {c : ChannelId} {detail : Half} :
    s.Keeps (t.tellParty a kind qualifier c detail) := by
  unfold State.tellParty
  split
  · exact h
  · exact h.event

theorem State.Keeps.modConsumerWord (h : s.Keeps t) {a : Party} {f : ConsumerWord → ConsumerWord} : s.Keeps (t.modConsumerWord a f) :=
  h.modNu fun hn => hn.words _ _

theorem State.Keeps.modProducerWord (h : s.Keeps t) {a : Party} {f : ProducerWord → ProducerWord} : s.Keeps (t.modProducerWord a f) :=
  h.modNu fun hn => hn.words _ _

theorem State.Keeps.bindConsumer (h : s.Keeps t) {a : Party} {c : ChannelId} : s.Keeps (t.bindConsumer a c) := h.modConsumerWord.modPiu rfl rfl

theorem State.Keeps.unbindConsumer (h : s.Keeps t) {a : Option Party} : s.Keeps (t.unbindConsumer a) := by
  unfold State.unbindConsumer
  split
  · exact h
  · exact h.modConsumerWord

theorem State.Keeps.unbindProducer (h : s.Keeps t) {a : Option Party} : s.Keeps (t.unbindProducer a) := by
  unfold State.unbindProducer
  split
  · exact h
  · exact h.modProducerWord

theorem State.Keeps.handHold (h : s.Keeps t) {a : Option Party} {held : Bool} : s.Keeps (t.handHold a held) := by
  unfold State.handHold
  split
  · exact h
  · exact h.modProducerWord

theorem State.Keeps.handWriteIndex (h : s.Keeps t) {a : Option Party} {w : Half} : s.Keeps (t.handWriteIndex a w) := by
  unfold State.handWriteIndex
  split
  · exact h
  · exact h.modConsumerWord

theorem State.Keeps.handReceipt (h : s.Keeps t) {a : Option Party} {sequence : Half} : s.Keeps (t.handReceipt a sequence) := by
  unfold State.handReceipt
  split
  · exact h
  · exact h.modProducerWord.countVector

/-! ## The Channel Controller's shared operations -/

theorem State.Keeps.freeEntry (h : s.Keeps t) {c : ChannelId} : s.Keeps (t.freeEntry c) := by
  unfold State.freeEntry
  split
  · exact h
  · exact h.unbindProducer.unbindConsumer.setEntry

theorem State.Keeps.freeWithNotice (h : s.Keeps t) {c : ChannelId} {cause : FreedCause} : s.Keeps (t.freeWithNotice c cause) := by
  unfold State.freeWithNotice
  split
  · exact h
  · exact h.tellParty.tellParty.freeEntry

theorem State.Keeps.dropRecords (h : s.Keeps t) {c : ChannelId} {rs : List RecordId} : s.Keeps (t.dropRecords c rs) := h.free.modUse

theorem State.Keeps.enterHold (h : s.Keeps t) {c : ChannelId} {reason : HoldReason} : s.Keeps (t.enterHold c reason) := by
  unfold State.enterHold
  split
  · exact h
  · exact h.modUse.modCounters.handHold.tellParty

theorem State.Keeps.endHold (h : s.Keeps t) {c : ChannelId} {expiry : Bool} : s.Keeps (t.endHold c expiry) := by
  unfold State.endHold
  split
  · exact h
  · exact h.modUse.handHold.tellParty

theorem State.Keeps.renewHold (h : s.Keeps t) {c : ChannelId} : s.Keeps (t.renewHold c) := by
  unfold State.renewHold
  split
  · exact h
  · exact h.modUse.modCounters.tellParty

theorem State.Keeps.quotaCheck (h : s.Keeps t) {c : ChannelId} : s.Keeps (t.quotaCheck c) := by
  unfold State.quotaCheck
  split
  · exact h
  · split
    · exact h.enterHold
    · exact h

theorem State.Keeps.releaseCheckAt (h : s.Keeps t) {level : PoolLevel} {c : ChannelId} : s.Keeps (t.releaseCheckAt level c) := by
  unfold State.releaseCheckAt
  split
  · exact h
  · split
    · exact h.endHold
    · exact h

theorem State.Keeps.leaveOpen (h : s.Keeps t) {c : ChannelId} {stage : Stage} : s.Keeps (t.leaveOpen c stage) := by
  unfold State.leaveOpen
  split
  · exact h
  · exact h.modUse.handHold

theorem State.Keeps.drainCheck (h : s.Keeps t) {c : ChannelId} : s.Keeps (t.drainCheck c) := by
  unfold State.drainCheck
  split
  · exact h
  · split
    · exact h.freeWithNotice
    · exact h

theorem State.Keeps.freeCheck (h : s.Keeps t) {c : ChannelId} : s.Keeps (t.freeCheck c) := by
  unfold State.freeCheck
  split
  · exact h
  · split
    · exact h.freeWithNotice
    · exact h

theorem State.Keeps.checkAfterFall (h : s.Keeps t) {c : ChannelId} : s.Keeps (t.checkAfterFall c) := by
  unfold State.checkAfterFall
  split
  · exact h
  · split
    · exact h
    · exact h.releaseCheckAt
    · exact h.drainCheck
    · exact h.freeCheck
    · exact h

theorem State.Keeps.discard (h : s.Keeps t) {c : ChannelId} : s.Keeps (t.discard c) := by
  unfold State.discard
  split
  · exact h
  · split
    · exact h.dropRecords.modUse
    · exact h.dropRecords.modUse

/-! ## The command slot -/

theorem State.Keeps.complete (h : s.Keeps t) {p : PortId} {status : Status} {results : Table Word 4} : s.Keeps (t.complete p status results) := by
  unfold State.complete
  dsimp only
  split
  · exact (h.modPiu rfl rfl).event
  · exact h.modPiu rfl rfl

theorem State.Keeps.refuse (h : s.Keeps t) {p : PortId} {status : Status} : s.Keeps (t.refuse p status) := h.complete

theorem State.Keeps.finish (h : s.Keeps t) {p : PortId} : s.Keeps (t.finish p) := h.complete

/-! ## Opening and closing -/

theorem State.Keeps.offerBody (h : s.Keeps t) {p : PortId} : s.Keeps (offerBody p t) := by
  unfold Machine.offerBody
  dsimp only
  split
  · exact h.refuse
  · split
    · exact h.refuse
    · unfold offerTake State.portEvent
      dsimp only
      split
      · exact h.setEntry.modProducerWord.event.complete
      · exact h.setEntry.bindConsumer.event.complete

theorem State.Keeps.acceptAsProducer (h : s.Keeps t) {c : ChannelId} {q : Party} {u : Use} {armed : Bool} : s.Keeps (acceptAsProducer t c q u armed) := by
  unfold Machine.acceptAsProducer
  dsimp only
  split
  · exact h.modUse.modProducerWord.handWriteIndex
  · exact h.modUse.modProducerWord

theorem State.Keeps.acceptTake (h : s.Keeps t) {p : PortId} {c : ChannelId} {u : Use} {o : Offer} {slot : SlotId} {r : RingArgs} :
    s.Keeps (acceptTake t p c u o slot r) := by
  unfold Machine.acceptTake
  dsimp only
  split
  · exact h.modUse.bindConsumer.tellParty.complete
  · split
    · exact h.acceptAsProducer.tellParty.event.complete
    · exact h.acceptAsProducer.tellParty.complete

theorem State.Keeps.acceptBody (h : s.Keeps t) {p : PortId} : s.Keeps (acceptBody p t) := by
  unfold Machine.acceptBody
  dsimp only
  split
  · exact h.refuse
  · split
    · exact h.refuse
    · exact h.acceptTake

theorem State.Keeps.declineOffer (h : s.Keeps t) {c : ChannelId} : s.Keeps (t.declineOffer c) := by
  unfold State.declineOffer
  split
  · exact h
  · exact h.tellParty.freeEntry

theorem State.Keeps.declineBody (h : s.Keeps t) {p : PortId} : s.Keeps (declineBody p t) := by
  unfold Machine.declineBody
  dsimp only
  split
  · exact h.refuse
  · exact h.declineOffer.finish

theorem State.Keeps.withdrawOffer (h : s.Keeps t) {c : ChannelId} {o : Offer} : s.Keeps (t.withdrawOffer c o) := h.event.freeEntry

theorem State.Keeps.producerClose (h : s.Keeps t) {c : ChannelId} {u : Use} : s.Keeps (t.producerClose c u) := by
  unfold State.producerClose
  split
  · exact h.freeWithNotice
  · exact h.leaveOpen

theorem State.Keeps.consumerClose (h : s.Keeps t) {c : ChannelId} {u : Use} : s.Keeps (t.consumerClose c u) := by
  unfold State.consumerClose
  split
  · exact h.discard.leaveOpen.tellParty
  · exact h.discard.tellParty.freeEntry

theorem State.Keeps.closeByParty (h : s.Keeps t) {p : PortId} {c : ChannelId} {u : Use} : s.Keeps (closeByParty t p c u) := by
  unfold Machine.closeByParty
  split
  · split
    · exact h.withdrawOffer.complete
    · exact h.refuse
  · split
    · exact h.producerClose.complete
    · exact h.consumerClose.complete
  · split
    · exact h.refuse
    · exact h.consumerClose.complete
  · exact h.refuse
  · exact h.freeEntry.complete

theorem State.Keeps.closeBody (h : s.Keeps t) {p : PortId} : s.Keeps (closeBody p t) := by
  unfold Machine.closeBody
  dsimp only
  split
  · exact h.refuse
  · split
    · exact h.closeByParty
    · exact h.refuse

theorem State.Keeps.expireOffer (h : s.Keeps t) {c : ChannelId} {u : Use} {o : Offer} : s.Keeps (t.expireOffer c u o) := h.tellParty.event.freeEntry

/-! ## Posting -/

/-- A write of a compose-buffer word keeps the buffer canonical (R55, R57). -/
theorem State.Keeps.composeWrite (h : s.Keeps t) {p : PortId} {k : Fin 256} {w : Word} : s.Keeps (t.composeWrite p k w) := by
  unfold State.composeWrite
  split
  · exact h
  · refine h.modPort (fun hwf => ?_) fun hn => hn.congr ?_ rfl
    · dsimp only
      split
      · exact hwf
      · exact Memory.wf_writeWord hwf _ _
    · dsimp only
      split <;> rfl

theorem State.Keeps.postAccept (h : s.Keeps t) {p : PortId} {c : ChannelId} {k : Claim} {r : RecordId} {pool : Pool}
    (hc : t.pool.claim k = .granted r pool) : s.Keeps (postAccept t p c r pool) :=
  ((h.claim hc).modUse.modCounters.modPiu rfl rfl).quotaCheck

theorem State.Keeps.postBody (h : s.Keeps t) {p : PortId} : s.Keeps (postBody p t) := by
  unfold Machine.postBody
  dsimp only
  split
  · exact h.refuse
  · split
    · exact h.modCounters.refuse
    · split
      · exact h.modCounters.refuse
      · next hc => exact h.postAccept hc

theorem State.Keeps.dropFill (h : s.Keeps t) {c : ChannelId} {r : RecordId} : s.Keeps (t.dropFill c r) := h.dropRecords.modUse

theorem State.Keeps.completeCopy (h : s.Keeps t) {p : PortId} {r : RecordId} {rec : Record} : s.Keeps (t.completeCopy p r rec) := by
  unfold State.completeCopy
  dsimp only
  split
  · exact h.free.complete
  · split
    · exact h.free.complete
    · exact h.setRecordState.modUse.complete
    · exact h.setRecordState.modUse.complete
    · exact h.dropFill.complete.freeCheck
    · exact h.dropFill.complete

theorem State.Keeps.abandonCopy (h : s.Keeps t) {p : PortId} : s.Keeps (t.abandonCopy p) := by
  unfold State.abandonCopy
  split
  · exact h
  · have unlocked : s.Keeps (t.modPiu p fun u => { u with copy := none }) := h.modPiu rfl rfl
    dsimp only
    split
    · exact unlocked
    · next rec _ =>
      have copied : ∀ n, s.Keeps ((t.modPiu p fun u => { u with copy := none }).copyPayload p rec n).countFreeValue :=
        fun n => unlocked.copyPayload.countFreeValue
      split
      · exact (copied _).free
      · exact (copied _).dropFill.checkAfterFall

/-! ## Departures -/

/-- A Port Writer without a job becomes STOPPED when its port leaves ATTACHED (R74). -/
def Writer.depart (w : Writer) : Writer :=
  match w.state with
  | .stopped => w
  | .idle => { w with state := .stopped }
  | .busy _ => w

/-- The blocks of a port that leaves ATTACHED for `next` (R74, R142). -/
def Port.depart (b : Port) (next : PortState) : Port :=
  { b with piu := { b.piu with state := next, faultHanded := false }, nu := b.nu.depart, writer := b.writer.depart }

/-- The port leaves ATTACHED in one change of its blocks: the three of the model, made together. -/
theorem State.departAttached_eq (t : State) (p : PortId) (next : PortState) :
    t.departAttached p next = t.modPort p fun b => b.depart next := by
  unfold State.departAttached State.modWriter State.modNu State.modPiu State.modPort
  simp only [State.setPort_self]
  unfold State.setPort Table.write
  simp only [Vector.set_set]
  rfl

/-- The Port Interface Unit of a port that leaves ATTACHED (R147). -/
@[simp] theorem State.departAttached_piu (t : State) (p q : PortId) (next : PortState) :
    (t.departAttached p next).piu q = if q = p then { t.piu p with state := next, faultHanded := false } else t.piu q := by
  rw [State.departAttached_eq, State.piu, State.modPort_port]
  split <;> rfl

/-- The Port Writer of a port that leaves ATTACHED (R74). -/
@[simp] theorem State.departAttached_writer (t : State) (p q : PortId) (next : PortState) :
    (t.departAttached p next).writer q = if q = p then (t.writer p).depart else t.writer q := by
  rw [State.departAttached_eq, State.writer, State.modPort_port]
  split <;> rfl

/-- The Notice Unit of a port that leaves ATTACHED (R142). -/
@[simp] theorem State.departAttached_nu (t : State) (p q : PortId) (next : PortState) :
    (t.departAttached p next).nu q = if q = p then (t.nu p).depart else t.nu q := by
  rw [State.departAttached_eq, State.nu, State.modPort_port]
  split <;> rfl

theorem State.Keeps.departAttached (h : s.Keeps t) {p : PortId} {next : PortState} : s.Keeps (t.departAttached p next) := by
  rw [State.departAttached_eq]
  exact h.modPort id fun hn => hn.depart

theorem State.Keeps.oweDetachment (h : s.Keeps t) {p : PortId} {mode : DetachMode} : s.Keeps (t.oweDetachment p mode) := by
  unfold State.oweDetachment
  split
  · exact h.modPort id fun hn => hn.congr rfl rfl
  · exact h.modPort id fun hn => hn.congr rfl rfl

/-- The blocks of a port after steps 1 to 3 of R148. -/
def Port.leave (b : Port) (mode : DetachMode) : Port := { b with piu := b.piu.leave mode, nu := b.nu.leave mode }

/-- Steps 1 to 3 of R148 in one change of the port's blocks. -/
theorem State.leave_eq (t : State) (p : PortId) (mode : DetachMode) :
    (t.modPiu p fun u => u.leave mode).modNu p (fun nu => nu.leave mode) = t.modPort p fun b => b.leave mode := by
  unfold State.modNu State.modPiu State.modPort
  simp only [State.setPort_self]
  unfold State.setPort Table.write
  simp only [Vector.set_set]
  rfl

theorem State.Keeps.finishDetach (h : s.Keeps t) {p : PortId} : s.Keeps (t.finishDetach p) := by
  unfold State.finishDetach
  split
  · exact h.finish
  · exact h

/-- The end of the quiesce on a port that is not ATTACHED keeps the laws (R148). -/
theorem State.Keeps.quiesceEnd (h : s.Keeps t) {p : PortId} {mode : DetachMode} (hp : (t.piu p).state ≠ .attached) : s.Keeps (t.quiesceEnd p mode) := by
  unfold State.quiesceEnd
  rw [State.leave_eq]
  refine (h.modPort (fun hwf => ?_) fun hn => hn.leave hp mode).finishDetach.oweDetachment
  cases mode <;> exact hwf

theorem State.Keeps.settle (h : s.Keeps t) {p : PortId} : s.Keeps (t.settle p) := by
  unfold State.settle
  split
  · exact h
  · split
    · next hstate =>
      split
      · exact h
      · exact h.quiesceEnd fun ha => by simp [ha] at hstate
    · exact h

/-- The blocks of the ports after a fault of `p` (R157). -/
theorem State.faultPort_blocks (t : State) (p q : PortId) :
    (t.faultPort p).piu q = (if q = p then { t.piu p with state := .faulted, faultHanded := false } else t.piu q) ∧
      (t.faultPort p).writer q = (if q = p then (t.writer p).depart else t.writer q) ∧
      (t.faultPort p).nu q = if q = p then (t.nu p).depart.vectorsOff else t.nu q := by
  obtain ⟨hpiu, hwriter, hnu⟩ := State.modPort_blocks ((t.departAttached p .faulted).modNu p Nu.vectorsOff) p q
    (fun b => { b with requeueOwed := b.requeueOwed ++ ((t.departAttached p .faulted).modNu p Nu.vectorsOff).faultEntries p }) fun _ => ⟨rfl, rfl, rfl⟩
  refine ⟨hpiu.trans ?_, hwriter.trans ?_, hnu.trans ?_⟩
  · rw [State.modNu_piu, State.departAttached_piu]
  · rw [State.modNu_writer, State.departAttached_writer]
  · by_cases hq : q = p <;> simp [hq]

/-- A fault keeps the laws: PnIRQ is deasserted before the vectors go OFF (R157). -/
theorem State.Keeps.faultPort (h : s.Keeps t) {p : PortId} : s.Keeps (t.faultPort p) := by
  unfold State.faultPort
  refine (h.departAttached.modNu fun hn => hn.vectorsOff ?_).modPort id fun hn => hn.congr rfl rfl
  rw [State.port_nu, State.departAttached_nu, if_pos rfl]
  rfl

theorem State.Keeps.takeFault (h : s.Keeps t) {p : PortId} : s.Keeps (t.takeFault p) := by
  unfold State.takeFault
  split
  · exact h.faultPort
  · exact h

/-! ## Port Writers -/

theorem State.Keeps.dropLanding (h : s.Keeps t) {c : ChannelId} {r : RecordId} : s.Keeps (t.dropLanding c r) := h.dropRecords.modUse

theorem State.Keeps.landOn (h : s.Keeps t) {r : RecordId} {rec : Record} {u : Use} : s.Keeps (t.landOn r rec u) := by
  unfold State.landOn
  dsimp only
  cases u.terms.cls with
  | plain =>
    cases u.consumer with
    | none => exact h.modUse.modCounters.dropRecords.handWriteIndex.checkAfterFall
    | some q => exact h.modUse.modCounters.dropRecords.handWriteIndex.countVector.checkAfterFall
  | confirmed w =>
    cases u.consumer with
    | none => exact h.modUse.modCounters.setRecordState.modUse.handWriteIndex.checkAfterFall
    | some q => exact h.modUse.modCounters.setRecordState.modUse.handWriteIndex.countVector.checkAfterFall

theorem State.Keeps.completeLanding (h : s.Keeps t) {r : RecordId} : s.Keeps (t.completeLanding r) := by
  unfold State.completeLanding
  split
  · exact h
  · split
    · exact h.free
    · split
      · exact h.dropLanding
      · exact h.landOn
      · exact h.landOn
      · exact h.dropLanding.freeCheck
      · exact h.dropLanding

theorem State.Keeps.failLanding (h : s.Keeps t) {r : RecordId} : s.Keeps (t.failLanding r) := by
  unfold State.failLanding
  split
  · exact h
  · split
    · exact h.free
    · split
      · exact h.dropLanding
      · exact h.setRecordState
      · exact h.setRecordState
      · exact h.dropLanding.freeCheck
      · exact h.dropLanding

theorem State.Keeps.completeWork (h : s.Keeps t) {p : PortId} {kind : JobKind} : s.Keeps (t.completeWork p kind) := by
  unfold State.completeWork
  split
  · exact h.completeLanding
  · exact h.modNu fun hn => hn.completeFlush _ _ _
  · exact h.modNu fun hn => hn.completeSignal _

theorem State.Keeps.completeJob (h : s.Keeps t) {p : PortId} {kind : JobKind} : s.Keeps (t.completeJob p kind) := h.completeWork.modWriter.settle

theorem State.Keeps.failWork (h : s.Keeps t) {kind : JobKind} : s.Keeps (t.failWork kind) := by
  cases kind with
  | landing c g r i => exact h.failLanding
  | flush n tag vs => exact h
  | signal v => exact h

theorem State.Keeps.failJob (h : s.Keeps t) {p : PortId} {kind : FaultKind} {job : Job} : s.Keeps (t.failJob p kind job) := by
  unfold State.failJob
  dsimp only
  split
  · exact h.modWriter.failWork.modPiu rfl rfl
  · exact h.modWriter.failWork.settle

theorem State.Keeps.endJob (h : s.Keeps t) {p : PortId} : s.Keeps (t.endJob p) := by
  unfold State.endJob
  dsimp only
  split
  · exact h.modWriter
  · exact h.modWriter
  · exact h.modWriter.failWork

theorem State.Keeps.answerOk (h : s.Keeps t) {p : PortId} {job : Job} : s.Keeps (t.answerOk p job) := by
  unfold State.answerOk
  split
  · exact h.modWriter
  · exact h.completeJob

theorem State.Keeps.startLanding (h : s.Keeps t) {p : PortId} {k : Fin 4} {c : ChannelId} : s.Keeps (t.startLanding p k c) := by
  unfold State.startLanding
  split
  · exact h
  · split
    · split
      · exact h
      · unfold State.startJob
        exact h.pointAt.setRecordState.modWriter
    · exact h

theorem State.Keeps.answerError (h : s.Keeps t) {p : PortId} {job : Nat} : s.Keeps (t.answerError p job) := by
  unfold State.answerError
  split
  · exact h
  · exact h.failJob

theorem State.Keeps.timeOut (h : s.Keeps t) {p : PortId} : s.Keeps (t.timeOut p) := by
  unfold State.timeOut
  split
  · exact h
  · exact h
  · split
    · exact h.failJob
    · exact h

/-! ## Credit, LAND, CONFIRM, requeue -/

theorem State.Keeps.creditWrite (h : s.Keeps t) {p : PortId} {i : SlotId} {w : Word} : s.Keeps (t.creditWrite p i w) := by
  unfold State.creditWrite
  split
  · exact h
  · split
    · exact h
    · split
      · exact h
      · split
        · unfold State.takeCredit
          split
          · exact h.modUse.modPiu rfl rfl
          · exact h.event
        · exact h

theorem State.Keeps.landTake (h : s.Keeps t) {p : PortId} {c : ChannelId} {u : Use} {r : RingArgs} : s.Keeps (landTake t p c u r) := by
  unfold Machine.landTake
  cases u.consumer with
  | none => exact (h.modUse.modPiu rfl rfl).handWriteIndex.tellParty.complete
  | some q => exact (h.modUse.modPiu rfl rfl).handWriteIndex.tellParty.complete

theorem State.Keeps.landBody (h : s.Keeps t) {p : PortId} : s.Keeps (landBody p t) := by
  unfold Machine.landBody
  dsimp only
  split
  · exact h.refuse
  · split
    · exact h.refuse
    · exact h.landTake

theorem State.Keeps.confirmRelease (h : s.Keeps t) {c : ChannelId} {u : Use} {sequence : Half} {released rest : List RecordId} :
    s.Keeps (t.confirmRelease c u sequence released rest) := h.dropRecords.modUse.handReceipt.checkAfterFall

theorem State.Keeps.confirmBody (h : s.Keeps t) {p : PortId} : s.Keeps (confirmBody p t) := by
  unfold Machine.confirmBody
  dsimp only
  split
  · exact h.refuse
  · split
    · exact h.refuse
    · exact h.confirmRelease.complete

theorem State.Keeps.markReplay (h : s.Keeps t) {rs : List RecordId} : s.Keeps (t.markReplay rs) := by
  induction rs generalizing t with
  | nil => exact h
  | cons r rs ih => exact ih (h.changePool rfl (fun hp => hp.modRecord r fun _ => ⟨rfl, rfl⟩) id)

theorem State.Keeps.requeueOn (h : s.Keeps t) {p : PortId} {c : ChannelId} : s.Keeps (t.requeueOn p c) := by
  unfold State.requeueOn
  split
  · exact h
  · split
    · unfold State.requeueEntry
      dsimp only
      split
      · exact h.markReplay.modUse.tellParty
      · exact h.markReplay.modUse
    · exact h

/-! ## Holds and vectors -/

theorem State.Keeps.poolHoldOn (h : s.Keeps t) {c : ChannelId} : s.Keeps (t.poolHoldOn c) := by
  unfold State.poolHoldOn
  split
  · exact h
  · split
    · exact h.enterHold
    · exact h

theorem State.Keeps.expireHold (h : s.Keeps t) {c : ChannelId} {u : Use} : s.Keeps (t.expireHold c u) := by
  unfold State.expireHold
  split
  · exact h.endHold
  · exact h.renewHold

theorem State.Keeps.setVectorBody (h : s.Keeps t) {p : PortId} : s.Keeps (setVectorBody p t) := by
  unfold Machine.setVectorBody
  dsimp only
  split
  · next ha => exact (h.modNu fun hn => hn.setVector ha).finish
  · exact h.refuse

theorem State.Keeps.rearmWrite (h : s.Keeps t) {p : PortId} {v : VectorId} {w : Word} : s.Keeps (t.rearmWrite p v w) := by
  unfold State.rearmWrite
  split
  · exact h
  · split
    · next ht => exact h.modNu fun hn => hn.rearm v _ ht.2.2.2
    · exact h

theorem State.Keeps.eventReadWrite (h : s.Keeps t) {p : PortId} {w : Word} : s.Keeps (t.eventReadWrite p w) := by
  unfold State.eventReadWrite State.takeReadIndex
  dsimp only
  split
  · exact h
  · split
    · exact h
    · split
      · split
        · exact (h.modPiu rfl rfl).countVector
        · exact h.modPiu rfl rfl
      · exact h

/-- A signal job keeps the laws when its vector is due on an ATTACHED port (R138, R139). -/
theorem State.Keeps.startSignal (h : s.Keeps t) {p : PortId} {v : VectorId} (hp : (t.piu p).state = .attached)
    (hv : ((t.nu p).vectors.read v).due = true) : s.Keeps (t.startSignal p v) := by
  unfold State.startSignal
  split
  · exact h.modNu fun hn => hn.completeSignal v
  · next hline => exact h.modNu fun hn => hn.lineSignal hp hv hline
  · exact h.modWriter

/-! ## Attachment, detachment, resets -/

/-- The blocks of a port that ATTACH made ATTACHED (R142, R145; log 9). -/
def Port.attach (b : Port) (base : Word) (g : Grant) (line : Bool) : Port :=
  ⟨{ b.piu with state := .attached, retainedLast := false, eventRead := 0 }, { b.writer with state := .idle }, b.nu.attach base g line, [], []⟩

/-- ATTACH in one change of the port's blocks, and its completion (R142, R145). -/
theorem attachTake_eq (t : State) (p : PortId) (base : Word) (g : Grant) (line : Bool) :
    attachTake t p base g line =
      (t.modPort p fun b => b.attach base g line).complete p .done
        (resultWords (flag ((t.piu p).state ≠ .detached)) (t.nu p).backlog.length 0 0) := by
  unfold attachTake State.modNu State.modWriter State.modPiu State.modPort
  simp only [State.setPort_self]
  unfold State.setPort Table.write
  simp only [Vector.set_set]
  rfl

/-- ATTACH of a port that is not ATTACHED keeps the laws (R142). -/
theorem State.Keeps.attachBody (h : s.Keeps t) {p : PortId} (hp : (t.piu p).state ≠ .attached) : s.Keeps (attachBody p t) := by
  unfold Machine.attachBody
  dsimp only
  split
  · exact h.refuse
  · split
    · exact h.refuse
    · split
      · exact h.refuse
      · rw [attachTake_eq]
        exact (h.modPort id fun hn => hn.attach hp _ _ _).complete

theorem State.Keeps.detachBody (h : s.Keeps t) {p : PortId} : s.Keeps (detachBody p t) := by
  unfold Machine.detachBody
  split
  · exact h.refuse
  · unfold detachTake detachByState
    split
    · exact (h.takeFault.modPiu rfl rfl).departAttached.settle
    · next hstate =>
      split
      · exact h.takeFault.finish
      · exact h.takeFault.quiesceEnd (by simp [hstate])
    · next hstate => exact h.takeFault.quiesceEnd (by simp [hstate])
    · exact h.takeFault.refuse
    · exact h.takeFault.refuse

theorem State.Keeps.retainBody (h : s.Keeps t) {p : PortId} {armed : Bool} : s.Keeps (retainBody armed p t) := (h.modPiu rfl rfl).finish

theorem State.Keeps.orphanEntry (h : s.Keeps t) {c : ChannelId} {u : Use} : s.Keeps (t.orphanEntry c u) :=
  h.dropRecords.modUse.unbindConsumer.leaveOpen.tellParty

theorem State.Keeps.discardClosing (h : s.Keeps t) {c : ChannelId} {u : Use} : s.Keeps (t.discardClosing c u) :=
  h.dropRecords.modUse.tellParty.freeEntry

theorem State.Keeps.detachOn (h : s.Keeps t) {p : PortId} {c : ChannelId} {u : Use} : s.Keeps (t.detachOn p c u) := by
  unfold State.detachOn
  split
  · split
    · exact h.withdrawOffer
    · exact h.declineOffer
  · split
    · exact h.orphanEntry
    · exact h.leaveOpen.drainCheck
  · split
    · exact h.discardClosing
    · exact h
  · exact h
  · exact h.freeEntry

/-- A port reset leaves an empty buffer, which is canonical (R154). -/
theorem State.Keeps.resetPortWork (h : s.Keeps t) {p : PortId} : s.Keeps (t.resetPortWork p) := by
  unfold State.resetPortWork
  exact h.abandonCopy.endJob.modPort (fun _ => by simp [Memory.wf, Piu.clear]) fun hn => hn.congr rfl rfl

theorem State.Keeps.takePortReset (h : s.Keeps t) {p : PortId} : s.Keeps (t.takePortReset p) := by
  unfold State.takePortReset State.resetByState
  dsimp only
  split
  · exact (h.takeFault.modPiu rfl rfl).departAttached.resetPortWork
  · exact (h.takeFault.modPiu rfl rfl).resetPortWork
  · exact (h.takeFault.modPiu rfl rfl).resetPortWork
  · exact h.takeFault.resetPortWork
  · exact h.takeFault.resetPortWork

theorem State.Keeps.takeHeldResets (h : s.Keeps t) {ps : List PortId} : s.Keeps (t.takeHeldResets ps) := by
  induction ps generalizing t with
  | nil => exact h
  | cons p ps ih =>
    refine ih ?_
    split
    · exact h.takePortReset
    · exact h

/-! ## Reading commands and the window -/

theorem State.Keeps.queryBody (h : s.Keeps t) {p : PortId} : s.Keeps (queryBody p t) := by
  unfold Machine.queryBody
  dsimp only
  split
  · exact h.refuse
  · exact h.complete

theorem State.Keeps.readCountersBody (h : s.Keeps t) {p : PortId} : s.Keeps (readCountersBody p t) := by
  unfold Machine.readCountersBody
  dsimp only
  split
  · exact h.refuse
  · split
    · exact h.modCounters.complete
    · exact h.complete

/-- The body of a command that the port state admits keeps the laws; only ATTACH needs the port state for it. -/
theorem State.Keeps.commandBody (h : s.Keeps t) {p : PortId} {c : Command} (ha : admits (t.piu p).state c = true) : s.Keeps (Machine.commandBody p c t) := by
  cases c with
  | offer => exact h.offerBody
  | accept => exact h.acceptBody
  | decline => exact h.declineBody
  | close => exact h.closeBody
  | post => exact h.postBody
  | land => exact h.landBody
  | confirm => exact h.confirmBody
  | query => exact h.queryBody
  | readCounters => exact h.readCountersBody
  | setVector => exact h.setVectorBody
  | attach => exact h.attachBody fun hp => by simp [hp, admits] at ha
  | detach => exact h.detachBody
  | armRetain => exact h.retainBody
  | disarmRetain => exact h.retainBody

/-- A write of the command word keeps the laws when the body of an admitted command does. -/
theorem State.Keeps.takeCommand (h : s.Keeps t) {p : PortId} {kind : Byte} {notify : Bool} {body : State → State}
    (hbody : ∀ c, commandOfKind kind.toNat = some c → body = Machine.commandBody p c) : s.Keeps (t.takeCommand p kind notify body) := by
  refine State.takeCommand_cases t p kind notify body h (fun _ => h.modPiu rfl rfl) (fun _ st => (h.modPiu rfl rfl).refuse) fun c hc ha _ _ => ?_
  rw [hbody c hc]
  exact (h.modPiu rfl rfl).commandBody (by rw [State.latch_state]; exact ha)

theorem State.Keeps.commandWordWrite (h : s.Keeps t) {p : PortId} {kind : Byte} {notify : Bool} : s.Keeps (t.commandWordWrite p kind notify) :=
  h.takeCommand fun c hc => by
    funext r
    rw [kindBody, hc]

theorem State.Keeps.argumentWrite (h : s.Keeps t) {p : PortId} {k : Fin 8} {w : Word} : s.Keeps (t.argumentWrite p k w) := by
  unfold State.argumentWrite
  split
  · exact h
  · exact h.modPiu rfl rfl

theorem State.Keeps.windowWrite (h : s.Keeps t) {p : PortId} {size : AccessSize} {offset : BitVec 13} {w : Word} :
    s.Keeps (t.windowWrite p size offset w) := by
  unfold State.windowWrite
  split
  · exact h.composeWrite
  · exact h.commandWordWrite
  · exact h
  · exact h
  · exact h.argumentWrite
  · exact h.creditWrite
  · exact h.eventReadWrite
  · exact h.rearmWrite
  · exact h
  · exact h
  · exact h
  · exact h

end keeps

end Sys2Proof.Machine

namespace Sys2Proof.Machine

/-! ## Device reset and time -/

/-- No record is in use after device reset. -/
theorem Pool.reset_record (r : RecordId) : Pool.reset.records.read r = none := Table.read_fill none r

/-- The pool after device reset is lawful: every segment and every record is free (Table 1-4). -/
theorem Pool.reset_lawful : Pool.reset.Lawful := by
  have hchained : Pool.reset.chained = [] := by
    rw [Pool.chained_eq, List.flatMap_eq_nil_iff]
    intro r _
    rw [Pool.reset_record]
    rfl
  have hcount : Pool.reset.freeCount = 2048 := length_ascending 2048 0 2048
  refine ⟨?_, ⟨nodup_ascending 1024, fun r => ?_⟩, fun r rec hr => ?_, fun _ => ?_, fun hlow => ?_⟩
  · rw [hchained, List.append_nil]
    exact List.Perm.refl _
  · exact iff_of_true (mem_ascending r) (Pool.reset_record r)
  · rw [Pool.reset_record] at hr
    cases hr
  · rw [hcount]
    decide
  · exact absurd hlow (by decide)

/-- The Notice Unit after device reset is lawful: PnIRQ is deasserted, nothing waits and nothing is due (Table 8-2). -/
theorem Port.resetWith_noticeLawful (pin : Bool) (jobs : Nat) : (Port.resetWith pin jobs).NoticeLawful :=
  have hread : ∀ v, Nu.reset.vectors.read v = Coalescer.reset := Table.read_fill Coalescer.reset
  .quiet rfl (Nat.zero_le _) (fun v => (congrArg Coalescer.pending (hread v)).le.trans (Nat.zero_le _))
    (fun v hdue => absurd ((congrArg Coalescer.due (hread v)).symm.trans hdue) (by decide))
    fun v _ => by rw [show (Port.resetWith pin jobs).nu.vectors.read v = Coalescer.reset from hread v]; decide

/-- Device reset gives lawful blocks, whatever was there before (R17, R143, R169). -/
theorem execDeviceReset_keeps (s : State) : ∃ t, execDeviceReset s = .next t ∧ s.Keeps t := by
  refine ⟨_, rfl, fun _ => Pool.reset_lawful, fun _ => ?_, fun p _ => ?_, fun p _ => ?_⟩
  · exact ⟨List.Pairwise.nil, fun c hc => by cases hc⟩
  · simp only [State.piu, State.port, Table.read_build]
    exact ⟨List.Pairwise.nil, fun c hc => by cases hc⟩
  · simp only [State.port, Table.read_build]
    exact Port.resetWith_noticeLawful _ _

/-- A change of every running timer keeps the laws: they speak of no timer (R177). -/
theorem State.mapTimers_keeps (s : State) (f : Timer → Timer) : s.Keeps (s.mapTimers f) := by
  have hport : ∀ p, (s.mapTimers f).port p = { s.port p with writer := (s.port p).writer.mapTimer f, nu := (s.port p).nu.mapTimers f } :=
    fun p => by simp [State.mapTimers, State.port]
  refine ⟨id, id, fun p => ?_, fun p hn => ?_⟩
  · rw [State.piu, State.piu, hport]
    exact id
  · rw [hport]
    refine hn.signalsSame rfl hn.backlog rfl fun v => ?_
    simp only [Nu.mapTimers, Nu.mapVectors, Table.read_build]
    exact ⟨trivial, trivial, trivial, hn.pending v⟩

/-- A step with no command waiting keeps the laws (log 1). -/
theorem State.passTime_keeps (s : State) : s.Keeps s.passTime := by
  by_cases hdue : s.overdue = []
  · rw [State.passTime_calm hdue]
    split
    · exact (s.mapTimers_keeps Timer.pass).others rfl rfl
    · exact (s.mapTimers_keeps Timer.tick).others rfl rfl
  · rw [State.passTime_due hdue]
    exact (State.Keeps.refl s).others rfl rfl

/-! ## Commands and steps

The rows of the device's own carry their guards in the row; each is one lemma. -/

theorem execOfferTimerExpiry_keeps (c : ChannelId) (s : State) : ∃ t, execOfferTimerExpiry c s = .next t ∧ s.Keeps t := by
  refine ⟨_, rfl, ?_⟩
  split
  · exact .refl s
  · split
    · split
      · exact (State.Keeps.refl s).expireOffer
      · exact .refl s
    all_goals exact .refl s

theorem execHoldTimerExpiry_keeps (c : ChannelId) (s : State) : ∃ t, execHoldTimerExpiry c s = .next t ∧ s.Keeps t := by
  refine ⟨_, rfl, ?_⟩
  split
  · exact .refl s
  · split
    · exact (State.Keeps.refl s).expireHold
    · exact .refl s

theorem execCopyCompletion_keeps (p : PortId) (s : State) : ∃ t, execCopyCompletion p s = .next t ∧ s.Keeps t := by
  refine ⟨_, rfl, ?_⟩
  split
  · exact .refl s
  · split
    · exact (State.Keeps.refl s).modPiu rfl rfl
    · exact ((State.Keeps.refl s).copyPayload.modPiu rfl rfl).completeCopy

theorem execDetachmentOnEntry_keeps (p : PortId) (c : ChannelId) (s : State) : ∃ t, execDetachmentOnEntry p c s = .next t ∧ s.Keeps t := by
  refine ⟨_, rfl, ?_⟩
  have taken : s.Keeps (s.modPort p fun b => { b with flushOwed := b.flushOwed.erase c }) := (State.Keeps.refl s).modPort id fun hn => hn.congr rfl rfl
  split
  · dsimp only
    split
    · exact taken
    · split
      · exact taken.detachOn
      · exact taken
  · exact .refl s

theorem execRequeue_keeps (p : PortId) (c : ChannelId) (s : State) : ∃ t, execRequeue p c s = .next t ∧ s.Keeps t := by
  refine ⟨_, rfl, ?_⟩
  split
  · exact ((State.Keeps.refl s).modPort id fun hn => hn.congr rfl rfl).requeueOn
  · exact .refl s

theorem execPoolHoldRequest_keeps (c : ChannelId) (s : State) : ∃ t, execPoolHoldRequest c s = .next t ∧ s.Keeps t := by
  refine ⟨_, rfl, ?_⟩
  split
  · exact ((State.Keeps.refl s).others (r := s.takeHoldOwed c) rfl rfl).poolHoldOn
  · exact .refl s

theorem execPoolRetest_keeps (c : ChannelId) (s : State) : ∃ t, execPoolRetest c s = .next t ∧ s.Keeps t := by
  refine ⟨_, rfl, ?_⟩
  split
  · exact ((State.Keeps.refl s).others (r := s.takeRetestOwed c) rfl rfl).releaseCheckAt
  · exact .refl s

theorem execCoalescingDelayExpiry_keeps (p : PortId) (v : VectorId) (s : State) : ∃ t, execCoalescingDelayExpiry p v s = .next t ∧ s.Keeps t := by
  refine ⟨_, rfl, ?_⟩
  split
  · exact (State.Keeps.refl s).modNu fun hn => hn.fire v
  · exact .refl s

theorem execLandingJobStart_keeps (p : PortId) (s : State) : ∃ t, execLandingJobStart p s = .next t ∧ s.Keeps t := by
  refine ⟨_, rfl, ?_⟩
  split
  · split
    · exact .refl s
    · exact (State.Keeps.refl s).startLanding
  · exact .refl s

theorem execFlushJobStart_keeps (p : PortId) (s : State) : ∃ t, execFlushJobStart p s = .next t ∧ s.Keeps t := by
  refine ⟨_, rfl, ?_⟩
  split
  · exact ((State.Keeps.refl s).modNu fun hn => hn.startFlush).modWriter
  · exact .refl s

theorem execSignalJobStart_keeps (p : PortId) (s : State) : ∃ t, execSignalJobStart p s = .next t ∧ s.Keeps t := by
  refine ⟨_, rfl, ?_⟩
  split
  · next hmay =>
    split
    · exact .refl s
    · next v hv =>
      have hattached : (s.piu p).state = .attached := by
        simp only [State.mayStart, State.attached, Bool.and_eq_true, decide_eq_true_eq] at hmay
        exact hmay.2
      exact (State.Keeps.refl s).startSignal hattached (by simpa using List.find?_some hv)
  · exact .refl s

theorem execLinkWriteOk_keeps (a : LinkAnswer) (s : State) : ∃ t, execLinkWriteOk a s = .next t ∧ s.Keeps t := by
  refine ⟨_, rfl, ?_⟩
  split
  · exact .refl s
  · exact (State.Keeps.refl s).answerOk

theorem execLandingCompletion_keeps (a : LinkAnswer) (s : State) : ∃ t, execLandingCompletion a s = .next t ∧ s.Keeps t := by
  refine ⟨_, rfl, ?_⟩
  split
  · exact (State.Keeps.refl s).completeJob
  · exact .refl s

theorem execFlushCompletion_keeps (a : LinkAnswer) (s : State) : ∃ t, execFlushCompletion a s = .next t ∧ s.Keeps t := by
  refine ⟨_, rfl, ?_⟩
  split
  · exact (State.Keeps.refl s).completeJob
  · exact .refl s

theorem execSignalCompletion_keeps (a : LinkAnswer) (s : State) : ∃ t, execSignalCompletion a s = .next t ∧ s.Keeps t := by
  refine ⟨_, rfl, ?_⟩
  split
  · exact (State.Keeps.refl s).completeJob
  · exact .refl s

theorem execLinkWriteError_keeps (e : LinkError) (s : State) : ∃ t, execLinkWriteError e s = .next t ∧ s.Keeps t := by
  refine ⟨_, rfl, ?_⟩
  split
  · exact (State.Keeps.refl s).answerError.takeFault
  · exact (State.Keeps.refl s).answerError

theorem execWriteTimeout_keeps (e : LinkTimeout) (s : State) : ∃ t, execWriteTimeout e s = .next t ∧ s.Keeps t := by
  refine ⟨_, rfl, ?_⟩
  split
  · exact (State.Keeps.refl s).timeOut.takeFault
  · exact (State.Keeps.refl s).timeOut

theorem execPortReset_keeps (p : PortId) (s : State) : ∃ t, execPortReset p s = .next t ∧ s.Keeps t := by
  refine ⟨_, rfl, ?_⟩
  split
  · exact (State.Keeps.refl s).modPiu rfl rfl
  · split
    · exact .refl s
    · exact ((State.Keeps.refl s).modPiu rfl rfl).takePortReset

theorem execPortResetRelease_keeps (p : PortId) (s : State) : ∃ t, execPortResetRelease p s = .next t ∧ s.Keeps t := by
  refine ⟨_, rfl, ?_⟩
  split
  · exact (State.Keeps.refl s).modPiu rfl rfl
  · split
    · exact ((State.Keeps.refl s).modPiu rfl rfl).settle
    · exact .refl s

theorem execDeviceResetRelease_keeps (s : State) : ∃ t, execDeviceResetRelease s = .next t ∧ s.Keeps t := by
  refine ⟨_, rfl, ?_⟩
  split
  · exact ((State.Keeps.refl s).others (r := { s with resetPin := false }) rfl rfl).takeHeldResets
  · exact .refl s

/-- A row of the fourteen commands keeps the laws. -/
theorem exec_slotCommand_keeps {i : Instr} {p : PortId} {c : Command} {n : Bool} (h : slotCommand i = some (p, c, n)) (s : State) :
    ∃ t, exec i s = .next t ∧ s.Keeps t := by
  refine ⟨_, exec_slotCommand h s, (State.Keeps.refl s).takeCommand fun d hd => ?_⟩
  rw [commandOfKind_kindOf, Option.some.injEq] at hd
  rw [hd]

/-- Every command answers a next state in which the laws are kept. -/
theorem exec_keeps (i : Instr) (s : State) : ∃ t, exec i s = .next t ∧ s.Keeps t := by
  have refl := State.Keeps.refl s
  cases i with
  | composeBufferWrite p k w => exact ⟨_, rfl, refl.composeWrite⟩
  | creditWrite p k w => exact ⟨_, rfl, refl.creditWrite⟩
  | eventReadIndexWrite p w => exact ⟨_, rfl, refl.eventReadWrite⟩
  | rearm p v w => exact ⟨_, rfl, refl.rearmWrite⟩
  | windowWrite p z o w => exact ⟨_, rfl, refl.windowWrite⟩
  | badCommand p k n => exact ⟨_, rfl, refl.commandWordWrite⟩
  | cmdOverrun p k n => exact ⟨_, rfl, refl.commandWordWrite⟩
  | deviceReset => exact execDeviceReset_keeps s
  | deviceResetRelease => exact execDeviceResetRelease_keeps s
  | portReset p => exact execPortReset_keeps p s
  | portResetRelease p => exact execPortResetRelease_keeps p s
  | quiesceEnd p => exact ⟨_, rfl, refl.settle⟩
  | detachmentOnEntry p c => exact execDetachmentOnEntry_keeps p c s
  | requeue p c => exact execRequeue_keeps p c s
  | poolHoldRequest c => exact execPoolHoldRequest_keeps c s
  | poolRetest c => exact execPoolRetest_keeps c s
  | offerTimerExpiry c => exact execOfferTimerExpiry_keeps c s
  | holdTimerExpiry c => exact execHoldTimerExpiry_keeps c s
  | coalescingDelayExpiry p v => exact execCoalescingDelayExpiry_keeps p v s
  | writeTimeout e => exact execWriteTimeout_keeps e s
  | copyCompletion p => exact execCopyCompletion_keeps p s
  | landingJobStart p => exact execLandingJobStart_keeps p s
  | flushJobStart p => exact execFlushJobStart_keeps p s
  | signalJobStart p => exact execSignalJobStart_keeps p s
  | linkWriteOk a => exact execLinkWriteOk_keeps a s
  | landingCompletion a => exact execLandingCompletion_keeps a s
  | flushCompletion a => exact execFlushCompletion_keeps a s
  | signalCompletion a => exact execSignalCompletion_keeps a s
  | linkWriteError e => exact execLinkWriteError_keeps e s
  | _ => exact exec_slotCommand_keeps rfl s

/-- Every step keeps the laws. -/
theorem step_keeps {s t : State} (h : step s = .next t) : s.Keeps t := by
  unfold step at h
  split at h
  · cases h
    exact s.passTime_keeps
  · next i rest hpending =>
    obtain ⟨r, hr, hkeeps⟩ := exec_keeps i { s with pending := rest }
    rw [hr] at h
    cases h
    exact ((State.Keeps.refl s).others (r := { s with pending := rest }) rfl rfl).trans hkeeps

/-- Settles O6, by the relation between the states before and after each operation. -/
theorem everyStepKeepsThePoolLawful : Obligations.EveryStepKeepsThePoolLawful :=
  fun _ _ hs h => (step_keeps h).pool hs

/-- Settles O7, by the same relation: the segment store and each compose buffer on its own. -/
theorem everyStepKeepsMemoriesCanonical : Obligations.EveryStepKeepsMemoriesCanonical :=
  fun _ _ hs h => ⟨(step_keeps h).segments hs.1, fun p => (step_keeps h).compose p (hs.2 p)⟩

/-- Settles O8, by the same relation, port by port. -/
theorem everyStepKeepsNoticeUnitsLawful : Obligations.EveryStepKeepsNoticeUnitsLawful :=
  fun _ _ hs h p => (step_keeps h).notice p (hs p)

end Sys2Proof.Machine

/-! # Proofs: Port Writers and port states in step, compose buffers locked under a POST (O9) -/

namespace Sys2Proof.Machine

/-- The laws of O9 hold of every port. -/
def State.Controlled (s : State) : Prop := ∀ p, (s.port p).WriterLawful ∧ (s.port p).LockLawful

/-! ## The two laws of one port -/

/-- A STOPPED Port Writer of a port that is not ATTACHED, with no failure handed over, is lawful (R74). -/
theorem Port.writerLawful_stopped {b : Port} (hw : b.writer.state = .stopped) (hp : b.piu.state ≠ .attached) (hf : b.piu.faultHanded = false) :
    b.WriterLawful := by
  rw [Port.WriterLawful, hw]
  simp [hp, hf]

/-- An IDLE Port Writer of an ATTACHED port with no failure handed over is lawful (R74). -/
theorem Port.writerLawful_idle {b : Port} (hw : b.writer.state = .idle) (hp : b.piu.state = .attached) (hf : b.piu.faultHanded = false) :
    b.WriterLawful := by
  rw [Port.WriterLawful, hw]
  exact ⟨hp, hf⟩

/-- A Port Writer with a job, of an ATTACHED or QUIESCING port with no failure handed over, is lawful (R74). -/
theorem Port.writerLawful_busy {b : Port} {job : Job} (hw : b.writer.state = .busy job) (hp : b.piu.state = .attached ∨ b.piu.state = .quiescing)
    (hf : b.piu.faultHanded = false) : b.WriterLawful := by
  rw [Port.WriterLawful, hw]
  exact ⟨hp, hf⟩

/-- A STOPPED Port Writer whose failure is handed over, in an ATTACHED port, is lawful (R85). -/
theorem Port.writerLawful_handed {b : Port} (hw : b.writer.state = .stopped) (hp : b.piu.state = .attached) (hf : b.piu.faultHanded = true) :
    b.WriterLawful := by
  rw [Port.WriterLawful, hw]
  simp [hp, hf]

/-- A failure is handed over on an ATTACHED port with a STOPPED Port Writer only (R85). -/
theorem Port.WriterLawful.of_handed {b : Port} (h : b.WriterLawful) (hf : b.piu.faultHanded = true) :
    b.writer.state = .stopped ∧ b.piu.state = .attached := by
  rw [Port.WriterLawful] at h
  cases hw : b.writer.state with
  | stopped => rw [hw] at h; exact ⟨rfl, h.mpr hf⟩
  | idle => rw [hw] at h; exact absurd h.2 (by simp [hf])
  | busy job => rw [hw] at h; exact absurd h.2 (by simp [hf])

/-- No failure is handed over on a port that is not ATTACHED. -/
theorem Port.WriterLawful.not_handed {b : Port} (h : b.WriterLawful) (hp : b.piu.state ≠ .attached) : b.piu.faultHanded = false := by
  by_contra hf
  exact hp (h.of_handed (by simpa using hf)).2

/-- A Port Writer that is not STOPPED has handed over no failure. -/
theorem Port.WriterLawful.running {b : Port} (h : b.WriterLawful) (hw : b.writer.state ≠ .stopped) : b.piu.faultHanded = false := by
  by_contra hf
  exact hw (h.of_handed (by simpa using hf)).1

/-- A Port Writer without a job is STOPPED on a port that is not ATTACHED (R74). -/
theorem Port.WriterLawful.stopped {b : Port} (h : b.WriterLawful) (hp : b.piu.state ≠ .attached) (hw : b.writer.isBusy = false) :
    b.writer.state = .stopped := by
  rw [Port.WriterLawful] at h
  cases hb : b.writer.state with
  | stopped => rfl
  | idle => rw [hb] at h; exact absurd h.1 hp
  | busy job => rw [Writer.isBusy, hb] at hw; cases hw

/-- A port state that has no job in flight, under the law: every one but ATTACHED and QUIESCING (R74). -/
theorem Port.WriterLawful.not_busy {b : Port} (h : b.WriterLawful) (hp : b.piu.state ≠ .attached) (hq : b.piu.state ≠ .quiescing) :
    b.writer.isBusy = false := by
  rw [Port.WriterLawful] at h
  rw [Writer.isBusy]
  cases hb : b.writer.state with
  | stopped => rfl
  | idle => rfl
  | busy job => rw [hb] at h; exact absurd h.1 (by simp [hp, hq])

/-- An UNLOCKED buffer is lawful under any slot (R56). -/
theorem Port.lockLawful_unlocked {b : Port} (h : b.piu.copy = none) : b.LockLawful := fun hl => by simp [Piu.locked, h] at hl

/-- A slot that holds no POST has no copy in flight (R56). -/
theorem Port.LockLawful.unlocked {b : Port} (h : b.LockLawful) (hs : ¬ (b.piu.slot.busy = true ∧ b.piu.slot.kind = kindOf .post)) : b.piu.copy = none := by
  by_contra hc
  exact hs (h (Option.isSome_iff_ne_none.mpr hc))

/-- The law of the Port Writer sees port state, failure handed over and the state of the Port Writer. -/
theorem Port.WriterLawful.congr {b b' : Port} (h : b.WriterLawful) (hs : b'.piu.state = b.piu.state) (hf : b'.piu.faultHanded = b.piu.faultHanded)
    (hw : b'.writer.state = b.writer.state) : b'.WriterLawful := by
  rw [Port.WriterLawful, hs, hf, hw]
  exact h

/-- The law of the buffer sees the copy and the slot. -/
theorem Port.LockLawful.congr {b b' : Port} (h : b.LockLawful) (hc : b'.piu.copy = b.piu.copy) (hs : b'.piu.slot = b.piu.slot) : b'.LockLawful := by
  rw [Port.LockLawful, Piu.locked, hc, hs]
  exact h

/-! ## Changes of one port -/

section controlled

variable {s t : State}

theorem State.Controlled.writer (h : s.Controlled) (p : PortId) : (s.port p).WriterLawful := (h p).1

theorem State.Controlled.lock (h : s.Controlled) (p : PortId) : (s.port p).LockLawful := (h p).2

/-- An operation on nothing but Port Interface Unit and Port Writer of `p`, among the ports, keeps the laws when they hold of `p` after it. -/
theorem State.Controlled.change (h : s.Controlled) {p : PortId} (hpiu : ∀ q, q ≠ p → t.piu q = s.piu q) (hwriter : ∀ q, q ≠ p → t.writer q = s.writer q)
    (hp : (t.port p).WriterLawful ∧ (t.port p).LockLawful) : t.Controlled := by
  intro q
  by_cases hq : q = p
  · exact hq ▸ hp
  · have hu : (t.port q).piu = (s.port q).piu := hpiu q hq
    have hw : (t.port q).writer = (s.port q).writer := hwriter q hq
    exact ⟨(h.writer q).congr (by rw [hu]) (by rw [hu]) (by rw [hw]), (h.lock q).congr (by rw [hu]) (by rw [hu])⟩

/-- An operation on no Port Interface Unit and no Port Writer keeps the laws. -/
theorem State.Controlled.same (h : s.Controlled) (hpiu : ∀ q, t.piu q = s.piu q) (hwriter : ∀ q, t.writer q = s.writer q) : t.Controlled :=
  fun q => (h.change (p := q) (fun r _ => hpiu r) (fun r _ => hwriter r) <| by
    have hu : (t.port q).piu = (s.port q).piu := hpiu q
    have hw : (t.port q).writer = (s.port q).writer := hwriter q
    exact ⟨(h.writer q).congr (by rw [hu]) (by rw [hu]) (by rw [hw]), (h.lock q).congr (by rw [hu]) (by rw [hu])⟩) q

/-- A change of fields of a Port Interface Unit that the laws do not see. -/
theorem State.Controlled.modPiu (h : s.Controlled) {p : PortId} {f : Piu → Piu} (hs : (f (s.piu p)).state = (s.piu p).state)
    (hf : (f (s.piu p)).faultHanded = (s.piu p).faultHanded) (hlock : (f (s.piu p)).copy = none ∨
      ((f (s.piu p)).copy = (s.piu p).copy ∧ (f (s.piu p)).slot.busy = (s.piu p).slot.busy ∧ (f (s.piu p)).slot.kind = (s.piu p).slot.kind)) :
    (s.modPiu p f).Controlled := by
  have hp : ((s.modPiu p f).port p).piu = f (s.piu p) := by rw [State.port_piu, State.modPiu_piu, if_pos rfl]
  refine h.change (p := p) (fun q hq => by simp [hq]) (fun q _ => by simp) ⟨(h.writer p).congr ?_ ?_ ?_, ?_⟩
  · rw [hp]; exact hs
  · rw [hp]; exact hf
  · rw [State.port_writer, State.modPiu_writer]; rfl
  · rcases hlock with hnone | ⟨hcopy, hbusy, hkind⟩
    · exact Port.lockLawful_unlocked (by rw [hp]; exact hnone)
    · rw [Port.LockLawful, Piu.locked, hp, hcopy, hbusy, hkind]
      exact h.lock p

/-! ## Completions -/

/-- Between `s` and `t` no Port Writer changes, and of the Port Interface Units the laws can see a change in nothing but the slot of `p`. -/
structure State.SlotOnly (s t : State) (p : PortId) : Prop where
  port : ∀ q, (t.piu q).state = (s.piu q).state ∧ (t.piu q).faultHanded = (s.piu q).faultHanded ∧ (t.piu q).copy = (s.piu q).copy
  slot : ∀ q, q ≠ p → (t.piu q).slot = (s.piu q).slot
  writer : ∀ q, t.writer q = s.writer q

theorem State.SlotOnly.refl (s : State) (p : PortId) : s.SlotOnly s p := ⟨fun _ => ⟨rfl, rfl, rfl⟩, fun _ _ => rfl, fun _ => rfl⟩

variable {p : PortId}

/-- While `p` has no copy in flight its slot does not matter to the laws (R56). -/
theorem State.Controlled.slotOnly (h : s.Controlled) (ht : s.SlotOnly t p) (hcopy : (s.piu p).copy = none) : t.Controlled := by
  intro q
  obtain ⟨hstate, hhanded, hsame⟩ := ht.port q
  have hw : (t.port q).writer = (s.port q).writer := ht.writer q
  refine ⟨(h.writer q).congr hstate hhanded (by rw [hw]), ?_⟩
  by_cases hq : q = p
  · subst hq
    exact Port.lockLawful_unlocked (hsame.trans hcopy)
  · exact (h.lock q).congr hsame (ht.slot q hq)

theorem State.SlotOnly.same (h : s.SlotOnly t p) {r : State} (hpiu : ∀ q, r.piu q = t.piu q) (hwriter : ∀ q, r.writer q = t.writer q) : s.SlotOnly r p :=
  ⟨fun q => by rw [hpiu]; exact h.port q, fun q hq => by rw [hpiu]; exact h.slot q hq, fun q => by rw [hwriter]; exact h.writer q⟩

theorem State.SlotOnly.modPiu (h : s.SlotOnly t p) {f : Piu → Piu} (hs : (f (t.piu p)).state = (t.piu p).state)
    (hf : (f (t.piu p)).faultHanded = (t.piu p).faultHanded) (hc : (f (t.piu p)).copy = (t.piu p).copy) : s.SlotOnly (t.modPiu p f) p := by
  refine ⟨fun q => ?_, fun q hq => ?_, fun q => ?_⟩
  · rw [State.modPiu_piu]
    split
    · next hq => subst hq; rw [hs, hf, hc]; exact h.port q
    · exact h.port q
  · rw [State.modPiu_piu, if_neg hq]
    exact h.slot q hq
  · rw [State.modPiu_writer]
    exact h.writer q

/-- A completion reaches the slot alone (R165). -/
theorem State.SlotOnly.complete (h : s.SlotOnly t p) {status : Status} {results : Table Word 4} : s.SlotOnly (t.complete p status results) p := by
  refine ⟨fun q => ?_, fun q hq => ?_, fun q => ?_⟩
  · rw [State.complete_piu]
    split
    · next hq => subst hq; exact h.port q
    · exact h.port q
  · rw [State.complete_piu, if_neg hq]
    exact h.slot q hq
  · rw [State.complete_writer]
    exact h.writer q

theorem State.SlotOnly.refuse (h : s.SlotOnly t p) {status : Status} : s.SlotOnly (t.refuse p status) p := h.complete

theorem State.SlotOnly.finish (h : s.SlotOnly t p) : s.SlotOnly (t.finish p) p := h.complete

/-- The binding of a consumer slot of `p` changes a credit value of `p` (R25, R90). -/
theorem State.SlotOnly.bindConsumer (h : s.SlotOnly t p) {i : SlotId} {c : ChannelId} : s.SlotOnly (t.bindConsumer ⟨p, i⟩ c) p :=
  (h.same (r := t.modConsumerWord ⟨p, i⟩ fun _ => ⟨true, c, 0⟩) (fun q => by simp) fun q => by simp).modPiu rfl rfl rfl

theorem State.SlotOnly.setEntry (h : s.SlotOnly t p) {c : ChannelId} {e : Entry} : s.SlotOnly (t.setEntry c e) p :=
  h.same (fun _ => rfl) fun _ => rfl

theorem State.SlotOnly.modUse (h : s.SlotOnly t p) {c : ChannelId} {f : Use → Use} : s.SlotOnly (t.modUse c f) p :=
  h.same (fun _ => rfl) fun _ => rfl

theorem State.SlotOnly.portEvent (h : s.SlotOnly t p) {r : PortId} {kind : EventKind} {c : ChannelId} {detail : Half} :
    s.SlotOnly (t.portEvent r kind c detail) p :=
  h.same (fun q => by simp) fun q => by simp

theorem State.SlotOnly.tellParty (h : s.SlotOnly t p) {a : Option Party} {kind : EventKind} {qualifier : Byte} {c : ChannelId} {detail : Half} :
    s.SlotOnly (t.tellParty a kind qualifier c detail) p :=
  h.same (fun q => by simp) fun q => by simp

theorem State.SlotOnly.handWriteIndex (h : s.SlotOnly t p) {a : Option Party} {w : Half} : s.SlotOnly (t.handWriteIndex a w) p :=
  h.same (fun q => by simp) fun q => by simp

theorem State.SlotOnly.freeCheck (h : s.SlotOnly t p) {c : ChannelId} : s.SlotOnly (t.freeCheck c) p :=
  h.same (fun q => by simp) fun q => by simp

/-! ## The bodies of the commands -/

theorem offerBody_slotOnly (s : State) (p : PortId) : s.SlotOnly (offerBody p s) p := by
  unfold offerBody
  dsimp only
  split
  · exact (State.SlotOnly.refl s p).refuse
  · split
    · exact (State.SlotOnly.refl s p).refuse
    · unfold offerTake
      dsimp only
      split
      · exact ((State.SlotOnly.refl s p).same (fun q => by simp) fun q => by simp).complete
      · exact (State.SlotOnly.refl s p).setEntry.bindConsumer.portEvent.complete

theorem acceptBody_slotOnly (s : State) (p : PortId) : s.SlotOnly (acceptBody p s) p := by
  unfold acceptBody
  dsimp only
  split
  · exact (State.SlotOnly.refl s p).refuse
  · split
    · exact (State.SlotOnly.refl s p).refuse
    · unfold acceptTake acceptAsConsumer acceptAsProducer
      dsimp only
      split
      · exact (State.SlotOnly.refl s p).modUse.bindConsumer.tellParty.complete
      · refine ((State.SlotOnly.refl s p).same (fun q => ?_) fun q => ?_).complete
        · split <;> split <;> simp
        · split <;> split <;> simp

theorem declineBody_slotOnly (s : State) (p : PortId) : s.SlotOnly (declineBody p s) p := by
  unfold declineBody
  dsimp only
  split
  · exact (State.SlotOnly.refl s p).refuse
  · exact ((State.SlotOnly.refl s p).same (fun q => by simp) fun q => by simp).finish

theorem closeBody_slotOnly (s : State) (p : PortId) : s.SlotOnly (closeBody p s) p := by
  have closed : ∀ (r : State) (c : ChannelId), (∀ q, r.piu q = s.piu q) → (∀ q, r.writer q = s.writer q) → s.SlotOnly (r.finishClose p c) p :=
    fun r c hpiu hwriter => ((State.SlotOnly.refl s p).same hpiu hwriter).complete
  have refused : ∀ st, s.SlotOnly (s.refuse p st) p := fun st => (State.SlotOnly.refl s p).refuse
  unfold closeBody
  dsimp only
  split
  · exact refused _
  · split
    · unfold closeByParty
      split
      · split
        · exact closed _ _ (fun q => by simp) fun q => by simp
        · exact refused _
      · split
        · exact closed _ _ (fun q => by simp) fun q => by simp
        · exact closed _ _ (fun q => by simp) fun q => by simp
      · split
        · exact refused _
        · exact closed _ _ (fun q => by simp) fun q => by simp
      · exact refused _
      · exact closed _ _ (fun q => by simp) fun q => by simp
    · exact refused _

theorem landBody_slotOnly (s : State) (p : PortId) : s.SlotOnly (landBody p s) p := by
  unfold landBody
  dsimp only
  split
  · exact (State.SlotOnly.refl s p).refuse
  · next c u _ =>
    split
    · exact (State.SlotOnly.refl s p).refuse
    · unfold landTake
      cases u.consumer with
      | none => exact ((State.SlotOnly.refl s p).modUse.modPiu rfl rfl rfl).handWriteIndex.tellParty.complete
      | some q => exact ((State.SlotOnly.refl s p).modUse.modPiu rfl rfl rfl).handWriteIndex.tellParty.complete

theorem confirmBody_slotOnly (s : State) (p : PortId) : s.SlotOnly (confirmBody p s) p := by
  unfold confirmBody
  dsimp only
  split
  · exact (State.SlotOnly.refl s p).refuse
  · split
    · exact (State.SlotOnly.refl s p).refuse
    · exact ((State.SlotOnly.refl s p).same (fun q => by simp) fun q => by simp).complete

theorem queryBody_slotOnly (s : State) (p : PortId) : s.SlotOnly (queryBody p s) p := by
  unfold queryBody
  dsimp only
  split
  · exact (State.SlotOnly.refl s p).refuse
  · exact (State.SlotOnly.refl s p).complete

theorem readCountersBody_slotOnly (s : State) (p : PortId) : s.SlotOnly (readCountersBody p s) p := by
  unfold readCountersBody
  dsimp only
  split
  · exact (State.SlotOnly.refl s p).refuse
  · split
    · exact ((State.SlotOnly.refl s p).same (fun q => by simp) fun q => by simp).complete
    · exact (State.SlotOnly.refl s p).complete

theorem setVectorBody_slotOnly (s : State) (p : PortId) : s.SlotOnly (setVectorBody p s) p := by
  unfold setVectorBody
  dsimp only
  split
  · exact ((State.SlotOnly.refl s p).same (fun q => by simp) fun q => by simp).finish
  · exact (State.SlotOnly.refl s p).refuse

theorem retainBody_slotOnly (armed : Bool) (s : State) (p : PortId) : s.SlotOnly (retainBody armed p s) p :=
  ((State.SlotOnly.refl s p).modPiu rfl rfl rfl).finish

/-- The completion of a copy that was taken out of its buffer reaches the slot alone (R66, R67). -/
theorem State.completeCopy_slotOnly (s : State) (p : PortId) (r : RecordId) (rec : Record) : s.SlotOnly (s.completeCopy p r rec) p := by
  have refl := State.SlotOnly.refl s p
  unfold State.completeCopy
  dsimp only
  split
  · exact (refl.same (fun q => by simp) fun q => by simp).complete
  · split
    · exact (refl.same (fun q => by simp) fun q => by simp).complete
    · exact (refl.same (fun q => by simp) fun q => by simp).complete
    · exact (refl.same (fun q => by simp) fun q => by simp).complete
    · exact (refl.same (r := s.dropFill rec.channel r) (fun q => by simp) fun q => by simp).complete.freeCheck
    · exact (refl.same (fun q => by simp) fun q => by simp).complete

/-- An accepted POST locks the buffer under the slot that holds it (R61). -/
theorem postBody_controlled (h : s.Controlled) (hcopy : (s.piu p).copy = none) (hbusy : (s.piu p).slot.busy = true)
    (hkind : (s.piu p).slot.kind = kindOf .post) : (postBody p s).Controlled := by
  have refused : ∀ (r : State) (st : Status), (∀ q, r.piu q = s.piu q) → (∀ q, r.writer q = s.writer q) → (r.refuse p st).Controlled := fun r st hpiu hwriter =>
    h.slotOnly ((State.SlotOnly.refl s p).same hpiu hwriter).refuse hcopy
  unfold postBody
  dsimp only
  split
  · exact refused _ _ (fun _ => rfl) fun _ => rfl
  · split
    · exact refused _ _ (fun q => by simp) fun q => by simp
    · split
      · exact refused _ _ (fun q => by simp) fun q => by simp
      · next c _ _ _ _ _ r pool _ =>
        have hpiu : ∀ q, (postAccept s p c r pool).piu q = if q = p then { s.piu p with copy := some r } else s.piu q :=
          fun q => by simp [postAccept]
        refine h.change (p := p) (fun q hq => by rw [hpiu, if_neg hq]) (fun q _ => by simp) ⟨(h.writer p).congr ?_ ?_ ?_, fun _ => ?_⟩
        · rw [State.port_piu, hpiu, if_pos rfl]; rfl
        · rw [State.port_piu, hpiu, if_pos rfl]; rfl
        · rw [State.port_writer, postAccept_writer]; rfl
        · rw [State.port_piu, hpiu, if_pos rfl]
          exact ⟨hbusy, hkind⟩

end controlled

end Sys2Proof.Machine

namespace Sys2Proof.Machine

/-! ## Port Writers and port states -/

section controlled

variable {s : State} {p : PortId}

/-- A Port Writer and a Port Interface Unit of `p` replaced: the laws hold when they hold of the two. -/
theorem State.Controlled.setPort (h : s.Controlled) {b : Port} (hw : b.WriterLawful) (hl : b.LockLawful) : (s.setPort p b).Controlled := by
  have hport : ∀ q, q ≠ p → (s.setPort p b).port q = s.port q := fun q hq => by rw [State.setPort_port, if_neg hq]
  refine h.change (p := p) (fun q hq => ?_) (fun q hq => ?_) (by rw [State.setPort_self]; exact ⟨hw, hl⟩)
  · rw [State.piu, hport q hq]; rfl
  · rw [State.writer, hport q hq]; rfl

/-- A change of the Port Writer of `p` alone. -/
theorem State.Controlled.modWriter (h : s.Controlled) {f : Writer → Writer}
    (hw : ({ s.port p with writer := f (s.writer p) } : Port).WriterLawful) : (s.modWriter p f).Controlled :=
  h.setPort hw ((h.lock p).congr rfl rfl)

/-- A change of the requests that entries owe port `p`. -/
theorem State.Controlled.modPort (h : s.Controlled) {f : Port → Port} (hpiu : (f (s.port p)).piu = (s.port p).piu)
    (hwriter : (f (s.port p)).writer = (s.port p).writer) : (s.modPort p f).Controlled :=
  h.setPort ((h.writer p).congr (by rw [hpiu]) (by rw [hpiu]) (by rw [hwriter])) ((h.lock p).congr (by rw [hpiu]) (by rw [hpiu]))

/-- A change of a Notice Unit. -/
theorem State.Controlled.modNu (h : s.Controlled) {f : Nu → Nu} : (s.modNu p f).Controlled := h.modPort rfl rfl

/-- The state of a Port Writer whose port left ATTACHED: with a job it keeps it, without one it is STOPPED (R74). -/
theorem Writer.depart_state (w : Writer) : (∃ job, w.state = .busy job ∧ w.depart = w) ∨ (w.isBusy = false ∧ w.depart.state = .stopped) := by
  unfold Writer.depart Writer.isBusy
  cases hw : w.state with
  | stopped => exact .inr ⟨rfl, hw⟩
  | idle => exact .inr ⟨rfl, rfl⟩
  | busy job => exact .inl ⟨job, rfl, rfl⟩

/-- A port leaves ATTACHED lawfully: with a job in flight for QUIESCING only (R74, R147). -/
theorem State.Controlled.departAttached (h : s.Controlled) {next : PortState} (hnext : next ≠ .attached)
    (hbusy : next = .quiescing ∨ (s.writer p).isBusy = false) : (s.departAttached p next).Controlled := by
  rw [State.departAttached_eq]
  refine h.setPort ?_ ((h.lock p).congr rfl rfl)
  rcases Writer.depart_state (s.port p).writer with ⟨job, hjob, hsame⟩ | ⟨_, hstopped⟩
  · refine Port.writerLawful_busy (job := job) ((congrArg Writer.state hsame).trans hjob) (.inr (hbusy.resolve_right fun hb => ?_)) rfl
    rw [State.writer, Writer.isBusy, hjob] at hb
    cases hb
  · exact Port.writerLawful_stopped hstopped hnext rfl

/-- Taking a failure that was handed over makes the port FAULTED with its Port Writer STOPPED (R85, R157). -/
theorem State.Controlled.takeFault (h : s.Controlled) : (s.takeFault p).Controlled := by
  unfold State.takeFault
  split
  · next hf =>
    have hstopped := ((h.writer p).of_handed hf).1
    refine (State.Controlled.modNu (h.departAttached (by decide) (.inr ?_))).modPort rfl rfl
    rw [State.writer, Writer.isBusy, hstopped]
  · exact h

/-- After a failure that was handed over has been taken none is handed over. -/
theorem State.takeFault_faultHanded (s : State) (p : PortId) : ((s.takeFault p).piu p).faultHanded = false := by
  unfold State.takeFault
  split
  · rw [(s.faultPort_blocks p p).1, if_pos rfl]
  · next hf => simpa using hf

/-- Step 4 of R148 is not a POST's completion: the slot holds a DETACH (R56). -/
theorem State.Controlled.finishDetach (h : s.Controlled) : (s.finishDetach p).Controlled := by
  unfold State.finishDetach
  split
  · next hslot =>
    refine h.slotOnly (State.SlotOnly.refl s p).finish ((h.lock p).unlocked fun hpost => ?_)
    exact absurd (hslot.2.symm.trans hpost.2) (by decide)
  · exact h

/-- The end of the quiesce on a port that is not ATTACHED and whose Port Writer has no job keeps the laws (R148). -/
theorem State.Controlled.quiesceEnd (h : s.Controlled) (hp : (s.piu p).state ≠ .attached) (hw : (s.writer p).isBusy = false) (mode : DetachMode) :
    (s.quiesceEnd p mode).Controlled := by
  have left : ((s.modPiu p fun u => u.leave mode).modNu p fun nu => nu.leave mode).Controlled := by
    rw [State.leave_eq]
    refine h.setPort (Port.writerLawful_stopped ((h.writer p).stopped hp hw) ?_ ?_) ((h.lock p).congr ?_ ?_)
    · cases mode <;> simp [Port.leave, Piu.leave]
    · cases mode <;> exact (h.writer p).not_handed hp
    · cases mode <;> rfl
    · cases mode <;> rfl
  exact State.Controlled.same (State.Controlled.finishDetach left) (fun q => State.oweDetachment_piu _ _ q _) fun q => State.oweDetachment_writer _ _ q _

theorem State.Controlled.settle (h : s.Controlled) : (s.settle p).Controlled := by
  unfold State.settle
  split
  · exact h
  · next hwait =>
    split
    · next hstate =>
      split
      · exact h
      · refine h.quiesceEnd (fun ha => ?_) ?_ _
        · simp [ha] at hstate
        · simpa using fun hb => hwait (.inr hb)
    · exact h

/-! ## Jobs -/

/-- A job starts on an IDLE Port Writer (R74, R75). -/
theorem State.Controlled.startJob (h : s.Controlled) (hidle : (s.writer p).state = .idle) (kind : JobKind) (writes : List LinkWrite) :
    (s.startJob p kind writes).Controlled := by
  have hlaw := h.writer p
  rw [Port.WriterLawful, State.port_writer, hidle] at hlaw
  exact h.modWriter (Port.writerLawful_busy rfl (.inl hlaw.1) hlaw.2)

/-- A Port Writer may start a job when it is IDLE and its port ATTACHED (R74, R76). -/
theorem State.mayStart_iff (s : State) (p : PortId) : s.mayStart p = true ↔ (s.writer p).state = .idle ∧ (s.piu p).state = .attached := by
  simp [State.mayStart, State.attached]

/-- A Port Writer whose job completed is IDLE or STOPPED as its port is ATTACHED or not (R74, R87). -/
theorem State.Controlled.releaseWriter (h : s.Controlled) (hf : (s.piu p).faultHanded = false) : (s.releaseWriter p).Controlled := by
  refine h.modWriter ?_
  by_cases ha : (s.piu p).state = .attached
  · exact Port.writerLawful_idle (by simp [State.attached, ha]) ha hf
  · exact Port.writerLawful_stopped (by simp [State.attached, ha]) ha hf

/-- The completion of the job in flight keeps the laws (R75, R148). -/
theorem State.Controlled.completeJob (h : s.Controlled) (hf : (s.piu p).faultHanded = false) (kind : JobKind) : (s.completeJob p kind).Controlled := by
  have worked : (s.completeWork p kind).Controlled := h.same (fun q => by simp) fun q => by simp
  exact (worked.releaseWriter (by rw [State.completeWork_piu]; exact hf)).settle

/-- A job in flight means that no failure is handed over. -/
theorem State.Controlled.handed_of_busy (h : s.Controlled) {job : Job} (hw : (s.writer p).state = .busy job) : (s.piu p).faultHanded = false :=
  (h.writer p).running (by rw [State.port_writer, hw]; exact WriterState.noConfusion)

/-- The job's failure, by ERROR or timeout, keeps the laws: the failure is handed over on an ATTACHED port, and a quiesce ends otherwise (R85, R87). -/
theorem State.Controlled.failJob (h : s.Controlled) (kind : FaultKind) (job : Job) {j : Job} (hw : (s.writer p).state = .busy j) :
    (s.failJob p kind job).Controlled := by
  have hf := h.handed_of_busy hw
  set s1 := (s.modWriter p fun w =>
    { w with state := .stopped, faultKind := kind, faultAddress := (job.writes.head?.map fun x => x.address).getD 0 }).failWork job.kind with hs1
  have hpiu : ∀ q, s1.piu q = s.piu q := fun q => by simp [hs1]
  have hstopped : (s1.writer p).state = .stopped := by simp [hs1]
  have hothers : ∀ q, q ≠ p → s1.writer q = s.writer q := fun q hq => by simp [hs1, hq]
  have hlock : ∀ {t : State}, (t.piu p).copy = (s.piu p).copy → (t.piu p).slot = (s.piu p).slot → (t.port p).LockLawful :=
    fun hc hs => (h.lock p).congr hc hs
  show State.Controlled (if s1.attached p then s1.modPiu p fun u => { u with faultHanded := true } else s1.settle p)
  split
  · next ha =>
    have ha' : (s.piu p).state = .attached := by simpa [State.attached, hpiu] using ha
    refine h.change (p := p) (fun q hq => by simp [hq, hpiu]) (fun q hq => by simp [hothers q hq]) ⟨Port.writerLawful_handed ?_ ?_ ?_, hlock ?_ ?_⟩
    · rw [State.port_writer, State.modPiu_writer]; exact hstopped
    · rw [State.port_piu, State.modPiu_piu, if_pos rfl, hpiu]; exact ha'
    · rw [State.port_piu, State.modPiu_piu, if_pos rfl]
    · simp [hpiu]
    · simp [hpiu]
  · next ha =>
    have ha' : (s.piu p).state ≠ .attached := by simpa [State.attached, hpiu] using ha
    have stopped : s1.Controlled := by
      refine h.change (p := p) (fun q _ => hpiu q) hothers ⟨Port.writerLawful_stopped hstopped ?_ ?_, hlock ?_ ?_⟩
      · rw [State.port_piu, hpiu]; exact ha'
      · rw [State.port_piu, hpiu]; exact hf
      · rw [hpiu]
      · rw [hpiu]
    exact stopped.settle

theorem State.Controlled.answerOk (h : s.Controlled) {job : Job} (hw : (s.writer p).state = .busy job) : (s.answerOk p job).Controlled := by
  have hf := h.handed_of_busy hw
  unfold State.answerOk
  split
  · have hlaw := h.writer p
    rw [Port.WriterLawful, State.port_writer, hw] at hlaw
    exact h.modWriter (Port.writerLawful_busy rfl hlaw.1 hf)
  · exact h.completeJob hf _

theorem State.Controlled.answerError (h : s.Controlled) (k : Nat) : (s.answerError p k).Controlled := by
  unfold State.answerError
  split
  · exact h
  · next job hjob => exact h.failJob _ _ ((Writer.jobNamed_iff _ _ _).mp hjob).1

theorem State.Controlled.timeOut (h : s.Controlled) : (s.timeOut p).Controlled := by
  unfold State.timeOut
  split
  · exact h
  · exact h
  · next job hjob =>
    split
    · exact h.failJob _ _ hjob
    · exact h

/-- A job that an answer to its last write completes is in flight. -/
theorem Writer.lastWriteOf_busy {w : Writer} {k : Nat} {kind : JobKind} (h : w.lastWriteOf k = some kind) : ∃ job, w.state = .busy job := by
  unfold Writer.lastWriteOf at h
  split at h
  · cases h
  · next job hjob => exact ⟨job, ((Writer.jobNamed_iff _ _ _).mp hjob).1⟩

/-- The completion of a job that is answered its last write keeps the laws. -/
theorem State.Controlled.completeAnswered (h : s.Controlled) {k : Nat} {kind : JobKind} (hk : (s.writer p).lastWriteOf k = some kind) :
    (s.completeJob p kind).Controlled := by
  obtain ⟨job, hjob⟩ := Writer.lastWriteOf_busy hk
  exact h.completeJob (h.handed_of_busy hjob) kind

/-! ## Attachment and detachment -/

/-- A completion on a port with no copy in flight keeps the laws. -/
theorem State.Controlled.complete (h : s.Controlled) (hcopy : (s.piu p).copy = none) {status : Status} {results : Table Word 4} :
    (s.complete p status results).Controlled :=
  h.slotOnly (State.SlotOnly.refl s p).complete hcopy

/-- ATTACH of a port that is not ATTACHED, its slot not holding a POST's copy (R145). -/
theorem attachBody_controlled (h : s.Controlled) (hcopy : (s.piu p).copy = none) (hp : (s.piu p).state ≠ .attached) : (attachBody p s).Controlled := by
  have refused : ∀ st, (s.refuse p st).Controlled := fun st => h.slotOnly (State.SlotOnly.refl s p).refuse hcopy
  unfold attachBody
  dsimp only
  split
  · exact refused _
  · split
    · exact refused _
    · split
      · exact refused _
      · next g _ =>
        have attached : (s.modPort p fun b => b.attach ((s.args p).read 0) g (bits ((s.args p).read 1) 15 8 = 1)).Controlled :=
          h.setPort (Port.writerLawful_idle rfl rfl ((h.writer p).not_handed hp)) (Port.lockLawful_unlocked hcopy)
        rw [attachTake_eq]
        refine attached.complete ?_
        rw [State.piu, State.modPort_port, if_pos rfl]
        exact hcopy

/-- DETACH, its slot not holding a POST's copy (R147). -/
theorem detachBody_controlled (h : s.Controlled) (hcopy : (s.piu p).copy = none) : (detachBody p s).Controlled := by
  unfold detachBody
  split
  · exact h.slotOnly (State.SlotOnly.refl s p).refuse hcopy
  · have faulted : (s.takeFault p).Controlled := h.takeFault
    have hcopy' : ((s.takeFault p).piu p).copy = none := by
      unfold State.takeFault
      split
      · rw [(s.faultPort_blocks p p).1, if_pos rfl]
        exact hcopy
      · exact hcopy
    have answered : ∀ t, (s.takeFault p).SlotOnly t p → t.Controlled := fun t ht => faulted.slotOnly ht hcopy'
    have refl := State.SlotOnly.refl (s.takeFault p) p
    unfold detachTake detachByState
    split
    · exact ((faulted.modPiu rfl rfl (.inl hcopy')).departAttached (by decide) (.inl rfl)).settle
    · next hstate =>
      split
      · exact answered _ refl.finish
      · exact faulted.quiesceEnd (by simp [hstate]) ((faulted.writer p).not_busy (by simp [State.port_piu, hstate]) (by simp [State.port_piu, hstate])) _
    · next hstate =>
      exact faulted.quiesceEnd (by simp [hstate]) ((faulted.writer p).not_busy (by simp [State.port_piu, hstate]) (by simp [State.port_piu, hstate])) _
    · exact answered _ refl.refuse
    · exact answered _ refl.refuse

/-! ## Resets -/

/-- Abandonment leaves no copy in flight, and of the Port Interface Units changes nothing else (R69). -/
theorem State.abandonCopy_piu (s : State) (p q : PortId) : (s.abandonCopy p).piu q = if q = p then { s.piu p with copy := none } else s.piu q := by
  unfold State.abandonCopy
  split
  · next hc =>
    split
    · next hq => rw [hq, ← hc]
    · rfl
  · dsimp only
    split
    · simp
    · split <;> simp

/-- Steps 2 to 4 of R154 on a port that is not ATTACHED keep the laws: its Port Writer is STOPPED and its buffer UNLOCKED. -/
theorem State.Controlled.resetPortWork (h : s.Controlled) (hp : (s.piu p).state ≠ .attached) : (s.resetPortWork p).Controlled := by
  have hwriter : ∀ q, (s.resetPortWork p).writer q = if q = p then { s.writer p with state := .stopped } else s.writer q := by
    intro q
    unfold State.resetPortWork State.endJob
    dsimp only
    split <;> simp
  have hpiu : ∀ q, (s.resetPortWork p).piu q = if q = p then { (s.piu p).clear with copy := none } else s.piu q := by
    intro q
    unfold State.resetPortWork
    by_cases hq : q = p <;> simp [hq, State.abandonCopy_piu, Piu.clear]
  refine h.change (p := p) (fun q hq => by rw [hpiu, if_neg hq]) (fun q hq => by rw [hwriter, if_neg hq])
    ⟨Port.writerLawful_stopped ?_ ?_ ?_, Port.lockLawful_unlocked ?_⟩
  · rw [State.port_writer, hwriter, if_pos rfl]
  · rw [State.port_piu, hpiu, if_pos rfl]; exact hp
  · rw [State.port_piu, hpiu, if_pos rfl]; exact (h.writer p).not_handed hp
  · rw [State.port_piu, hpiu, if_pos rfl]

theorem State.Controlled.takePortReset (h : s.Controlled) : (s.takePortReset p).Controlled := by
  have faulted : (s.takeFault p).Controlled := h.takeFault
  have decided : ∀ m, ((s.takeFault p).modPiu p fun u => { u with leaveMode := m }).Controlled :=
    fun m => faulted.modPiu rfl rfl (.inr ⟨rfl, rfl, rfl⟩)
  unfold State.takePortReset State.resetByState
  dsimp only
  split
  · refine State.Controlled.resetPortWork ((decided _).departAttached (by decide) (.inl rfl)) ?_
    simp
  · next hstate => exact (decided _).resetPortWork (by simp [hstate])
  · next hstate => exact (decided _).resetPortWork (by simp [hstate])
  · next hstate => exact faulted.resetPortWork (by simp [hstate])
  · next hstate => exact faulted.resetPortWork (by simp [hstate])

theorem State.Controlled.takeHeldResets (h : s.Controlled) (ps : List PortId) : (s.takeHeldResets ps).Controlled := by
  induction ps generalizing s with
  | nil => exact h
  | cons p ps ih =>
    refine ih ?_
    split
    · exact h.takePortReset
    · exact h

end controlled

end Sys2Proof.Machine

namespace Sys2Proof.Machine

/-! ## Device reset, time and commands -/

section controlled

variable {s : State}

/-- Device reset stops every Port Writer and unlocks every buffer (R95, R169). -/
theorem execDeviceReset_controlled (s : State) : ∃ t, execDeviceReset s = .next t ∧ t.Controlled := by
  refine ⟨_, rfl, fun p => ?_⟩
  rw [State.port, Table.read_build]
  exact ⟨Port.writerLawful_stopped rfl PortState.noConfusion rfl, Port.lockLawful_unlocked rfl⟩

/-- A change of every running timer keeps the laws: a job stays a job (R177). -/
theorem State.Controlled.mapTimers (h : s.Controlled) (f : Timer → Timer) : (s.mapTimers f).Controlled := by
  intro p
  have hport : (s.mapTimers f).port p = { s.port p with writer := (s.port p).writer.mapTimer f, nu := (s.port p).nu.mapTimers f } := by
    simp [State.mapTimers, State.port]
  rw [hport]
  refine ⟨?_, (h.lock p).congr rfl rfl⟩
  have hlaw := h.writer p
  unfold Port.WriterLawful at hlaw ⊢
  cases hw : (s.port p).writer.state with
  | stopped => simpa [Writer.mapTimer, hw] using hlaw
  | idle => simpa [Writer.mapTimer, hw] using hlaw
  | busy job => simpa [Writer.mapTimer, hw] using hlaw

theorem State.Controlled.passTime (h : s.Controlled) : s.passTime.Controlled := by
  by_cases hdue : s.overdue = []
  · rw [State.passTime_calm hdue]
    split
    · exact (h.mapTimers Timer.pass).same (fun _ => rfl) fun _ => rfl
    · exact (h.mapTimers Timer.tick).same (fun _ => rfl) fun _ => rfl
  · rw [State.passTime_due hdue]
    exact h.same (fun _ => rfl) fun _ => rfl

/-- The body of an admitted command on the state with the slot latched: a POST may lock the buffer, no other command does (R56, R162). -/
theorem commandBody_controlled (h : s.Controlled) {p : PortId} {c : Command} (ha : admits (s.piu p).state c = true) (hcopy : (s.piu p).copy = none)
    (hbusy : (s.piu p).slot.busy = true) (hkind : (s.piu p).slot.kind = kindOf c) : (commandBody p c s).Controlled := by
  cases c with
  | offer => exact h.slotOnly (offerBody_slotOnly s p) hcopy
  | accept => exact h.slotOnly (acceptBody_slotOnly s p) hcopy
  | decline => exact h.slotOnly (declineBody_slotOnly s p) hcopy
  | close => exact h.slotOnly (closeBody_slotOnly s p) hcopy
  | post => exact postBody_controlled h hcopy hbusy hkind
  | land => exact h.slotOnly (landBody_slotOnly s p) hcopy
  | confirm => exact h.slotOnly (confirmBody_slotOnly s p) hcopy
  | query => exact h.slotOnly (queryBody_slotOnly s p) hcopy
  | readCounters => exact h.slotOnly (readCountersBody_slotOnly s p) hcopy
  | setVector => exact h.slotOnly (setVectorBody_slotOnly s p) hcopy
  | attach => exact attachBody_controlled h hcopy fun hp => by simp [hp, admits] at ha
  | detach => exact detachBody_controlled h hcopy
  | armRetain => exact h.slotOnly (retainBody_slotOnly true s p) hcopy
  | disarmRetain => exact h.slotOnly (retainBody_slotOnly false s p) hcopy

/-- A write of the command word: an IDLE slot has no copy in flight, so a command is taken over an UNLOCKED buffer (R56, R162). -/
theorem State.Controlled.takeCommand (h : s.Controlled) {p : PortId} {kind : Byte} {notify : Bool} {body : State → State}
    (hbody : ∀ c, commandOfKind kind.toNat = some c → kind = kindOf c ∧ body = commandBody p c) : (s.takeCommand p kind notify body).Controlled := by
  have unlocked : (s.piu p).slot.busy = false → (s.piu p).copy = none := fun hidle =>
    (h.lock p).unlocked fun hpost => by rw [State.port_piu, hidle] at hpost; exact Bool.noConfusion hpost.1
  have latched : (s.piu p).slot.busy = false → (s.modPiu p fun u => u.latch kind notify).Controlled := fun hidle =>
    h.modPiu rfl rfl (.inl (unlocked hidle))
  have hcopy : (s.piu p).slot.busy = false → ((s.modPiu p fun u => u.latch kind notify).piu p).copy = none := fun hidle => by
    rw [State.modPiu_piu, if_pos rfl]
    exact unlocked hidle
  refine State.takeCommand_cases s p kind notify body h (fun _ => ?_) (fun hidle st => ?_) fun c hc ha _ hidle => ?_
  · exact h.modPiu rfl rfl (.inr ⟨rfl, rfl, rfl⟩)
  · exact (latched hidle).slotOnly (State.SlotOnly.refl _ p).refuse (hcopy hidle)
  · obtain ⟨hkind, rfl⟩ := hbody c hc
    refine commandBody_controlled (latched hidle) ?_ (hcopy hidle) ?_ ?_
    · rw [State.latch_state]; exact ha
    · simp
    · simp [hkind]

/-- A kind that names a command is the kind of that command. -/
theorem kindOf_commandOfKind {kind : Byte} {c : Command} (h : commandOfKind kind.toNat = some c) : kind = kindOf c := by
  have hkind : kind.toNat = (kindOf c).toNat := by
    unfold commandOfKind at h
    split at h <;> simp_all [kindOf]
    all_goals (subst h; rfl)
  exact BitVec.eq_of_toNat_eq hkind

theorem State.Controlled.commandWordWrite (h : s.Controlled) {p : PortId} {kind : Byte} {notify : Bool} :
    (s.commandWordWrite p kind notify).Controlled :=
  h.takeCommand fun c hc => ⟨kindOf_commandOfKind hc, by funext r; rw [kindBody, hc]⟩

/-- A row of the fourteen commands keeps the laws. -/
theorem exec_slotCommand_controlled (h : s.Controlled) {i : Instr} {p : PortId} {c : Command} {n : Bool} (hi : slotCommand i = some (p, c, n)) :
    ∃ t, exec i s = .next t ∧ t.Controlled := by
  refine ⟨_, exec_slotCommand hi s, h.takeCommand fun d hd => ?_⟩
  rw [commandOfKind_kindOf, Option.some.injEq] at hd
  exact ⟨by rw [hd], by rw [hd]⟩

/-! ## Window writes -/

theorem State.Controlled.composeWrite (h : s.Controlled) {p : PortId} {k : Fin 256} {w : Word} : (s.composeWrite p k w).Controlled := by
  unfold State.composeWrite
  split
  · exact h
  · refine h.modPiu ?_ ?_ (.inr ⟨?_, ?_, ?_⟩)
    all_goals (split <;> rfl)

theorem State.Controlled.creditWrite (h : s.Controlled) {p : PortId} {i : SlotId} {w : Word} : (s.creditWrite p i w).Controlled := by
  unfold State.creditWrite
  split
  · exact h
  · split
    · exact h
    · next c _ =>
      split
      · exact h
      · split
        · unfold State.takeCredit
          split
          · exact State.Controlled.modPiu (h.same (t := s.modUse c _) (fun _ => rfl) fun _ => rfl) rfl rfl (.inr ⟨rfl, rfl, rfl⟩)
          · exact h.same (fun q => by simp) fun q => by simp
        · exact h

theorem State.Controlled.countVector (h : s.Controlled) {p : PortId} {v : VectorId} : (s.countVector p v).Controlled :=
  h.same (fun q => by simp) fun q => by simp

theorem State.Controlled.eventReadWrite (h : s.Controlled) {p : PortId} {w : Word} : (s.eventReadWrite p w).Controlled := by
  have moved : ∀ b, (s.modPiu p fun u => { u with eventRead := b }).Controlled := fun b => h.modPiu rfl rfl (.inr ⟨rfl, rfl, rfl⟩)
  unfold State.eventReadWrite State.takeReadIndex
  dsimp only
  split
  · exact h
  · split
    · exact h
    · split
      · split
        · exact (moved _).countVector
        · exact moved _
      · exact h

theorem State.Controlled.argumentWrite (h : s.Controlled) {p : PortId} {k : Fin 8} {w : Word} : (s.argumentWrite p k w).Controlled := by
  unfold State.argumentWrite
  split
  · exact h
  · exact h.modPiu rfl rfl (.inr ⟨rfl, rfl, rfl⟩)

theorem State.Controlled.windowWrite (h : s.Controlled) {p : PortId} {size : AccessSize} {offset : BitVec 13} {w : Word} :
    (s.windowWrite p size offset w).Controlled := by
  unfold State.windowWrite
  split
  · exact h.composeWrite
  · exact h.commandWordWrite
  · exact h
  · exact h
  · exact h.argumentWrite
  · exact h.creditWrite
  · exact h.eventReadWrite
  · exact h.same (fun q => by simp) fun q => by simp
  · exact h
  · exact h
  · exact h
  · exact h

/-! ## The rows of the device's own -/

theorem execCopyCompletion_controlled (h : s.Controlled) (p : PortId) : ∃ t, execCopyCompletion p s = .next t ∧ t.Controlled := by
  refine ⟨_, rfl, ?_⟩
  split
  · exact h
  · split
    · exact h.modPiu rfl rfl (.inl rfl)
    · next rec _ =>
      have copied : (s.copyPayload p rec (64 * segmentCount rec.length)).Controlled := h.same (fun _ => rfl) fun _ => rfl
      exact (copied.modPiu rfl rfl (.inl rfl)).slotOnly (State.completeCopy_slotOnly _ _ _ _) (by simp)

theorem execDetachmentOnEntry_controlled (h : s.Controlled) (p : PortId) (c : ChannelId) :
    ∃ t, execDetachmentOnEntry p c s = .next t ∧ t.Controlled := by
  refine ⟨_, rfl, ?_⟩
  have taken : (s.modPort p fun b => { b with flushOwed := b.flushOwed.erase c }).Controlled := h.modPort rfl rfl
  split
  · dsimp only
    split
    · exact taken
    · split
      · exact taken.same (fun q => by simp) fun q => by simp
      · exact taken
  · exact h

theorem execRequeue_controlled (h : s.Controlled) (p : PortId) (c : ChannelId) : ∃ t, execRequeue p c s = .next t ∧ t.Controlled := by
  refine ⟨_, rfl, ?_⟩
  have taken : (s.modPort p fun b => { b with requeueOwed := b.requeueOwed.erase c }).Controlled := h.modPort rfl rfl
  split
  · exact taken.same (fun q => by simp) fun q => by simp
  · exact h

theorem execPoolHoldRequest_controlled (h : s.Controlled) (c : ChannelId) : ∃ t, execPoolHoldRequest c s = .next t ∧ t.Controlled := by
  refine ⟨_, rfl, ?_⟩
  split
  · exact h.same (fun q => by simp) fun q => by simp
  · exact h

theorem execPoolRetest_controlled (h : s.Controlled) (c : ChannelId) : ∃ t, execPoolRetest c s = .next t ∧ t.Controlled := by
  refine ⟨_, rfl, ?_⟩
  split
  · exact h.same (fun q => by simp) fun q => by simp
  · exact h

theorem execOfferTimerExpiry_controlled (h : s.Controlled) (c : ChannelId) : ∃ t, execOfferTimerExpiry c s = .next t ∧ t.Controlled := by
  refine ⟨_, rfl, ?_⟩
  split
  · exact h
  · split
    · split
      · exact h.same (fun q => by simp) fun q => by simp
      · exact h
    all_goals exact h

theorem execHoldTimerExpiry_controlled (h : s.Controlled) (c : ChannelId) : ∃ t, execHoldTimerExpiry c s = .next t ∧ t.Controlled := by
  refine ⟨_, rfl, ?_⟩
  split
  · exact h
  · split
    · exact h.same (fun q => by simp) fun q => by simp
    · exact h

theorem execCoalescingDelayExpiry_controlled (h : s.Controlled) (p : PortId) (v : VectorId) :
    ∃ t, execCoalescingDelayExpiry p v s = .next t ∧ t.Controlled := by
  refine ⟨_, rfl, ?_⟩
  split
  · exact h.modNu
  · exact h

/-- The start of a landing changes records and a round-robin pointer beside the Port Writer (R77, R79). -/
theorem State.Controlled.startLanding (h : s.Controlled) {p : PortId} (hidle : (s.writer p).state = .idle) (k : Fin 4) (c : ChannelId) :
    (s.startLanding p k c).Controlled := by
  unfold State.startLanding
  split
  · exact h
  · split
    · next r _ ring _ _ =>
      split
      · exact h
      · have marked : ((s.pointAt p k c).modRecord r fun rec => { rec with state := .landing }).Controlled := h.same (fun _ => rfl) fun _ => rfl
        exact marked.startJob hidle _ _
    · exact h

theorem execLandingJobStart_controlled (h : s.Controlled) (p : PortId) : ∃ t, execLandingJobStart p s = .next t ∧ t.Controlled := by
  refine ⟨_, rfl, ?_⟩
  split
  · next hmay =>
    split
    · exact h
    · exact h.startLanding ((State.mayStart_iff s p).mp hmay.1).1 _ _
  · exact h

theorem execFlushJobStart_controlled (h : s.Controlled) (p : PortId) : ∃ t, execFlushJobStart p s = .next t ∧ t.Controlled := by
  refine ⟨_, rfl, ?_⟩
  split
  · next hmay =>
    exact State.Controlled.startJob h.modNu (by rw [State.modNu_writer]; exact ((State.mayStart_iff s p).mp hmay.1).1) _ _
  · exact h

theorem execSignalJobStart_controlled (h : s.Controlled) (p : PortId) : ∃ t, execSignalJobStart p s = .next t ∧ t.Controlled := by
  refine ⟨_, rfl, ?_⟩
  split
  · next hmay =>
    split
    · exact h
    · unfold State.startSignal
      split
      · exact h.modNu
      · exact h.modNu
      · exact h.startJob ((State.mayStart_iff s p).mp hmay).1 _ _
  · exact h

theorem execLinkWriteOk_controlled (h : s.Controlled) (a : LinkAnswer) : ∃ t, execLinkWriteOk a s = .next t ∧ t.Controlled := by
  refine ⟨_, rfl, ?_⟩
  split
  · exact h
  · next job hjob => exact h.answerOk ((Writer.jobNamed_iff _ _ _).mp hjob).1

theorem execLandingCompletion_controlled (h : s.Controlled) (a : LinkAnswer) : ∃ t, execLandingCompletion a s = .next t ∧ t.Controlled := by
  refine ⟨_, rfl, ?_⟩
  split
  · next hk => exact h.completeAnswered hk
  · exact h

theorem execFlushCompletion_controlled (h : s.Controlled) (a : LinkAnswer) : ∃ t, execFlushCompletion a s = .next t ∧ t.Controlled := by
  refine ⟨_, rfl, ?_⟩
  split
  · next hk => exact h.completeAnswered hk
  · exact h

theorem execSignalCompletion_controlled (h : s.Controlled) (a : LinkAnswer) : ∃ t, execSignalCompletion a s = .next t ∧ t.Controlled := by
  refine ⟨_, rfl, ?_⟩
  split
  · next hk => exact h.completeAnswered hk
  · exact h

theorem execLinkWriteError_controlled (h : s.Controlled) (e : LinkError) : ∃ t, execLinkWriteError e s = .next t ∧ t.Controlled := by
  refine ⟨_, rfl, ?_⟩
  split
  · exact (h.answerError e.job).takeFault
  · exact h.answerError e.job

theorem execWriteTimeout_controlled (h : s.Controlled) (e : LinkTimeout) : ∃ t, execWriteTimeout e s = .next t ∧ t.Controlled := by
  refine ⟨_, rfl, ?_⟩
  split
  · exact h.timeOut.takeFault
  · exact h.timeOut

theorem execPortReset_controlled (h : s.Controlled) (p : PortId) : ∃ t, execPortReset p s = .next t ∧ t.Controlled := by
  refine ⟨_, rfl, ?_⟩
  have asserted : (s.modPiu p fun u => { u with resetPin := true }).Controlled := h.modPiu rfl rfl (.inr ⟨rfl, rfl, rfl⟩)
  split
  · exact asserted
  · split
    · exact h
    · exact asserted.takePortReset

theorem execPortResetRelease_controlled (h : s.Controlled) (p : PortId) : ∃ t, execPortResetRelease p s = .next t ∧ t.Controlled := by
  refine ⟨_, rfl, ?_⟩
  have released : (s.modPiu p fun u => { u with resetPin := false }).Controlled := h.modPiu rfl rfl (.inr ⟨rfl, rfl, rfl⟩)
  split
  · exact released
  · split
    · exact released.settle
    · exact h

theorem execDeviceResetRelease_controlled (h : s.Controlled) : ∃ t, execDeviceResetRelease s = .next t ∧ t.Controlled := by
  refine ⟨_, rfl, ?_⟩
  have released : ({ s with resetPin := false } : State).Controlled := h.same (fun _ => rfl) fun _ => rfl
  split
  · exact released.takeHeldResets allPorts
  · exact h

/-- Every command keeps the laws of Port Writers and compose buffers. -/
theorem exec_controlled (h : s.Controlled) (i : Instr) : ∃ t, exec i s = .next t ∧ t.Controlled := by
  cases i with
  | composeBufferWrite p k w => exact ⟨_, rfl, h.composeWrite⟩
  | creditWrite p k w => exact ⟨_, rfl, h.creditWrite⟩
  | eventReadIndexWrite p w => exact ⟨_, rfl, h.eventReadWrite⟩
  | rearm p v w => exact ⟨_, rfl, h.same (fun q => by simp) fun q => by simp⟩
  | windowWrite p z o w => exact ⟨_, rfl, h.windowWrite⟩
  | badCommand p k n => exact ⟨_, rfl, h.commandWordWrite⟩
  | cmdOverrun p k n => exact ⟨_, rfl, h.commandWordWrite⟩
  | deviceReset => exact execDeviceReset_controlled s
  | deviceResetRelease => exact execDeviceResetRelease_controlled h
  | portReset p => exact execPortReset_controlled h p
  | portResetRelease p => exact execPortResetRelease_controlled h p
  | quiesceEnd p => exact ⟨_, rfl, h.settle⟩
  | detachmentOnEntry p c => exact execDetachmentOnEntry_controlled h p c
  | requeue p c => exact execRequeue_controlled h p c
  | poolHoldRequest c => exact execPoolHoldRequest_controlled h c
  | poolRetest c => exact execPoolRetest_controlled h c
  | offerTimerExpiry c => exact execOfferTimerExpiry_controlled h c
  | holdTimerExpiry c => exact execHoldTimerExpiry_controlled h c
  | coalescingDelayExpiry p v => exact execCoalescingDelayExpiry_controlled h p v
  | writeTimeout e => exact execWriteTimeout_controlled h e
  | copyCompletion p => exact execCopyCompletion_controlled h p
  | landingJobStart p => exact execLandingJobStart_controlled h p
  | flushJobStart p => exact execFlushJobStart_controlled h p
  | signalJobStart p => exact execSignalJobStart_controlled h p
  | linkWriteOk a => exact execLinkWriteOk_controlled h a
  | landingCompletion a => exact execLandingCompletion_controlled h a
  | flushCompletion a => exact execFlushCompletion_controlled h a
  | signalCompletion a => exact execSignalCompletion_controlled h a
  | linkWriteError e => exact execLinkWriteError_controlled h e
  | _ => exact exec_slotCommand_controlled h rfl

end controlled

/-- Settles O9: the laws of Port Writers and compose buffers, kept by each command and by the passing of time. -/
theorem everyStepKeepsWritersAndLocksLawful : Obligations.EveryStepKeepsWritersAndLocksLawful := by
  intro s t hs h
  unfold step at h
  split at h
  · cases h
    exact State.Controlled.passTime hs
  · next i rest _ =>
    have queued : ({ s with pending := rest } : State).Controlled := State.Controlled.same hs (fun _ => rfl) fun _ => rfl
    obtain ⟨r, hr, hlaws⟩ := exec_controlled queued i
    rw [hr] at h
    cases h
    exact hlaws

end Sys2Proof.Machine

/-! # Proofs: the laws of the Channel Table (O10) -/

namespace Sys2Proof.Machine

/-- The laws of O10 hold: each entry in use is lawful, no slot is bound twice, and the counters of a FREE entry are zero. -/
def State.TableLawful (s : State) : Prop := s.EntriesLawful ∧ s.SlotsBoundOnce ∧ s.FreeEntriesClear

/-! ## Uses of an entry -/

/-- The entry is OPEN or CLOSING. -/
def Use.Going (u : Use) : Prop := u.stage = .opened ∨ u.stage = .closing

/-- A use whose stage is neither OFFERED nor ORPHANED may hold any lists. -/
theorem Use.Lawful.lists {u : Use} (h : u.Lawful) (hu : u.Going) (queue unconfirmed : List RecordId) (sequence : Half) (fill : Bool) :
    ({ u with queue := queue, unconfirmed := unconfirmed, nextSequence := sequence, fill := fill } : Use).Lawful where
  terms := h.terms
  held := h.held
  hold := h.hold
  ring := h.ring
  offered o ho := by rcases hu with hu | hu <;> rw [hu] at ho <;> cases ho
  opened := h.opened
  orphaned ho := by rcases hu with hu | hu <;> rw [hu] at ho <;> cases ho

/-- A lower held count is lawful (R28). -/
theorem Use.Lawful.fall {u : Use} (h : u.Lawful) (n : Nat) : ({ u with held := u.held - n } : Use).Lawful where
  terms := h.terms
  held := (Nat.sub_le _ _).trans h.held
  hold := h.hold
  ring := h.ring
  offered := h.offered
  opened := h.opened
  orphaned := h.orphaned

/-- A change inside the ring is lawful (R26). -/
theorem Use.Lawful.mapRing {u : Use} (h : u.Lawful) (f : Ring → Ring) : ({ u with ring := u.ring.map f } : Use).Lawful where
  terms := h.terms
  held := h.held
  hold := h.hold
  ring := by rw [Option.isSome_map]; exact h.ring
  offered := h.offered
  opened := h.opened
  orphaned := h.orphaned

/-- A hold is lawful on an OPEN entry, and its absence anywhere (R30). -/
theorem Use.Lawful.setHold {u : Use} (h : u.Lawful) (hold : Option Hold) (hopen : hold.isSome = true → u.stage = .opened) :
    ({ u with hold := hold } : Use).Lawful where
  terms := h.terms
  held := h.held
  hold := hopen
  ring := h.ring
  offered := h.offered
  opened := h.opened
  orphaned := h.orphaned

/-- The end of a fill is lawful (R49). -/
theorem Use.Lawful.fillOver {u : Use} (h : u.Lawful) : ({ u with fill := false } : Use).Lawful where
  terms := h.terms
  held := h.held
  hold := h.hold
  ring := h.ring
  offered o ho := by
    obtain ⟨hpeer, hqueue, hunconfirmed, _, hparty⟩ := h.offered o ho
    exact ⟨hpeer, hqueue, hunconfirmed, rfl, hparty⟩
  opened := h.opened
  orphaned := h.orphaned

/-- A record that leaves the queue: an empty queue stays empty (R49). -/
theorem Use.Lawful.eraseQueue {u : Use} (h : u.Lawful) (r : RecordId) : ({ u with queue := u.queue.erase r } : Use).Lawful where
  terms := h.terms
  held := h.held
  hold := h.hold
  ring := h.ring
  offered o ho := by
    obtain ⟨hpeer, hqueue, hothers⟩ := h.offered o ho
    exact ⟨hpeer, by simp [hqueue], hothers⟩
  opened := h.opened
  orphaned ho := by
    obtain ⟨hproducer, hconsumer, hqueue, hothers⟩ := h.orphaned ho
    exact ⟨hproducer, hconsumer, by simp [hqueue], hothers⟩

/-- An OPEN or CLOSING entry that becomes CLOSING or ENDING, FLOWING, is lawful (R30). -/
theorem Use.Lawful.leaveOpen {u : Use} (h : u.Lawful) (hu : u.Going) {stage : Stage} (hs : stage = .closing ∨ stage = .ending) :
    ({ u with stage := stage, hold := none } : Use).Lawful where
  terms := h.terms
  held := h.held
  hold hsome := by cases hsome
  ring := h.ring
  offered o ho := by rcases hs with rfl | rfl <;> cases ho
  opened _ := h.opened (hu.imp_right .inl)
  orphaned ho := by rcases hs with rfl | rfl <;> cases ho

/-- The parties of two uses are the same. -/
def Use.PartiesSame (u v : Use) : Prop := v.producer = u.producer ∧ v.consumer = u.consumer

/-- A use binds what a use with the same parties binds. -/
theorem Use.PartiesSame.binds {u v : Use} (h : u.PartiesSame v) (role : Role) (q : Party) : v.binds role q = u.binds role q := by
  cases role with
  | producer => rw [Use.binds, Use.binds, h.1]
  | consumer => rw [Use.binds, Use.binds, h.2]

/-! ## Changes of one entry -/

section table

variable {s : State}

theorem State.TableLawful.use (h : s.TableLawful) {c : ChannelId} {u : Use} (hu : s.use c = some u) : u.Lawful := h.1 c u hu

/-- An operation on one entry keeps the laws when what it leaves there is lawful, binds only slots that the entry had bound or that were unbound, and
has zero counters when it is FREE. -/
theorem State.TableLawful.change (h : s.TableLawful) {t : State} {c : ChannelId} (hothers : ∀ d, d ≠ c → t.entry d = s.entry d)
    (hlawful : ∀ u, t.use c = some u → u.Lawful)
    (hbinds : ∀ u role q, t.use c = some u → u.binds role q = true → (∃ v, s.use c = some v ∧ v.binds role q = true) ∨ s.SlotUnbound role q)
    (hclear : t.use c = none → (t.entry c).counters = Counters.zero) : t.TableLawful := by
  obtain ⟨hentries, hslots, hfree⟩ := h
  have huse : ∀ d, d ≠ c → t.use d = s.use d := fun d hd => congrArg Entry.use (hothers d hd)
  have hbound : ∀ d role q u, t.use d = some u → u.binds role q = true → (∃ v, s.use d = some v ∧ v.binds role q = true) ∨ (d = c ∧ s.SlotUnbound role q) := by
    intro d role q u hu hq
    by_cases hd : d = c
    · subst hd
      exact (hbinds u role q hu hq).imp_right fun hun => ⟨rfl, hun⟩
    · exact .inl ⟨u, huse d hd ▸ hu, hq⟩
  refine ⟨fun d u hu => ?_, fun role q d e u w hu hw hqu hqw => ?_, fun d hd => ?_⟩
  · by_cases hd : d = c
    · subst hd; exact hlawful u hu
    · exact hentries d u (huse d hd ▸ hu)
  · rcases hbound d role q u hu hqu with ⟨v, hv, hqv⟩ | ⟨hdc, hun⟩
    · rcases hbound e role q w hw hqw with ⟨x, hx, hqx⟩ | ⟨_, hun⟩
      · exact hslots role q d e v x hv hx hqv hqx
      · rw [hun d v hv] at hqv; cases hqv
    · rcases hbound e role q w hw hqw with ⟨x, hx, hqx⟩ | ⟨hec, _⟩
      · rw [hun e x hx] at hqx; cases hqx
      · rw [hdc, hec]
  · by_cases hdc : d = c
    · subst hdc; exact hclear hd
    · rw [hothers d hdc]; exact hfree d (huse d hdc ▸ hd)

/-- An operation on no entry keeps the laws. -/
theorem State.TableLawful.same (h : s.TableLawful) {t : State} (ht : t.entries = s.entries) : t.TableLawful := by
  have hentry : ∀ d, t.entry d = s.entry d := fun d => by rw [State.entry, State.entry, ht]
  have huse : ∀ d, t.use d = s.use d := fun d => congrArg Entry.use (hentry d)
  refine h.change (c := 0) (fun d _ => hentry d) (fun u hu => h.use (huse 0 ▸ hu)) (fun u role q hu hq => .inl ⟨u, huse 0 ▸ hu, hq⟩) fun hn => ?_
  rw [hentry]
  exact h.2.2 0 (huse 0 ▸ hn)

/-- A change of the fields of an entry in use that leaves its parties keeps the laws when the use stays lawful. -/
theorem State.TableLawful.modUse (h : s.TableLawful) {c : ChannelId} {f : Use → Use}
    (hf : ∀ u, s.use c = some u → u.PartiesSame (f u) ∧ (f u).Lawful) : (s.modUse c f).TableLawful := by
  have huse : (s.modUse c f).use c = (s.use c).map f := by rw [State.modUse_use, if_pos rfl]
  refine h.change (c := c) (fun d hd => by rw [State.modUse_entry, if_neg hd]) (fun u hu => ?_) (fun u role q hu hq => ?_) fun hn => ?_
  · rw [huse, Option.map_eq_some_iff] at hu
    obtain ⟨v, hv, rfl⟩ := hu
    exact (hf v hv).2
  · rw [huse, Option.map_eq_some_iff] at hu
    obtain ⟨v, hv, rfl⟩ := hu
    exact .inl ⟨v, hv, by rw [← (hf v hv).1.binds]; exact hq⟩
  · rw [huse, Option.map_eq_none_iff] at hn
    rw [State.modUse_entry, if_pos rfl]
    exact h.2.2 c hn

/-- A change of the counters of an entry in use keeps the laws (R32). -/
theorem State.TableLawful.modCounters (h : s.TableLawful) {c : ChannelId} {f : Counters → Counters} (hc : s.use c ≠ none) :
    (s.modCounters c f).TableLawful := by
  refine h.change (c := c) (fun d hd => by rw [State.modCounters_entry, if_neg hd]) (fun u hu => ?_) (fun u role q hu hq => ?_) fun hn => ?_
  · rw [State.modCounters_use] at hu
    exact h.use hu
  · rw [State.modCounters_use] at hu
    exact .inl ⟨u, hu, hq⟩
  · rw [State.modCounters_use] at hn
    exact absurd hn hc

theorem State.TableLawful.tellParty (h : s.TableLawful) {a : Option Party} {kind : EventKind} {qualifier : Byte} {c : ChannelId} {detail : Half} :
    (s.tellParty a kind qualifier c detail).TableLawful :=
  h.same (by simp)

theorem State.TableLawful.portEvent (h : s.TableLawful) {p : PortId} {kind : EventKind} {c : ChannelId} {detail : Half} :
    (s.portEvent p kind c detail).TableLawful :=
  h.same (by simp)

theorem State.TableLawful.partyEvent (h : s.TableLawful) {a : Party} {kind : EventKind} {qualifier : Byte} {c : ChannelId} {detail : Half} :
    (s.partyEvent a kind qualifier c detail).TableLawful :=
  h.same (by simp)

theorem State.TableLawful.bindProducer (h : s.TableLawful) {a : Party} {c : ChannelId} : (s.bindProducer a c).TableLawful := h.same (by simp)

theorem State.TableLawful.bindConsumer (h : s.TableLawful) {a : Party} {c : ChannelId} : (s.bindConsumer a c).TableLawful := h.same (by simp)

theorem State.TableLawful.setPool (h : s.TableLawful) {pool : Pool} : (s.setPool pool).TableLawful := h.same rfl

theorem State.TableLawful.modWriter (h : s.TableLawful) {p : PortId} {f : Writer → Writer} : (s.modWriter p f).TableLawful := h.same rfl

theorem State.TableLawful.modPiu (h : s.TableLawful) {p : PortId} {f : Piu → Piu} : (s.modPiu p f).TableLawful := h.same rfl

theorem State.TableLawful.settle (h : s.TableLawful) {p : PortId} : (s.settle p).TableLawful := h.same (by simp)

theorem State.TableLawful.handHold (h : s.TableLawful) {a : Option Party} {held : Bool} : (s.handHold a held).TableLawful := h.same (by simp)

theorem State.TableLawful.complete (h : s.TableLawful) {p : PortId} {status : Status} {results : Table Word 4} :
    (s.complete p status results).TableLawful :=
  h.same (by simp)

theorem State.TableLawful.refuse (h : s.TableLawful) {p : PortId} {status : Status} : (s.refuse p status).TableLawful := h.complete

/-! ## The Channel Controller's shared operations -/

/-- An entry that becomes FREE has zero counters and binds nothing (R20). -/
theorem State.TableLawful.freeEntry (h : s.TableLawful) {c : ChannelId} : (s.freeEntry c).TableLawful := by
  cases hu : s.use c with
  | none => rw [State.freeEntry, hu]; exact h
  | some u =>
    have hentry := State.freeEntry_entry hu
    have hnone : (s.freeEntry c).use c = none := by rw [← State.entry_use, hentry, if_pos rfl]
    refine h.change (c := c) (fun d hd => by rw [hentry, if_neg hd]) (fun v hv => ?_) (fun v role q hv => ?_) fun _ => ?_
    · rw [hnone] at hv; cases hv
    · rw [hnone] at hv; cases hv
    · rw [hentry, if_pos rfl]

theorem State.TableLawful.freeWithNotice (h : s.TableLawful) {c : ChannelId} {cause : FreedCause} : (s.freeWithNotice c cause).TableLawful := by
  unfold State.freeWithNotice
  split
  · exact h
  · exact State.TableLawful.freeEntry (h.same (by simp))

theorem State.TableLawful.dropRecords (h : s.TableLawful) {c : ChannelId} {rs : List RecordId} : (s.dropRecords c rs).TableLawful := by
  have freed : (s.setPool (s.pool.free rs)).TableLawful := h.same rfl
  exact freed.modUse fun u hu => ⟨⟨rfl, rfl⟩, (freed.use hu).fall _⟩

/-- Entering HELD on an OPEN entry (R111). -/
theorem State.TableLawful.enterHold (h : s.TableLawful) {c : ChannelId} (hopen : ∀ u, s.use c = some u → u.stage = .opened) {reason : HoldReason} :
    (s.enterHold c reason).TableLawful := by
  unfold State.enterHold
  split
  · exact h
  · next u hu =>
    have held := h.modUse (f := fun u => { u with hold := some ⟨reason, Timer.start (8 * u.terms.holdInterval)⟩ })
      fun v hv => ⟨⟨rfl, rfl⟩, (h.use hv).setHold _ fun _ => hopen v hv⟩
    exact (held.modCounters (by simp [hu])).handHold.tellParty

theorem State.TableLawful.endHold (h : s.TableLawful) {c : ChannelId} {expiry : Bool} : (s.endHold c expiry).TableLawful := by
  unfold State.endHold
  split
  · exact h
  · have released := h.modUse (c := c) (f := fun u => { u with hold := none }) fun v hv => ⟨⟨rfl, rfl⟩, (h.use hv).setHold none fun hsome => by cases hsome⟩
    exact released.same (by simp)

/-- Renewal on an OPEN entry (R118). -/
theorem State.TableLawful.renewHold (h : s.TableLawful) {c : ChannelId} (hopen : ∀ u, s.use c = some u → u.stage = .opened) :
    (s.renewHold c).TableLawful := by
  unfold State.renewHold
  split
  · exact h
  · next u hu =>
    have renewed := fun reason : HoldReason => h.modUse (c := c) (f := fun u => { u with hold := some ⟨reason, Timer.start (8 * u.terms.holdInterval)⟩ })
      fun v hv => ⟨⟨rfl, rfl⟩, (h.use hv).setHold _ fun _ => hopen v hv⟩
    exact ((renewed _).modCounters (by simp [hu])).tellParty

theorem State.TableLawful.quotaCheck (h : s.TableLawful) {c : ChannelId} (hopen : ∀ u, s.use c = some u → u.stage = .opened) :
    (s.quotaCheck c).TableLawful := by
  unfold State.quotaCheck
  split
  · exact h
  · split
    · exact h.enterHold hopen
    · exact h

theorem State.TableLawful.releaseCheckAt (h : s.TableLawful) {level : PoolLevel} {c : ChannelId} : (s.releaseCheckAt level c).TableLawful := by
  unfold State.releaseCheckAt
  split
  · exact h
  · split
    · exact h.endHold
    · exact h

/-- An OPEN or CLOSING entry becomes CLOSING or ENDING (R30). -/
theorem State.TableLawful.leaveOpen (h : s.TableLawful) {c : ChannelId} (hc : ∀ u, s.use c = some u → u.Going) {stage : Stage}
    (hs : stage = .closing ∨ stage = .ending) : (s.leaveOpen c stage).TableLawful := by
  unfold State.leaveOpen
  split
  · exact h
  · have left := h.modUse (c := c) (f := fun u => { u with stage := stage, hold := none }) fun v hv => ⟨⟨rfl, rfl⟩, (h.use hv).leaveOpen (hc v hv) hs⟩
    exact left.same (by simp)

theorem State.TableLawful.drainCheck (h : s.TableLawful) {c : ChannelId} : (s.drainCheck c).TableLawful := by
  unfold State.drainCheck
  split
  · exact h
  · split
    · exact h.freeWithNotice
    · exact h

theorem State.TableLawful.freeCheck (h : s.TableLawful) {c : ChannelId} : (s.freeCheck c).TableLawful := by
  unfold State.freeCheck
  split
  · exact h
  · split
    · exact h.freeWithNotice
    · exact h

theorem State.TableLawful.checkAfterFall (h : s.TableLawful) {c : ChannelId} : (s.checkAfterFall c).TableLawful := by
  unfold State.checkAfterFall
  split
  · exact h
  · split
    · exact h
    · exact h.releaseCheckAt
    · exact h.drainCheck
    · exact h.freeCheck
    · exact h

/-- A free of records leaves the stage of the entry. -/
theorem State.dropRecords_going {c : ChannelId} (hc : ∀ u, s.use c = some u → u.Going) (rs : List RecordId) :
    ∀ u, (s.dropRecords c rs).use c = some u → u.Going := by
  intro u hu
  simp only [State.dropRecords, State.modUse_use, if_true, State.setPool_use, Option.map_eq_some_iff] at hu
  obtain ⟨v, hv, rfl⟩ := hu
  exact hc v hv

/-- The discard of an OPEN or CLOSING entry keeps the laws, and leaves it OPEN or CLOSING (R47). -/
theorem State.TableLawful.discard (h : s.TableLawful) {c : ChannelId} (hc : ∀ u, s.use c = some u → u.Going) :
    (s.discard c).TableLawful ∧ ∀ u, (s.discard c).use c = some u → u.Going := by
  have emptied : ∀ rs queue, (((s.dropRecords c rs).modUse c fun u => { u with queue := queue, unconfirmed := [] }).TableLawful) ∧
      ∀ u, ((s.dropRecords c rs).modUse c fun u => { u with queue := queue, unconfirmed := [] }).use c = some u → u.Going := by
    intro rs queue
    have going := State.dropRecords_going hc rs
    refine ⟨h.dropRecords.modUse fun v hv => ⟨⟨rfl, rfl⟩, (h.dropRecords.use hv).lists (going v hv) _ _ _ _⟩, fun u hu => ?_⟩
    simp only [State.modUse_use, if_true, Option.map_eq_some_iff] at hu
    obtain ⟨v, hv, rfl⟩ := hu
    exact going v hv
  unfold State.discard
  split
  · exact ⟨h, hc⟩
  · split
    · exact emptied _ _
    · exact emptied _ _

/-! ## Opening -/

/-- A slot that a search finds unbound is bound to no channel (R24). -/
theorem State.boundTo_isNone (s : State) (role : Role) (q : Party) : (s.boundTo role q).isSome = false ↔ s.SlotUnbound role q := by
  have hnone : (s.boundTo role q).isSome = false ↔ s.boundTo role q = none := by cases s.boundTo role q <;> simp
  rw [hnone, State.boundTo, List.find?_eq_none]
  constructor
  · intro h c u hu
    have := h c (mem_allChannels c)
    rw [hu] at this
    simpa using this
  · intro h c _
    cases hu : s.use c with
    | none => simp
    | some u => simp [h c u hu]

/-- An OFFER takes entry `c` with a lawful use that binds one slot, which was unbound (R24, R35). -/
theorem State.TableLawful.takeEntry (h : s.TableLawful) {c : ChannelId} {e : Entry} {u : Use} (he : e.use = some u) (hu : u.Lawful)
    (hbinds : ∀ role q, u.binds role q = true → s.SlotUnbound role q) : (s.setEntry c e).TableLawful := by
  have huse : (s.setEntry c e).use c = some u := by rw [State.setEntry_use, if_pos rfl, he]
  refine h.change (c := c) (fun d hd => by rw [State.setEntry_entry, if_neg hd]) (fun v hv => ?_) (fun v role q hv hq => ?_) fun hn => ?_
  · rw [huse, Option.some.injEq] at hv
    exact hv ▸ hu
  · rw [huse, Option.some.injEq] at hv
    exact .inr (hbinds role q (hv ▸ hq))
  · rw [huse] at hn; cases hn

/-- The use of an OFFER whose arguments are in range is lawful (R35). -/
theorem offerUse_lawful {p : PortId} {a : OfferArgs} (ha : a.inRange p = true) : (offerUse p a).Lawful := by
  simp only [OfferArgs.inRange, Bool.and_eq_true, decide_eq_true_eq, bne_iff_ne, ne_eq] at ha
  obtain ⟨⟨⟨⟨⟨⟨⟨⟨⟨⟨⟨⟨⟨hpeer, hother⟩, hrole⟩, _⟩, _⟩, _⟩, _⟩, hhold⟩, hrelease⟩, _⟩, _⟩, _⟩, _⟩, _⟩ := ha
  refine ⟨⟨hhold.1, hhold.2, hrelease⟩, Nat.zero_le _, fun hsome => ?_, ?_, fun o ho => ?_, fun hs => ?_, fun hs => ?_⟩
  · cases hsome
  · by_cases h0 : a.role = 0 <;> simp [offerUse, h0]
  · cases ho
    refine ⟨fun e => hother ?_, rfl, rfl, rfl, ?_⟩
    · have := congrArg Fin.val e
      simp only [Fin.ofNat, Nat.mod_eq_of_lt hpeer] at this
      exact this.symm
    · by_cases h0 : a.role = 0 <;> simp [offerUse, h0, Use.producedBy, Use.consumedBy]
  · rcases hs with hs | hs | hs <;> cases hs
  · cases hs

/-- Tests 2 to 5 of Table 3-1, for the role that the arguments name (R34). -/
theorem offerRefusal_eq (s : State) (p : PortId) (a : OfferArgs) {role : Role} (hrole : role = if a.role = 0 then .producer else .consumer) :
    offerRefusal s p a =
      if ¬ a.inRange p then some .badArg
      else if role = .consumer ∧ ¬ ringFits a.ring a.maxLength then some .ringTooSmall
      else if (s.boundTo role ⟨p, Fin.ofNat 16 a.slot⟩).isSome then some .slotInUse
      else if ¬ s.attached (Fin.ofNat 4 a.peer) then some .peerAbsent
      else none := by
  subst hrole
  rfl

/-- An OFFER that no test refuses has its arguments in range and its slot unbound (R34). -/
theorem offerRefusal_none {p : PortId} {a : OfferArgs} (h : offerRefusal s p a = none) :
    a.inRange p = true ∧ s.SlotUnbound (if a.role = 0 then .producer else .consumer) ⟨p, Fin.ofNat 16 a.slot⟩ := by
  generalize hrole : (if a.role = 0 then Role.producer else Role.consumer) = role
  rw [offerRefusal_eq s p a hrole.symm] at h
  split at h
  · cases h
  · next hrange =>
    split at h
    · cases h
    · split at h
      · cases h
      · next hbound => exact ⟨by simpa using hrange, (s.boundTo_isNone _ _).mp (by simpa using hbound)⟩

theorem State.TableLawful.offerBody (h : s.TableLawful) {p : PortId} : (offerBody p s).TableLawful := by
  unfold Machine.offerBody
  dsimp only
  split
  · exact h.refuse
  · next hpassed =>
    split
    · exact h.refuse
    · next c _ =>
      obtain ⟨hrange, hunbound⟩ := offerRefusal_none hpassed
      have taken : ∀ g k, (s.setEntry c ⟨g, k, some (offerUse p (offerArgs (s.args p)))⟩).TableLawful := by
        refine fun g k => h.takeEntry rfl (offerUse_lawful hrange) fun role q hq => ?_
        by_cases h0 : (offerArgs (s.args p)).role = 0
        · cases role <;> simp_all [offerUse, Use.binds]
        · cases role <;> simp_all [offerUse, Use.binds]
      unfold offerTake
      dsimp only
      split
      · exact ((taken _ _).bindProducer.portEvent).complete
      · exact ((taken _ _).bindConsumer.portEvent).complete

/-- An ACCEPT that no test refuses names a slot of the port that is unbound in the peer's role (R37). -/
theorem acceptRefusal_none {p : PortId} {u : Use} {slot : Nat} {r : RingArgs} (h : acceptRefusal s p u slot r = none) :
    s.SlotUnbound (peerRole u) ⟨p, Fin.ofNat 16 slot⟩ := by
  unfold acceptRefusal at h
  split at h
  · cases h
  · next hbound =>
    split at h
    · cases h
    · split at h
      · cases h
      · next hrange =>
        refine (s.boundTo_isNone _ _).mp ?_
        have hslot : slotOf slot = some (Fin.ofNat 16 slot) := by
          unfold slotOf at hrange ⊢
          split
          · next hlt => rw [Option.some.injEq]; exact Fin.ext (Nat.mod_eq_of_lt hlt).symm
          · next hge => simp [hge] at hrange
        simpa [hslot] using hbound

/-- An offer that a command names is in use and OFFERED (R37). -/
theorem offerNamed_some {p : PortId} {n : Nat} {g : Byte} {c : ChannelId} {u : Use} {o : Offer} (h : offerNamed s p n g = some (c, u, o)) :
    s.use c = some u ∧ u.stage = .offered o := by
  obtain ⟨_, hu, hstage, _⟩ := (offerNamed_eq_some_iff ..).mp h
  exact ⟨hu, hstage⟩

/-- ACCEPT by a peer that is to be the consumer: the use is lawful, and binds the slots it bound and the new one (R38). -/
theorem State.TableLawful.acceptAsConsumer (h : s.TableLawful) {c : ChannelId} {u : Use} {q : Party} {r : RingArgs} (hu : s.use c = some u)
    (hproducer : u.producer.isSome = true) (hq : s.SlotUnbound .consumer q) : (Machine.acceptAsConsumer s c q r).TableLawful := by
  have hlaw := h.use hu
  have huse : (Machine.acceptAsConsumer s c q r).use c = some { u with stage := .opened, consumer := some q, ring := some (r.ring true) } := by
    simp [Machine.acceptAsConsumer, hu]
  refine h.change (c := c) (fun d hd => by simp [Machine.acceptAsConsumer, hd]) (fun v hv => ?_) (fun v role x hv hx => ?_) fun hn => ?_
  · rw [huse, Option.some.injEq] at hv
    subst hv
    refine ⟨hlaw.terms, hlaw.held, fun _ => rfl, rfl, fun o ho => ?_, fun _ => ⟨hproducer, rfl⟩, fun ho => ?_⟩
    · cases ho
    · cases ho
  · rw [huse, Option.some.injEq] at hv
    subst hv
    cases role with
    | producer => exact .inl ⟨u, hu, hx⟩
    | consumer =>
      have : q = x := by simpa [Use.binds] using hx
      exact .inr (this ▸ hq)
  · rw [huse] at hn; cases hn

/-- ACCEPT by a peer that is to be the producer: the use is lawful, and binds the slots it bound and the new one (R38). -/
theorem State.TableLawful.acceptAsProducer (h : s.TableLawful) {c : ChannelId} {u : Use} {o : Offer} {q : Party} {armed : Bool} (hu : s.use c = some u)
    (hstage : u.stage = .offered o) (hproducer : u.producer = none) (hq : s.SlotUnbound .producer q) :
    (Machine.acceptAsProducer s c q u armed).TableLawful := by
  have hlaw := h.use hu
  have hconsumer : u.consumer.isSome = true := by
    obtain ⟨_, _, _, _, hparty⟩ := hlaw.offered o hstage
    rcases hparty with ⟨hp, _⟩ | ⟨hc, _⟩
    · simp [Use.producedBy, hproducer] at hp
    · rw [Use.consumedBy, Option.any_eq_true] at hc
      obtain ⟨x, hx, _⟩ := hc
      rw [hx]
      rfl
  set v : Use := { u with
    stage := .opened, producer := some q, ring := u.ring.map fun r => { r with armed := armed, writeIndex := 0, readIndex := 0 } } with hv
  have huse : (Machine.acceptAsProducer s c q u armed).use c = some v := by
    unfold Machine.acceptAsProducer
    dsimp only
    split <;> simp [hu, hv]
  refine h.change (c := c) (fun d hd => ?_) (fun w hw => ?_) (fun w role x hw hx => ?_) fun hn => ?_
  · unfold Machine.acceptAsProducer
    dsimp only
    split <;> simp [hd]
  · rw [huse, Option.some.injEq] at hw
    subst hw
    refine ⟨hlaw.terms, hlaw.held, fun _ => rfl, ?_, fun o ho => ?_, fun _ => ⟨rfl, hconsumer⟩, fun ho => ?_⟩
    · rw [hv, Option.isSome_map]; exact hlaw.ring
    · cases ho
    · cases ho
  · rw [huse, Option.some.injEq] at hw
    subst hw
    cases role with
    | producer =>
      have : q = x := by simpa [Use.binds, hv] using hx
      exact .inr (this ▸ hq)
    | consumer => exact .inl ⟨u, hu, hx⟩
  · rw [huse] at hn; cases hn

theorem State.TableLawful.acceptBody (h : s.TableLawful) {p : PortId} : (acceptBody p s).TableLawful := by
  unfold Machine.acceptBody
  dsimp only
  split
  · exact h.refuse
  · next c u o hnamed =>
    obtain ⟨hu, hstage⟩ := offerNamed_some hnamed
    split
    · exact h.refuse
    · next hpassed =>
      have hunbound := acceptRefusal_none hpassed
      unfold acceptTake
      dsimp only
      split
      · next hrole =>
        rw [hrole] at hunbound
        have hproducer : u.producer.isSome = true := by
          by_contra hn
          simp [peerRole, hn] at hrole
        exact (h.acceptAsConsumer hu hproducer hunbound).tellParty.complete
      · next hrole =>
        rw [hrole] at hunbound
        have hproducer : u.producer = none := by
          by_contra hn
          simp [peerRole, Option.isSome_iff_ne_none.mpr hn] at hrole
        split
        · exact (h.acceptAsProducer hu hstage hproducer hunbound).tellParty.partyEvent.complete
        · exact (h.acceptAsProducer hu hstage hproducer hunbound).tellParty.complete

/-! ## Closing -/

theorem State.TableLawful.declineOffer (h : s.TableLawful) {c : ChannelId} : (s.declineOffer c).TableLawful := by
  unfold State.declineOffer
  split
  · exact h
  · exact h.tellParty.freeEntry

theorem State.TableLawful.declineBody (h : s.TableLawful) {p : PortId} : (declineBody p s).TableLawful := by
  unfold Machine.declineBody
  dsimp only
  split
  · exact h.refuse
  · exact h.declineOffer.complete

theorem State.TableLawful.withdrawOffer (h : s.TableLawful) {c : ChannelId} {o : Offer} : (s.withdrawOffer c o).TableLawful :=
  State.TableLawful.freeEntry (h.same (by simp))

theorem State.TableLawful.expireOffer (h : s.TableLawful) {c : ChannelId} {u : Use} {o : Offer} : (s.expireOffer c u o).TableLawful :=
  State.TableLawful.freeEntry (h.same (by simp))

theorem State.TableLawful.producerClose (h : s.TableLawful) {c : ChannelId} {u : Use} (hu : s.use c = some u) (hstage : u.Going) :
    (s.producerClose c u).TableLawful := by
  unfold State.producerClose
  split
  · exact h.freeWithNotice
  · exact h.leaveOpen (fun v hv => by rw [hu, Option.some.injEq] at hv; exact hv ▸ hstage) (.inl rfl)

theorem State.TableLawful.consumerClose (h : s.TableLawful) {c : ChannelId} {u : Use} (hu : s.use c = some u) (hstage : u.Going) :
    (s.consumerClose c u).TableLawful := by
  obtain ⟨hdiscard, hgoing⟩ := h.discard (c := c) fun v hv => by rw [hu, Option.some.injEq] at hv; exact hv ▸ hstage
  unfold State.consumerClose
  split
  · exact (hdiscard.leaveOpen hgoing (.inr rfl)).tellParty
  · exact State.TableLawful.freeEntry hdiscard.tellParty

theorem State.TableLawful.closeByParty (h : s.TableLawful) {p : PortId} {c : ChannelId} {u : Use} (hu : s.use c = some u) :
    (closeByParty s p c u).TableLawful := by
  unfold Machine.closeByParty
  split
  · split
    · exact h.withdrawOffer.complete
    · exact h.refuse
  · next hstage =>
    split
    · exact (h.producerClose hu (.inl hstage)).complete
    · exact (h.consumerClose hu (.inl hstage)).complete
  · next hstage =>
    split
    · exact h.refuse
    · exact (h.consumerClose hu (.inr hstage)).complete
  · exact h.refuse
  · exact h.freeEntry.complete

/-- An entry that a command names is in use (R43, R93). -/
theorem entryNamed_ok {n : Nat} {g : Byte} {c : ChannelId} {u : Use} (h : entryNamed s n g = .ok (c, u)) : s.use c = some u := by
  unfold entryNamed at h
  split at h
  · cases h
  · split at h
    · cases h
    · next hu =>
      split at h
      · cases h; exact hu
      · cases h

theorem State.TableLawful.closeBody (h : s.TableLawful) {p : PortId} : (closeBody p s).TableLawful := by
  unfold Machine.closeBody
  dsimp only
  split
  · exact h.refuse
  · next hnamed =>
    split
    · exact h.closeByParty (entryNamed_ok hnamed)
    · exact h.refuse

end table

end Sys2Proof.Machine

namespace Sys2Proof.Machine

section table

variable {s : State}

/-! ## Posting -/

/-- The entry that a POST names: the port produces it, and it is neither FREE nor OFFERED (Table 4-1, test 2). -/
theorem postEntry_eq_some_iff (s : State) (p : PortId) (n : Nat) (c : ChannelId) (u : Use) :
    postEntry s p n = some (c, u) ↔ n = c.val ∧ s.use c = some u ∧ u.producedBy p = true ∧ ∀ o, u.stage ≠ .offered o := by
  unfold postEntry
  constructor
  · intro h
    split at h
    · cases h
    · next d hd =>
      split at h
      · cases h
      · next v hv =>
        have hn := (channelOf_eq_some_iff ..).mp hd
        split at h
        · cases h
        all_goals
          next hstage =>
          split at h
          · next hp => cases h; exact ⟨hn, hv, hp, fun o ho => by rw [hstage] at ho; cases ho⟩
          · cases h
  · rintro ⟨hn, hu, hp, hstage⟩
    rw [(channelOf_eq_some_iff n c).mpr hn]
    dsimp only
    rw [hu]
    dsimp only
    cases hs : u.stage with
    | offered o => exact absurd hs (hstage o)
    | opened => simp [hp]
    | closing => simp [hp]
    | ending => simp [hp]
    | orphaned => simp [hp]

/-- A POST that tests 3 to 7 let pass goes to an OPEN entry whose quota has room (Table 4-1). -/
theorem postRefusal_none {u : Use} {length : Nat} {urgent : Bool} (h : postRefusal u length urgent = none) (hu : ∀ o, u.stage ≠ .offered o) :
    u.stage = .opened ∧ u.held + segmentCount length ≤ u.terms.quota := by
  unfold postRefusal at h
  split at h
  · cases h
  · next hclosed =>
    split at h
    · cases h
    · next horphan =>
      split at h
      · cases h
      · split at h
        · cases h
        · split at h
          · cases h
          · split at h
            · cases h
            · next hquota =>
              refine ⟨?_, by omega⟩
              cases hs : u.stage with
              | offered o => exact absurd hs (hu o)
              | opened => rfl
              | closing => exact absurd (.inl hs) hclosed
              | ending => exact absurd (.inr hs) hclosed
              | orphaned => exact absurd hs horphan

/-- What an accepted POST does to the use of its entry, before the quota hold check (R61). -/
def Use.posted (u : Use) (n : Nat) : Use := { u with nextSequence := u.nextSequence + 1, held := u.held + n, fill := true }

/-- A post within the quota of an OPEN entry is lawful (R28, R61). -/
theorem Use.Lawful.posted {u : Use} (h : u.Lawful) (hu : u.stage = .opened) {n : Nat} (hn : u.held + n ≤ u.terms.quota) : (u.posted n).Lawful where
  terms := h.terms
  held := hn
  hold := h.hold
  ring := h.ring
  offered o ho := by rw [Use.posted, hu] at ho; cases ho
  opened := h.opened
  orphaned ho := by rw [Use.posted, hu] at ho; cases ho

/-- Acceptance of a POST, operation by operation (R61, R62). -/
theorem postAccept_eq (s : State) (p : PortId) (c : ChannelId) (r : RecordId) (pool : Pool) :
    postAccept s p c r pool =
      ((((s.setPool pool).modUse c fun u => u.posted (segmentCount (lengthArg (s.args p)))).modCounters c fun k =>
        { k with postsAccepted := k.postsAccepted + 1 }).modPiu p fun u => { u with copy := some r }).quotaCheck c := rfl

theorem State.TableLawful.postBody (h : s.TableLawful) {p : PortId} : (postBody p s).TableLawful := by
  unfold Machine.postBody
  dsimp only
  split
  · exact h.refuse
  · next c u hentry =>
    obtain ⟨_, hu, _, hstage⟩ := (postEntry_eq_some_iff ..).mp hentry
    have counted : ∀ st, (postRefused s p c st).TableLawful := fun st => (h.modCounters (by simp [hu])).refuse
    split
    · exact counted _
    · next hpassed =>
      split
      · exact counted _
      · next r pool _ =>
        obtain ⟨hopen, hquota⟩ := postRefusal_none hpassed hstage
        have hpool : (s.setPool pool).TableLawful := h.setPool
        have posted : ((s.setPool pool).modUse c fun u => u.posted (segmentCount (lengthArg (s.args p)))).TableLawful := by
          refine hpool.modUse fun v hv => ⟨⟨rfl, rfl⟩, ?_⟩
          rw [State.setPool_use, hu, Option.some.injEq] at hv
          subst hv
          exact (h.use hu).posted hopen hquota
        have hcount := posted.modCounters (c := c) (f := fun k => { k with postsAccepted := k.postsAccepted + 1 }) (by simp [hu])
        rw [postAccept_eq]
        refine State.TableLawful.quotaCheck hcount.modPiu fun v hv => ?_
        simp only [State.modPiu_use, State.modCounters_use, State.modUse_use, if_true, State.setPool_use, hu, Option.map_some, Option.some.injEq] at hv
        subst hv
        exact hopen

theorem State.TableLawful.dropFill (h : s.TableLawful) {c : ChannelId} {r : RecordId} : (s.dropFill c r).TableLawful :=
  h.dropRecords.modUse fun _ hv => ⟨⟨rfl, rfl⟩, (h.dropRecords.use hv).fillOver⟩

/-- The use that a record belongs to: its channel is in use with the record's generation (R8). -/
theorem State.useOfRecord_eq_some_iff (s : State) (rec : Record) (u : Use) :
    s.useOfRecord rec = some u ↔ (s.entry rec.channel).generation = rec.generation ∧ s.use rec.channel = some u := by
  simp [State.useOfRecord]

theorem State.TableLawful.completeCopy (h : s.TableLawful) {p : PortId} {r : RecordId} {rec : Record} : (s.completeCopy p r rec).TableLawful := by
  have queued : ∀ u, s.use rec.channel = some u → u.Going → ((s.modRecord r fun rec => { rec with state := .queued }).modUse rec.channel fun u =>
      { u with queue := u.queue ++ [r], fill := false }).TableLawful := by
    intro u hu hgoing
    have marked : (s.modRecord r fun rec => { rec with state := .queued }).TableLawful := h.same rfl
    refine marked.modUse fun v hv => ⟨⟨rfl, rfl⟩, ?_⟩
    rw [State.modRecord_use, hu, Option.some.injEq] at hv
    subst hv
    exact (h.use hu).lists hgoing _ _ _ _
  unfold State.completeCopy
  dsimp only
  split
  · exact h.same (by simp)
  · next hrecord =>
    obtain ⟨_, hu⟩ := (State.useOfRecord_eq_some_iff ..).mp hrecord
    split
    · exact h.same (by simp)
    · next hstage => exact (queued _ hu (.inl hstage)).complete
    · next hstage => exact (queued _ hu (.inr hstage)).complete
    · exact State.TableLawful.freeCheck h.dropFill.complete
    · exact h.dropFill.complete

theorem State.TableLawful.abandonCopy (h : s.TableLawful) {p : PortId} : (s.abandonCopy p).TableLawful := by
  unfold State.abandonCopy
  split
  · exact h
  · have unlocked : (s.modPiu p fun u => { u with copy := none }).TableLawful := h.same rfl
    dsimp only
    split
    · exact unlocked
    · next rec _ =>
      have copied : ∀ n, ((s.modPiu p fun u => { u with copy := none }).copyPayload p rec n).countFreeValue.TableLawful := fun n => unlocked.same rfl
      split
      · exact (copied _).setPool
      · exact (copied _).dropFill.checkAfterFall

/-! ## Landing -/

theorem State.TableLawful.dropLanding (h : s.TableLawful) {c : ChannelId} {r : RecordId} : (s.dropLanding c r).TableLawful :=
  h.dropRecords.modUse fun _ hv => ⟨⟨rfl, rfl⟩, (h.dropRecords.use hv).eraseQueue r⟩

/-- A message that landed on an OPEN or CLOSING entry (R82). -/
theorem State.TableLawful.landOn (h : s.TableLawful) {r : RecordId} {rec : Record} {u : Use} (hu : s.use rec.channel = some u) (hgoing : u.Going) :
    (s.landOn r rec u).TableLawful := by
  set s1 := s.modUse rec.channel fun u => { u with queue := u.queue.erase r, ring := u.ring.map fun x => { x with writeIndex := x.writeIndex + 1 } } with hs1
  set s2 := s1.modCounters rec.channel fun k => { k with
    landed := k.landed + 1, replayed := if rec.replay then k.replayed + 1 else k.replayed } with hs2
  have left : s1.TableLawful := h.modUse fun v hv => ⟨⟨rfl, rfl⟩, ((h.use hv).eraseQueue r).mapRing _⟩
  have counted : s2.TableLawful := left.modCounters (by simp [hs1, hu])
  have going : ∀ v, s2.use rec.channel = some v → v.Going := by
    intro v hv
    simp only [hs2, hs1, State.modCounters_use, State.modUse_use, if_true, hu, Option.map_some, Option.some.injEq] at hv
    subst hv
    exact hgoing
  have confirmed : ((s2.modRecord r fun rec => { rec with state := .unconfirmed }).modUse rec.channel fun u =>
      { u with unconfirmed := u.unconfirmed ++ [r] }).TableLawful := by
    have marked : (s2.modRecord r fun rec => { rec with state := .unconfirmed }).TableLawful := counted.same rfl
    exact marked.modUse fun v hv => ⟨⟨rfl, rfl⟩, (marked.use hv).lists (going v hv) v.queue _ v.nextSequence v.fill⟩
  have released : (match u.terms.cls with
      | .plain => s2.dropRecords rec.channel [r]
      | .confirmed _ => (s2.modRecord r fun rec => { rec with state := .unconfirmed }).modUse rec.channel fun u =>
          { u with unconfirmed := u.unconfirmed ++ [r] }).TableLawful := by
    split
    · exact counted.dropRecords
    · exact confirmed
  refine State.TableLawful.checkAfterFall (released.same ?_)
  cases u.consumer with
  | none => simp; rfl
  | some q => simp; rfl

theorem State.TableLawful.completeLanding (h : s.TableLawful) {r : RecordId} : (s.completeLanding r).TableLawful := by
  unfold State.completeLanding
  split
  · exact h
  · split
    · exact h.same rfl
    · next hrecord =>
      obtain ⟨_, hu⟩ := (State.useOfRecord_eq_some_iff ..).mp hrecord
      split
      · exact h.dropLanding
      · next hstage => exact h.landOn hu (.inl hstage)
      · next hstage => exact h.landOn hu (.inr hstage)
      · exact h.dropLanding.freeCheck
      · exact h.dropLanding

theorem State.TableLawful.failLanding (h : s.TableLawful) {r : RecordId} : (s.failLanding r).TableLawful := by
  unfold State.failLanding
  split
  · exact h
  · split
    · exact h.same rfl
    · split
      · exact h.dropLanding
      · exact h.same rfl
      · exact h.same rfl
      · exact h.dropLanding.freeCheck
      · exact h.dropLanding

theorem State.TableLawful.completeJob (h : s.TableLawful) {p : PortId} {kind : JobKind} : (s.completeJob p kind).TableLawful := by
  have worked : (s.completeWork p kind).TableLawful := by
    cases kind with
    | landing c g r i => exact h.completeLanding
    | flush n tag vs => exact h.same rfl
    | signal v => exact h.same rfl
  exact worked.same (by simp [State.completeJob])

theorem State.TableLawful.failWork (h : s.TableLawful) {kind : JobKind} : (s.failWork kind).TableLawful := by
  cases kind with
  | landing c g r i => exact h.failLanding
  | flush n tag vs => exact h
  | signal v => exact h

theorem State.TableLawful.failJob (h : s.TableLawful) {p : PortId} {kind : FaultKind} {job : Job} : (s.failJob p kind job).TableLawful := by
  unfold State.failJob
  dsimp only
  split
  · exact h.modWriter.failWork.same rfl
  · exact h.modWriter.failWork.settle

theorem State.TableLawful.endJob (h : s.TableLawful) {p : PortId} : (s.endJob p).TableLawful := by
  unfold State.endJob
  dsimp only
  split
  · exact h.modWriter
  · exact h.modWriter
  · exact h.modWriter.failWork

theorem State.TableLawful.answerOk (h : s.TableLawful) {p : PortId} {job : Job} : (s.answerOk p job).TableLawful := by
  unfold State.answerOk
  split
  · exact h.same rfl
  · exact h.completeJob

theorem State.TableLawful.answerError (h : s.TableLawful) {p : PortId} {k : Nat} : (s.answerError p k).TableLawful := by
  unfold State.answerError
  split
  · exact h
  · exact h.failJob

theorem State.TableLawful.timeOut (h : s.TableLawful) {p : PortId} : (s.timeOut p).TableLawful := by
  unfold State.timeOut
  split
  · exact h
  · exact h
  · split
    · exact h.failJob
    · exact h

/-! ## Credit, LAND, CONFIRM, requeue -/

theorem State.TableLawful.creditWrite (h : s.TableLawful) {p : PortId} {i : SlotId} {w : Word} : (s.creditWrite p i w).TableLawful := by
  unfold State.creditWrite
  split
  · exact h
  · split
    · exact h
    · next c _ =>
      split
      · exact h
      · split
        · unfold State.takeCredit
          split
          · have moved := fun new : Half => h.modUse (c := c) (f := fun u => { u with ring := u.ring.map fun r => { r with readIndex := new } })
              fun v hv => ⟨⟨rfl, rfl⟩, (h.use hv).mapRing _⟩
            exact (moved _).same rfl
          · exact h.same (by simp)
        · exact h

/-- A LAND that no test refuses comes from the consumer of an OPEN or CLOSING entry (R93). -/
theorem landRefusal_none {p : PortId} {u : Use} {r : RingArgs} (h : landRefusal p u r = none) : u.consumedBy p = true ∧ u.Going := by
  unfold landRefusal at h
  split at h
  · cases h
  · next hconsumed =>
    split at h
    · cases h
    · split at h
      · cases h
      · next hgoing => exact ⟨by simpa using hconsumed, by rw [Use.Going]; tauto⟩

/-- A port that consumes a use of an entry is its consumer (R24). -/
theorem Use.consumer_isSome {u : Use} {p : PortId} (h : u.consumedBy p = true) : u.consumer.isSome = true := by
  rw [Use.consumedBy, Option.any_eq_true] at h
  obtain ⟨q, hq, _⟩ := h
  rw [hq]
  rfl

/-- A fresh ring for a use that has a consumer is lawful (R26, R94). -/
theorem Use.Lawful.freshRing {u : Use} (h : u.Lawful) (hc : u.consumer.isSome = true) (r : Ring) : ({ u with ring := some r } : Use).Lawful where
  terms := h.terms
  held := h.held
  hold := h.hold
  ring := hc.symm
  offered := h.offered
  opened := h.opened
  orphaned := h.orphaned

theorem State.TableLawful.landBody (h : s.TableLawful) {p : PortId} : (landBody p s).TableLawful := by
  unfold Machine.landBody
  dsimp only
  split
  · exact h.refuse
  · next c u hnamed =>
    split
    · exact h.refuse
    · next hpassed =>
      have hu := entryNamed_ok hnamed
      have armed : (s.modUse c fun u => { u with ring := some ((ringArgs (s.args p)).ring true) }).TableLawful := by
        refine h.modUse fun v hv => ⟨⟨rfl, rfl⟩, (h.use hv).freshRing ?_ _⟩
        rw [hu, Option.some.injEq] at hv
        exact hv ▸ Use.consumer_isSome (landRefusal_none hpassed).1
      exact armed.same (by simp [landTake])

/-- The entry that a CONFIRM names is CONFIRMED, and OPEN or CLOSING with the port as consumer (Table 6-1, tests 2 to 5). -/
theorem confirmEntry_eq_ok_iff (s : State) (p : PortId) (n : Nat) (c : ChannelId) (u : Use) :
    confirmEntry s p n = .ok (c, u) ↔ n = c.val ∧ s.use c = some u ∧ u.consumedBy p = true ∧ u.Going ∧ u.terms.cls.isConfirmed = true := by
  unfold confirmEntry
  constructor
  · intro h
    split at h
    · cases h
    · next d hd =>
      split at h
      · cases h
      · next v hv =>
        split at h
        · cases h
        · next hparty =>
          split at h
          · cases h
          · next hending =>
            split at h
            · cases h
            · next hconfirmed =>
              cases h
              refine ⟨(channelOf_eq_some_iff ..).mp hd, hv, ?_, ?_, by simpa using hconfirmed⟩
              · tauto
              · rw [Use.Going]; tauto
  · rintro ⟨hn, hu, hp, hgoing, hconfirmed⟩
    rw [(channelOf_eq_some_iff n c).mpr hn]
    rcases hgoing with hgoing | hgoing <;> simp [hu, hp, hgoing, hconfirmed]

theorem State.TableLawful.confirmBody (h : s.TableLawful) {p : PortId} : (confirmBody p s).TableLawful := by
  unfold Machine.confirmBody
  dsimp only
  split
  · exact h.refuse
  · next c u hentry =>
    obtain ⟨_, hu, _, hgoing, _⟩ := (confirmEntry_eq_ok_iff ..).mp hentry
    split
    · exact h.refuse
    · next released rest _ =>
      have going := State.dropRecords_going (c := c) (fun v hv => by rw [hu, Option.some.injEq] at hv; exact hv ▸ hgoing) released
      have freed : ((s.dropRecords c released).modUse c fun u => { u with unconfirmed := rest }).TableLawful :=
        h.dropRecords.modUse fun v hv => ⟨⟨rfl, rfl⟩, (h.dropRecords.use hv).lists (going v hv) v.queue rest v.nextSequence v.fill⟩
      exact (State.TableLawful.checkAfterFall (freed.same (by simp))).complete

theorem State.TableLawful.requeueOn (h : s.TableLawful) {p : PortId} {c : ChannelId} : (s.requeueOn p c).TableLawful := by
  unfold State.requeueOn
  split
  · exact h
  · next u hu =>
    split
    · next hreached =>
      have marked : (s.markReplay u.unconfirmed).TableLawful := h.same (by simp)
      have moved : ((s.markReplay u.unconfirmed).modUse c fun u => { u with
          queue := u.unconfirmed ++ u.queue, unconfirmed := [], ring := u.ring.map fun r => { r with armed := false } }).TableLawful := by
        refine marked.modUse fun v hv => ⟨⟨rfl, rfl⟩, ?_⟩
        have hv' : v = u := by
          rw [← State.entry_use, State.markReplay_entry, State.entry_use, hu, Option.some.injEq] at hv
          exact hv.symm
        subst hv'
        exact ((h.use hu).lists hreached.2 (v.unconfirmed ++ v.queue) [] v.nextSequence v.fill).mapRing fun r => { r with armed := false }
      unfold State.requeueEntry
      dsimp only
      split
      · exact moved.tellParty
      · exact moved
    · exact h

/-! ## Holds -/

theorem State.TableLawful.poolHoldOn (h : s.TableLawful) {c : ChannelId} : (s.poolHoldOn c).TableLawful := by
  unfold State.poolHoldOn
  split
  · exact h
  · next u hu =>
    split
    · next hopen => exact h.enterHold fun v hv => by rw [hu, Option.some.injEq] at hv; exact hv ▸ hopen.1
    · exact h

theorem State.TableLawful.expireHold (h : s.TableLawful) {c : ChannelId} {u : Use} (hu : s.use c = some u) (hopen : u.stage = .opened) :
    (s.expireHold c u).TableLawful := by
  unfold State.expireHold
  split
  · exact h.endHold
  · exact h.renewHold fun v hv => by rw [hu, Option.some.injEq] at hv; exact hv ▸ hopen

/-! ## Detachments and resets -/

/-- The use of an OPEN entry that its consumer left by FLUSH (R149). -/
def Use.orphan (u : Use) (held : Nat) : Use :=
  { u with stage := .orphaned, consumer := none, ring := none, queue := [], unconfirmed := [], held := held, hold := none }

/-- What the departure of the consumer leaves of the entry (R149). -/
theorem State.orphanEntry_entry {c : ChannelId} {u : Use} (hu : s.use c = some u) (d : ChannelId) :
    (s.orphanEntry c u).entry d =
      if d = c then { s.entry c with use := some (u.orphan (u.held - s.pool.heldBy (u.unconfirmed ++ u.queue))) } else s.entry d := by
  by_cases hd : d = c <;> simp [State.orphanEntry, State.leaveOpen, State.dropRecords, hu, hd, Use.orphan]

theorem State.TableLawful.orphanEntry (h : s.TableLawful) {c : ChannelId} {u : Use} (hu : s.use c = some u) (hopen : u.stage = .opened) :
    (s.orphanEntry c u).TableLawful := by
  have hlaw := h.use hu
  have huse : (s.orphanEntry c u).use c = some (u.orphan (u.held - s.pool.heldBy (u.unconfirmed ++ u.queue))) := by
    rw [← State.entry_use, State.orphanEntry_entry hu, if_pos rfl]
  refine h.change (c := c) (fun d hd => by rw [State.orphanEntry_entry hu, if_neg hd]) (fun v hv => ?_) (fun v role q hv hq => ?_) fun hn => ?_
  · rw [huse, Option.some.injEq] at hv
    subst hv
    refine ⟨hlaw.terms, (Nat.sub_le _ _).trans hlaw.held, fun hsome => ?_, rfl, fun o ho => ?_, fun hs => ?_, fun _ => ?_⟩
    · cases hsome
    · cases ho
    · rcases hs with hs | hs | hs <;> cases hs
    · exact ⟨(hlaw.opened (.inl hopen)).1, rfl, rfl, rfl⟩
  · rw [huse, Option.some.injEq] at hv
    subst hv
    cases role with
    | producer => exact .inl ⟨u, hu, hq⟩
    | consumer => simp [Use.binds, Use.orphan] at hq
  · rw [huse] at hn; cases hn

theorem State.TableLawful.discardClosing (h : s.TableLawful) {c : ChannelId} {u : Use} (hu : s.use c = some u) (hclosing : u.stage = .closing) :
    (s.discardClosing c u).TableLawful := by
  have going := State.dropRecords_going (c := c) (fun v hv => by rw [hu, Option.some.injEq] at hv; exact hv ▸ Or.inr hclosing) (u.unconfirmed ++ u.queue)
  have emptied : ((s.dropRecords c (u.unconfirmed ++ u.queue)).modUse c fun u => { u with queue := [], unconfirmed := [] }).TableLawful :=
    h.dropRecords.modUse fun v hv => ⟨⟨rfl, rfl⟩, (h.dropRecords.use hv).lists (going v hv) [] [] v.nextSequence v.fill⟩
  exact State.TableLawful.freeEntry emptied.tellParty

theorem State.TableLawful.detachOn (h : s.TableLawful) {p : PortId} {c : ChannelId} {u : Use} (hu : s.use c = some u) :
    (s.detachOn p c u).TableLawful := by
  unfold State.detachOn
  split
  · split
    · exact h.withdrawOffer
    · exact h.declineOffer
  · next hstage =>
    split
    · exact h.orphanEntry hu hstage
    · exact (h.leaveOpen (fun v hv => by rw [hu, Option.some.injEq] at hv; exact hv ▸ Or.inl hstage) (.inl rfl)).drainCheck
  · next hstage =>
    split
    · exact h.discardClosing hu hstage
    · exact h
  · exact h
  · exact h.freeEntry

theorem State.TableLawful.takePortReset (h : s.TableLawful) {p : PortId} : (s.takePortReset p).TableLawful := by
  have worked : ∀ t : State, t.entries = s.entries → (t.resetPortWork p).TableLawful := fun t ht =>
    (State.TableLawful.endJob (State.TableLawful.abandonCopy (h.same ht))).same rfl
  unfold State.takePortReset State.resetByState
  dsimp only
  split <;> exact worked _ (by simp)

theorem State.TableLawful.takeHeldResets (h : s.TableLawful) (ps : List PortId) : (s.takeHeldResets ps).TableLawful := by
  induction ps generalizing s with
  | nil => exact h
  | cons p ps ih =>
    refine ih ?_
    split
    · exact h.takePortReset
    · exact h

end table

end Sys2Proof.Machine

namespace Sys2Proof.Machine

section table

variable {s : State}

/-! ## Commands, device reset and time -/

theorem State.TableLawful.readCountersBody (h : s.TableLawful) {p : PortId} : (readCountersBody p s).TableLawful := by
  unfold Machine.readCountersBody
  dsimp only
  split
  · exact h.refuse
  · next c u hentry =>
    have hc : s.use c ≠ none := by
      unfold readEntry at hentry
      split at hentry
      · cases hentry
      · split at hentry
        · cases hentry
        · split at hentry
          · cases hentry
          · next hu =>
            split at hentry
            · cases hentry; simp [hu]
            · cases hentry
    split
    · exact (h.modCounters hc).complete
    · exact h.complete

theorem State.TableLawful.commandBody (h : s.TableLawful) (p : PortId) (c : Command) : (commandBody p c s).TableLawful := by
  cases c with
  | offer => exact h.offerBody
  | accept => exact h.acceptBody
  | decline => exact h.declineBody
  | close => exact h.closeBody
  | post => exact h.postBody
  | land => exact h.landBody
  | confirm => exact h.confirmBody
  | query => exact h.same (by simp [Machine.commandBody])
  | readCounters => exact h.readCountersBody
  | setVector => exact h.same (by simp [Machine.commandBody])
  | attach => exact h.same (by simp [Machine.commandBody])
  | detach => exact h.same (by simp [Machine.commandBody])
  | armRetain => exact h.same (by simp [Machine.commandBody])
  | disarmRetain => exact h.same (by simp [Machine.commandBody])

/-- A write of the command word keeps the laws when the body does. -/
theorem State.TableLawful.takeCommand (h : s.TableLawful) {p : PortId} {kind : Byte} {notify : Bool} {body : State → State}
    (hbody : ∀ t : State, t.TableLawful → (body t).TableLawful) : (s.takeCommand p kind notify body).TableLawful :=
  State.takeCommand_cases s p kind notify body h (fun _ => h.modPiu) (fun _ _ => h.modPiu.refuse) fun _ _ _ _ _ => hbody _ h.modPiu

theorem State.TableLawful.commandWordWrite (h : s.TableLawful) {p : PortId} {kind : Byte} {notify : Bool} :
    (s.commandWordWrite p kind notify).TableLawful := by
  refine h.takeCommand fun t ht => ?_
  unfold kindBody
  split
  · exact ht
  · exact ht.commandBody _ _

theorem State.TableLawful.windowWrite (h : s.TableLawful) {p : PortId} {size : AccessSize} {offset : BitVec 13} {w : Word} :
    (s.windowWrite p size offset w).TableLawful := by
  unfold State.windowWrite
  split
  · exact h.same (by simp)
  · exact h.commandWordWrite
  · exact h
  · exact h
  · exact h.same (by simp)
  · exact h.creditWrite
  · exact h.same (by simp)
  · exact h.same (by simp)
  · exact h
  · exact h
  · exact h
  · exact h

/-- After device reset every entry is FREE, with zero counters (R33). -/
theorem State.reset_entry (c : ChannelId) : State.reset.entry c = Entry.reset := Table.read_fill Entry.reset c

/-- The laws hold of a Channel Table whose entries are all FREE with zero counters (R33). -/
theorem State.tableLawful_of_free (h : ∀ c, s.entry c = Entry.reset) : s.TableLawful := by
  have hnone : ∀ c, s.use c = none := fun c => congrArg Entry.use (h c)
  refine ⟨fun c u hu => ?_, fun role q c d u w hu => ?_, fun c _ => congrArg Entry.counters (h c)⟩
  · rw [hnone] at hu; cases hu
  · rw [hnone] at hu; cases hu

/-- A use whose running timers changed. -/
theorem Use.Lawful.mapTimers {u : Use} (h : u.Lawful) (f : Timer → Timer) : (u.mapTimers f).Lawful := by
  have hstage : ∀ st, (∀ o, st ≠ Stage.offered o) → (u.stage.mapTimer f = st ↔ u.stage = st) := by
    intro st hst
    cases hs : u.stage with
    | offered o => exact iff_of_false (fun e => hst _ e.symm) (fun e => hst _ e.symm)
    | opened => exact Iff.rfl
    | closing => exact Iff.rfl
    | ending => exact Iff.rfl
    | orphaned => exact Iff.rfl
  have hopened := hstage .opened (fun o => Stage.noConfusion)
  have hclosing := hstage .closing (fun o => Stage.noConfusion)
  have hending := hstage .ending (fun o => Stage.noConfusion)
  have horphaned := hstage .orphaned (fun o => Stage.noConfusion)
  refine ⟨h.terms, h.held, fun hsome => ?_, h.ring, fun o ho => ?_, fun hs => ?_, fun hs => ?_⟩
  · rw [Use.mapTimers, Option.isSome_map] at hsome
    exact hopened.mpr (h.hold hsome)
  · cases hs : u.stage with
    | offered o' =>
      rw [Use.mapTimers, hs] at ho
      cases ho
      exact h.offered o' hs
    | opened => rw [Use.mapTimers, hs] at ho; cases ho
    | closing => rw [Use.mapTimers, hs] at ho; cases ho
    | ending => rw [Use.mapTimers, hs] at ho; cases ho
    | orphaned => rw [Use.mapTimers, hs] at ho; cases ho
  · exact h.opened (hs.imp hopened.mp (Or.imp hclosing.mp hending.mp))
  · exact h.orphaned (horphaned.mp hs)

/-- A change of every running timer keeps the laws (R177). -/
theorem State.TableLawful.mapTimers (h : s.TableLawful) (f : Timer → Timer) : (s.mapTimers f).TableLawful := by
  have hentry : ∀ c, (s.mapTimers f).entry c = { s.entry c with use := (s.use c).map fun u => u.mapTimers f } := fun c => by
    simp [State.mapTimers, State.entry, State.use]
  have huse : ∀ c u, (s.mapTimers f).use c = some u → ∃ v, s.use c = some v ∧ v.mapTimers f = u := fun c u hu => by
    rw [← State.entry_use, hentry] at hu
    exact Option.map_eq_some_iff.mp hu
  refine ⟨fun c u hu => ?_, fun role q c d u w hu hw hqu hqw => ?_, fun c hc => ?_⟩
  · obtain ⟨v, hv, rfl⟩ := huse c u hu
    exact (h.use hv).mapTimers f
  · obtain ⟨v, hv, rfl⟩ := huse c u hu
    obtain ⟨x, hx, rfl⟩ := huse d w hw
    have same : ∀ y : Use, y.PartiesSame (y.mapTimers f) := fun _ => ⟨rfl, rfl⟩
    rw [(same _).binds] at hqu hqw
    exact h.2.1 role q c d v x hv hx hqu hqw
  · rw [← State.entry_use, hentry, Option.map_eq_none_iff] at hc
    rw [hentry]
    exact h.2.2 c hc

theorem State.TableLawful.passTime (h : s.TableLawful) : s.passTime.TableLawful := by
  by_cases hdue : s.overdue = []
  · rw [State.passTime_calm hdue]
    split
    · exact (h.mapTimers Timer.pass).same rfl
    · exact (h.mapTimers Timer.tick).same rfl
  · rw [State.passTime_due hdue]
    exact h.same rfl

/-! ## The rows of the device's own -/

theorem execCopyCompletion_tableLawful (h : s.TableLawful) (p : PortId) : ∃ t, execCopyCompletion p s = .next t ∧ t.TableLawful := by
  refine ⟨_, rfl, ?_⟩
  split
  · exact h
  · split
    · exact h.modPiu
    · next rec _ =>
      have copied : (s.copyPayload p rec (64 * segmentCount rec.length)).TableLawful := h.same rfl
      exact copied.modPiu.completeCopy

theorem execDetachmentOnEntry_tableLawful (h : s.TableLawful) (p : PortId) (c : ChannelId) :
    ∃ t, execDetachmentOnEntry p c s = .next t ∧ t.TableLawful := by
  refine ⟨_, rfl, ?_⟩
  have taken : (s.modPort p fun b => { b with flushOwed := b.flushOwed.erase c }).TableLawful := h.same rfl
  split
  · dsimp only
    split
    · exact taken
    · next hu =>
      split
      · exact taken.detachOn hu
      · exact taken
  · exact h

theorem execRequeue_tableLawful (h : s.TableLawful) (p : PortId) (c : ChannelId) : ∃ t, execRequeue p c s = .next t ∧ t.TableLawful := by
  refine ⟨_, rfl, ?_⟩
  have taken : (s.modPort p fun b => { b with requeueOwed := b.requeueOwed.erase c }).TableLawful := h.same rfl
  split
  · exact taken.requeueOn
  · exact h

theorem execPoolHoldRequest_tableLawful (h : s.TableLawful) (c : ChannelId) : ∃ t, execPoolHoldRequest c s = .next t ∧ t.TableLawful := by
  refine ⟨_, rfl, ?_⟩
  have taken : (s.takeHoldOwed c).TableLawful := h.same rfl
  split
  · exact taken.poolHoldOn
  · exact h

theorem execPoolRetest_tableLawful (h : s.TableLawful) (c : ChannelId) : ∃ t, execPoolRetest c s = .next t ∧ t.TableLawful := by
  refine ⟨_, rfl, ?_⟩
  have taken : (s.takeRetestOwed c).TableLawful := h.same rfl
  split
  · exact taken.releaseCheckAt
  · exact h

theorem execOfferTimerExpiry_tableLawful (h : s.TableLawful) (c : ChannelId) : ∃ t, execOfferTimerExpiry c s = .next t ∧ t.TableLawful := by
  refine ⟨_, rfl, ?_⟩
  split
  · exact h
  · split
    · split
      · exact h.expireOffer
      · exact h
    all_goals exact h

theorem execHoldTimerExpiry_tableLawful (h : s.TableLawful) (c : ChannelId) : ∃ t, execHoldTimerExpiry c s = .next t ∧ t.TableLawful := by
  refine ⟨_, rfl, ?_⟩
  split
  · exact h
  · next hu =>
    split
    · next hopen => exact h.expireHold hu hopen.1
    · exact h

theorem execLandingJobStart_tableLawful (h : s.TableLawful) (p : PortId) : ∃ t, execLandingJobStart p s = .next t ∧ t.TableLawful := by
  refine ⟨_, rfl, ?_⟩
  split
  · split
    · exact h
    · exact h.same (by simp)
  · exact h

theorem execSignalJobStart_tableLawful (h : s.TableLawful) (p : PortId) : ∃ t, execSignalJobStart p s = .next t ∧ t.TableLawful := by
  refine ⟨_, rfl, ?_⟩
  split
  · split
    · exact h
    · exact h.same (by simp)
  · exact h

theorem execLinkWriteOk_tableLawful (h : s.TableLawful) (a : LinkAnswer) : ∃ t, execLinkWriteOk a s = .next t ∧ t.TableLawful := by
  refine ⟨_, rfl, ?_⟩
  split
  · exact h
  · exact h.answerOk

theorem execLandingCompletion_tableLawful (h : s.TableLawful) (a : LinkAnswer) : ∃ t, execLandingCompletion a s = .next t ∧ t.TableLawful := by
  refine ⟨_, rfl, ?_⟩
  split
  · exact h.completeJob
  · exact h

theorem execFlushCompletion_tableLawful (h : s.TableLawful) (a : LinkAnswer) : ∃ t, execFlushCompletion a s = .next t ∧ t.TableLawful := by
  refine ⟨_, rfl, ?_⟩
  split
  · exact h.completeJob
  · exact h

theorem execSignalCompletion_tableLawful (h : s.TableLawful) (a : LinkAnswer) : ∃ t, execSignalCompletion a s = .next t ∧ t.TableLawful := by
  refine ⟨_, rfl, ?_⟩
  split
  · exact h.completeJob
  · exact h

theorem execLinkWriteError_tableLawful (h : s.TableLawful) (e : LinkError) : ∃ t, execLinkWriteError e s = .next t ∧ t.TableLawful := by
  refine ⟨_, rfl, ?_⟩
  have failed : (s.answerError e.port e.job).TableLawful := h.answerError
  split
  · exact failed.same (by simp)
  · exact failed

theorem execWriteTimeout_tableLawful (h : s.TableLawful) (e : LinkTimeout) : ∃ t, execWriteTimeout e s = .next t ∧ t.TableLawful := by
  refine ⟨_, rfl, ?_⟩
  have failed : (s.timeOut e.port).TableLawful := h.timeOut
  split
  · exact failed.same (by simp)
  · exact failed

theorem execPortReset_tableLawful (h : s.TableLawful) (p : PortId) : ∃ t, execPortReset p s = .next t ∧ t.TableLawful := by
  refine ⟨_, rfl, ?_⟩
  split
  · exact h.modPiu
  · split
    · exact h
    · exact h.modPiu.takePortReset

theorem execPortResetRelease_tableLawful (h : s.TableLawful) (p : PortId) : ∃ t, execPortResetRelease p s = .next t ∧ t.TableLawful := by
  refine ⟨_, rfl, ?_⟩
  split
  · exact h.modPiu
  · split
    · exact h.modPiu.settle
    · exact h

theorem execDeviceResetRelease_tableLawful (h : s.TableLawful) : ∃ t, execDeviceResetRelease s = .next t ∧ t.TableLawful := by
  refine ⟨_, rfl, ?_⟩
  have released : ({ s with resetPin := false } : State).TableLawful := h.same rfl
  split
  · exact released.takeHeldResets allPorts
  · exact h

/-- The rows that start a flush or fire a vector reach no entry (R134, R135). -/
theorem execFlushJobStart_tableLawful (h : s.TableLawful) (p : PortId) : ∃ t, execFlushJobStart p s = .next t ∧ t.TableLawful := by
  refine ⟨_, rfl, ?_⟩
  split
  · exact h.same rfl
  · exact h

theorem execCoalescingDelayExpiry_tableLawful (h : s.TableLawful) (p : PortId) (v : VectorId) :
    ∃ t, execCoalescingDelayExpiry p v s = .next t ∧ t.TableLawful := by
  refine ⟨_, rfl, ?_⟩
  split
  · exact h.same rfl
  · exact h

/-- Every command keeps the laws of the Channel Table. -/
theorem exec_tableLawful (h : s.TableLawful) (i : Instr) : ∃ t, exec i s = .next t ∧ t.TableLawful := by
  cases i with
  | composeBufferWrite p k w => exact ⟨_, rfl, h.same (by simp)⟩
  | creditWrite p k w => exact ⟨_, rfl, h.creditWrite⟩
  | eventReadIndexWrite p w => exact ⟨_, rfl, h.same (by simp)⟩
  | rearm p v w => exact ⟨_, rfl, h.same (by simp)⟩
  | windowWrite p z o w => exact ⟨_, rfl, h.windowWrite⟩
  | badCommand p k n => exact ⟨_, rfl, h.commandWordWrite⟩
  | cmdOverrun p k n => exact ⟨_, rfl, h.commandWordWrite⟩
  | deviceReset => exact ⟨_, rfl, State.tableLawful_of_free State.reset_entry⟩
  | deviceResetRelease => exact execDeviceResetRelease_tableLawful h
  | portReset p => exact execPortReset_tableLawful h p
  | portResetRelease p => exact execPortResetRelease_tableLawful h p
  | quiesceEnd p => exact ⟨_, rfl, h.settle⟩
  | detachmentOnEntry p c => exact execDetachmentOnEntry_tableLawful h p c
  | requeue p c => exact execRequeue_tableLawful h p c
  | poolHoldRequest c => exact execPoolHoldRequest_tableLawful h c
  | poolRetest c => exact execPoolRetest_tableLawful h c
  | offerTimerExpiry c => exact execOfferTimerExpiry_tableLawful h c
  | holdTimerExpiry c => exact execHoldTimerExpiry_tableLawful h c
  | coalescingDelayExpiry p v => exact execCoalescingDelayExpiry_tableLawful h p v
  | writeTimeout e => exact execWriteTimeout_tableLawful h e
  | copyCompletion p => exact execCopyCompletion_tableLawful h p
  | landingJobStart p => exact execLandingJobStart_tableLawful h p
  | flushJobStart p => exact execFlushJobStart_tableLawful h p
  | signalJobStart p => exact execSignalJobStart_tableLawful h p
  | linkWriteOk a => exact execLinkWriteOk_tableLawful h a
  | landingCompletion a => exact execLandingCompletion_tableLawful h a
  | flushCompletion a => exact execFlushCompletion_tableLawful h a
  | signalCompletion a => exact execSignalCompletion_tableLawful h a
  | linkWriteError e => exact execLinkWriteError_tableLawful h e
  | _ => exact ⟨_, exec_slotCommand rfl s, h.takeCommand fun _ ht => ht.commandBody _ _⟩

end table

/-- Settles O10: the laws of the Channel Table, kept by each command and by the passing of time. -/
theorem everyStepKeepsTheChannelTableLawful : Obligations.EveryStepKeepsTheChannelTableLawful := by
  intro s t hs h
  unfold step at h
  split at h
  · cases h
    exact State.TableLawful.passTime hs
  · next i rest _ =>
    have queued : ({ s with pending := rest } : State).TableLawful := State.TableLawful.same hs rfl
    obtain ⟨r, hr, hlaws⟩ := exec_tableLawful queued i
    rw [hr] at h
    cases h
    exact hlaws

end Sys2Proof.Machine

/-! # Proofs: resets, the queue, and what turns a window write away (O1, O3, O4, O5, O11, O12, O13, O14) -/

namespace Sys2Proof.Machine

/-! ## The queue and the pins -/

/-- Settles O1: a step is that by definition. -/
theorem stepRunsTheFrontCommand : Obligations.StepRunsTheFrontCommand := fun _ _ _ => rfl

/-- The queue and the levels of the five reset pins do not change. -/
structure State.PinsSame (s t : State) : Prop where
  pending : t.pending = s.pending
  device : t.resetPin = s.resetPin
  ports : ∀ q, (t.piu q).resetPin = (s.piu q).resetPin

/-- A body of a command changes neither the queue nor the RESET_n pin. -/
theorem commandBody_device (p : PortId) (c : Command) (s : State) :
    (commandBody p c s).pending = s.pending ∧ (commandBody p c s).resetPin = s.resetPin := by
  cases c <;> simp [commandBody]

/-- A write of the command word changes no pin and no queue (R160 to R164). -/
theorem State.PinsSame.takeCommand (s : State) {p : PortId} {k : Byte} {n : Bool} {body : State → State} (hbody : ∀ r : State, r.PinsSame (body r)) :
    s.PinsSame (s.takeCommand p k n body) := by
  refine ⟨?_, ?_, fun q => State.takeCommand_pin s p q k n body fun r => (hbody r).ports q⟩
  · refine State.takeCommand_cases (P := fun t => t.pending = s.pending) s p k n body rfl (fun _ => ?_) (fun _ st => ?_) fun _ _ _ _ _ => ?_
    · simp
    · simp
    · rw [(hbody _).pending, State.modPiu_pending]
  · refine State.takeCommand_cases (P := fun t => t.resetPin = s.resetPin) s p k n body rfl (fun _ => ?_) (fun _ st => ?_) fun _ _ _ _ _ => ?_
    · simp
    · simp
    · rw [(hbody _).device, State.modPiu_resetPin]

theorem commandBody_pinsSame (p : PortId) (c : Command) (s : State) : s.PinsSame (commandBody p c s) :=
  have ⟨hpending, hdevice⟩ := commandBody_device p c s
  ⟨hpending, hdevice, commandBody_pin p c s⟩

theorem State.PinsSame.commandWordWrite (s : State) (p : PortId) (k : Byte) (n : Bool) : s.PinsSame (s.commandWordWrite p k n) := by
  refine State.PinsSame.takeCommand s fun r => ?_
  unfold kindBody
  split
  · exact ⟨rfl, rfl, fun _ => rfl⟩
  · exact commandBody_pinsSame _ _ _

theorem State.PinsSame.composeWrite (s : State) (p : PortId) (k : Fin 256) (w : Word) : s.PinsSame (s.composeWrite p k w) :=
  ⟨by simp, by simp, by simp⟩

/-- A window write of any word changes no pin and no queue (R170). -/
theorem State.PinsSame.windowWrite (s : State) (p : PortId) (z : AccessSize) (o : BitVec 13) (w : Word) : s.PinsSame (s.windowWrite p z o w) := by
  unfold State.windowWrite
  split
  case h_1 => exact .composeWrite _ _ _ _
  case h_2 => exact .commandWordWrite _ _ _ _
  all_goals exact ⟨by simp, by simp, by simp⟩

/-- The requests owed to the entries are apart from the Port Interface Units. -/
theorem State.owed_piu (s : State) (p : PortId) (f g : Port → List ChannelId) (q : PortId) :
    (s.modPort p fun b => { b with flushOwed := f b, requeueOwed := g b }).piu q = s.piu q :=
  (State.modPort_blocks s p q (fun b => { b with flushOwed := f b, requeueOwed := g b }) fun _ => ⟨rfl, rfl, rfl⟩).1

/-- The rows that change the level of a reset pin. -/
def movesPin : Instr → Bool
  | .deviceReset | .deviceResetRelease | .portReset _ | .portResetRelease _ => true
  | _ => false

/-- Every row but those four answers a next state with the same pins and the same queue. -/
theorem exec_pinsSame (i : Instr) (s : State) (hi : movesPin i = false) : ∃ t, exec i s = .next t ∧ s.PinsSame t := by
  cases i with
  | composeBufferWrite p k w => exact ⟨_, rfl, .composeWrite s p k w⟩
  | creditWrite p k w => exact ⟨_, rfl, by simp, by simp, by simp⟩
  | eventReadIndexWrite p w => exact ⟨_, rfl, by simp, by simp, by simp⟩
  | rearm p v w => exact ⟨_, rfl, by simp, by simp, by simp⟩
  | windowWrite p z o w => exact ⟨_, rfl, .windowWrite s p z o w⟩
  | badCommand p k n => exact ⟨_, rfl, .commandWordWrite s p k n⟩
  | cmdOverrun p k n => exact ⟨_, rfl, .commandWordWrite s p k n⟩
  | deviceReset | deviceResetRelease | portReset p | portResetRelease p => cases hi
  | quiesceEnd p => exact ⟨_, rfl, by simp, by simp, by simp⟩
  | detachmentOnEntry p c =>
    refine ⟨_, rfl, ?_⟩
    dsimp only
    (repeat' split) <;> exact ⟨by simp, by simp, by simp [State.owed_piu]⟩
  | requeue p c =>
    refine ⟨_, rfl, ?_⟩
    split <;> exact ⟨by simp, by simp, by simp [State.owed_piu]⟩
  | poolHoldRequest c =>
    refine ⟨_, rfl, ?_⟩
    (repeat' split) <;> exact ⟨by simp, by simp, by simp⟩
  | poolRetest c =>
    refine ⟨_, rfl, ?_⟩
    (repeat' split) <;> exact ⟨by simp, by simp, by simp⟩
  | offerTimerExpiry c =>
    refine ⟨_, rfl, ?_⟩
    (repeat' split) <;> exact ⟨by simp, by simp, by simp⟩
  | holdTimerExpiry c =>
    refine ⟨_, rfl, ?_⟩
    (repeat' split) <;> exact ⟨by simp, by simp, by simp⟩
  | coalescingDelayExpiry p v =>
    refine ⟨_, rfl, ?_⟩
    (repeat' split) <;> exact ⟨by simp, by simp, by simp⟩
  | writeTimeout e =>
    refine ⟨_, rfl, ?_⟩
    (repeat' split) <;> exact ⟨by simp, by simp, by simp⟩
  | copyCompletion p =>
    refine ⟨_, rfl, ?_⟩
    have hcopy : ∀ (r : State) q, ((r.modPiu p fun u => { u with copy := none }).piu q).resetPin = (r.piu q).resetPin :=
      fun r q => State.modPiu_pin r p q _ fun _ => rfl
    (repeat' split) <;> exact ⟨by simp, by simp, by simp [hcopy, -State.modPiu_piu]⟩
  | landingJobStart p =>
    refine ⟨_, rfl, ?_⟩
    (repeat' split) <;> exact ⟨by simp, by simp, by simp⟩
  | flushJobStart p =>
    refine ⟨_, rfl, ?_⟩
    (repeat' split) <;> exact ⟨by simp, by simp, by simp⟩
  | signalJobStart p =>
    refine ⟨_, rfl, ?_⟩
    (repeat' split) <;> exact ⟨by simp, by simp, by simp⟩
  | linkWriteOk a =>
    refine ⟨_, rfl, ?_⟩
    (repeat' split) <;> exact ⟨by simp, by simp, by simp⟩
  | landingCompletion a =>
    refine ⟨_, rfl, ?_⟩
    (repeat' split) <;> exact ⟨by simp, by simp, by simp⟩
  | flushCompletion a =>
    refine ⟨_, rfl, ?_⟩
    (repeat' split) <;> exact ⟨by simp, by simp, by simp⟩
  | signalCompletion a =>
    refine ⟨_, rfl, ?_⟩
    (repeat' split) <;> exact ⟨by simp, by simp, by simp⟩
  | linkWriteError e =>
    refine ⟨_, rfl, ?_⟩
    (repeat' split) <;> exact ⟨by simp, by simp, by simp⟩
  | _ => exact ⟨_, exec_slotCommand rfl s, .takeCommand s (commandBody_pinsSame _ _)⟩

/-- DEVICE_RESET keeps the queue and the levels of the PnRST_n pins (R176). -/
theorem execDeviceReset_pins (s : State) :
    ∃ t, execDeviceReset s = .next t ∧ t.pending = s.pending ∧ ∀ q, (t.piu q).resetPin = (s.piu q).resetPin :=
  ⟨_, rfl, rfl, fun q => by simp [State.piu, State.port, Port.resetWith]⟩

/-- The queue is no port's. -/
theorem execDeviceResetRelease_pins (s : State) :
    ∃ t, execDeviceResetRelease s = .next t ∧ t.pending = s.pending ∧ ∀ q, (t.piu q).resetPin = (s.piu q).resetPin := by
  refine ⟨_, rfl, ?_⟩
  split
  · exact ⟨by simp, fun q => by rw [State.takeHeldResets_pin]; rfl⟩
  · exact ⟨rfl, fun _ => rfl⟩

/-- PORT_RESET moves the port's own pin only (R154, R176). -/
theorem execPortReset_pins (p : PortId) (s : State) :
    ∃ t, execPortReset p s = .next t ∧ t.pending = s.pending ∧ t.resetPin = s.resetPin ∧ ∀ q, q ≠ p → (t.piu q).resetPin = (s.piu q).resetPin := by
  refine ⟨_, rfl, ?_⟩
  (repeat' split) <;> exact ⟨by simp, by simp, fun q hq => by simp [hq]⟩

/-- PORT_RESET_RELEASE moves the port's own pin only (R176). -/
theorem execPortResetRelease_pins (p : PortId) (s : State) :
    ∃ t, execPortResetRelease p s = .next t ∧ t.pending = s.pending ∧ t.resetPin = s.resetPin ∧
      ∀ q, q ≠ p → (t.piu q).resetPin = (s.piu q).resetPin := by
  refine ⟨_, rfl, ?_⟩
  (repeat' split) <;> exact ⟨by simp, by simp, fun q hq => by simp [hq]⟩

/-- Settles O5, by whether the row is one of a reset pin. -/
theorem everyCommandAnswersANextState : Obligations.EveryCommandAnswersANextState := by
  intro i s
  by_cases hi : movesPin i = false
  · obtain ⟨t, ht, hsame⟩ := exec_pinsSame i s hi
    exact ⟨t, ht, hsame.pending, .inl hsame.device, fun p => .inl (hsame.ports p)⟩
  · cases i with
    | deviceReset =>
      obtain ⟨t, ht, hpending, hports⟩ := execDeviceReset_pins s
      exact ⟨t, ht, hpending, .inr (.inl rfl), fun p => .inl (hports p)⟩
    | deviceResetRelease =>
      obtain ⟨t, ht, hpending, hports⟩ := execDeviceResetRelease_pins s
      exact ⟨t, ht, hpending, .inr (.inr rfl), fun p => .inl (hports p)⟩
    | portReset p =>
      obtain ⟨t, ht, hpending, hdevice, hports⟩ := execPortReset_pins p s
      refine ⟨t, ht, hpending, .inl hdevice, fun q => ?_⟩
      by_cases hq : q = p
      · exact .inr (.inl (hq ▸ rfl))
      · exact .inl (hports q hq)
    | portResetRelease p =>
      obtain ⟨t, ht, hpending, hdevice, hports⟩ := execPortResetRelease_pins p s
      refine ⟨t, ht, hpending, .inl hdevice, fun q => ?_⟩
      by_cases hq : q = p
      · exact .inr (.inr (hq ▸ rfl))
      · exact .inl (hports q hq)
    | _ => exact absurd rfl hi

/-! ## Device reset -/

/-- The blocks that device reset gives a port have the values of the reset tables. -/
theorem Port.resetWith_atReset (pin : Bool) (jobs : Nat) : (Port.resetWith pin jobs).AtReset where
  portState := ⟨rfl, rfl, rfl⟩
  slot := ⟨rfl, Table.read_fill 0, rfl, rfl, rfl, rfl, rfl, Table.read_fill 0, rfl⟩
  buffer := ⟨fun _ => rfl, rfl, rfl⟩
  credit := Table.read_fill 0
  eventRead := rfl
  writer := ⟨rfl, rfl, rfl, rfl⟩
  backlog := ⟨rfl, rfl, rfl, rfl, rfl, rfl⟩
  words := ⟨Table.read_fill _, Table.read_fill _⟩
  vectors := ⟨fun v => by rw [show (Port.resetWith pin jobs).nu.vectors.read v = Coalescer.reset from Table.read_fill Coalescer.reset v]
                          exact ⟨rfl, rfl, rfl, rfl, rfl, rfl⟩, rfl, rfl⟩

/-- Element `i` of the ascending numbers from `k` on. -/
theorem ascending_getElem? (n : Nat) [NeZero n] (k m i : Nat) (h : i < m) : (ascending n k m)[i]? = some (Fin.ofNat n (k + i)) := by
  induction m generalizing k i with
  | zero => omega
  | succ m ih =>
    cases i with
    | zero => rfl
    | succ i =>
      rw [ascending, List.getElem?_cons_succ, ih (k + 1) i (by omega)]
      congr 2
      omega

/-- Every number is its own place among the ascending numbers. -/
theorem ascending_getElem?_self {n : Nat} [NeZero n] (i : Fin n) : (ascending n 0 n)[i.val]? = some i := by
  rw [ascending_getElem? n 0 n i.val i.isLt]
  simp

/-- A state whose blocks are those of device reset has the values of the reset tables. -/
theorem State.atReset_of_blocks {s : State} (hpool : s.pool = Pool.reset) (hentries : s.entries = State.reset.entries)
    (hrobin : s.roundRobin = State.reset.roundRobin) (hports : ∀ p, (s.port p).AtReset) : s.AtReset where
  segments := fun _ => by rw [hpool]; rfl
  segFree := by rw [hpool]; exact ⟨length_ascending 2048 0 2048, ascending_getElem?_self⟩
  recFree := by rw [hpool]; exact ⟨length_ascending 1024 0 1024, ascending_getElem?_self⟩
  records := fun r => by rw [State.record, hpool]; exact Pool.reset_record r
  level := by rw [hpool]; rfl
  entries := fun c => by rw [State.entry, hentries]; exact State.reset_entry c
  roundRobin := fun p k => by rw [hrobin]; exact (congrArg (Table.read · k) (Table.read_fill _ p)).trans (Table.read_fill _ k)
  ports := hports

/-- The blocks of a port in the reset state. -/
theorem State.reset_port (p : PortId) : State.reset.port p = Port.resetWith false 0 := Table.read_fill Port.reset p

/-- A change of a port that gives it its own blocks is none. -/
theorem State.modPort_self {s : State} {p : PortId} {f : Port → Port} (h : f (s.port p) = s.port p) : s.modPort p f = s := by
  have hports : s.ports.write p (s.port p) = s.ports := Table.ext fun q => by
    rw [Table.read_write]
    split
    · next hq => rw [hq]; rfl
    · rfl
  rw [State.modPort, h, State.setPort, hports]

/-- A port reset of a port that is as device reset left it changes nothing (R154, R176). -/
theorem State.takePortReset_resetWith {s : State} {p : PortId} {pin : Bool} {jobs : Nat} (h : s.port p = Port.resetWith pin jobs) :
    s.takePortReset p = s := by
  have hpiu : s.piu p = { Piu.reset with resetPin := pin } := congrArg Port.piu h
  have hwriter : s.writer p = { Writer.reset with jobs := jobs } := congrArg Port.writer h
  have hfault : s.takeFault p = s := State.takeFault_none (by rw [hpiu]; rfl)
  have hcopy : s.abandonCopy p = s := by simp [State.abandonCopy, hpiu, Piu.reset]
  have hjob : s.endJob p = s := by
    have hsame : (s.modWriter p fun w => { w with state := .stopped }) = s := State.modPort_self (by rw [h]; rfl)
    simp [State.endJob, hwriter, Writer.reset, hsame]
  have hclear : s.modPiu p Piu.clear = s := State.modPort_self (by rw [h]; rfl)
  rw [State.takePortReset, hfault, State.resetByState, hpiu]
  exact (congrArg (State.modPiu · p Piu.clear) ((congrArg (State.endJob · p) hcopy).trans hjob)).trans hclear

/-- The PnRST_n pins found asserted at the deassertion of RESET_n change nothing when every port is as device reset left it (R176). -/
theorem State.takeHeldResets_resetWith {s : State} (h : ∀ p, ∃ pin jobs, s.port p = Port.resetWith pin jobs) (ps : List PortId) :
    s.takeHeldResets ps = s := by
  induction ps with
  | nil => rfl
  | cons p ps ih =>
    obtain ⟨pin, jobs, hp⟩ := h p
    rw [State.takeHeldResets, State.takePortReset_resetWith hp, ite_self, ih]

/-- Settles O3, block by block. -/
theorem deviceResetGivesTheResetValues : Obligations.DeviceResetGivesTheResetValues := by
  refine ⟨State.atReset_of_blocks rfl rfl rfl fun p => ?_, fun s => ⟨_, rfl, State.atReset_of_blocks rfl rfl rfl fun p => ?_, rfl, rfl, rfl, rfl, rfl,
    fun p => ?_, ?_⟩⟩
  · rw [State.reset_port]
    exact Port.resetWith_atReset _ _
  · simp only [State.port, Table.read_build]
    exact Port.resetWith_atReset _ _
  · simp [State.piu, State.writer, State.port, Port.resetWith, Port.reset]
  · refine congrArg Host.Outcome.next ?_
    rw [if_pos rfl]
    refine State.takeHeldResets_resetWith (fun p => ?_) allPorts
    exact ⟨_, _, Table.read_build _ p⟩

/-- Settles O4, from the laws of the pool, of the ports and of the Channel Table at reset. -/
theorem resetStateIsSafe : Obligations.ResetStateIsSafe := by
  obtain ⟨hentries, hslots, hcounters⟩ := State.tableLawful_of_free State.reset_entry
  have hempty : Memory.wf [] := ⟨List.Pairwise.nil, fun c hc => by cases hc⟩
  refine ⟨Pool.reset_lawful, ⟨hempty, fun p => ?_⟩, fun p => ?_, hentries, hslots, hcounters⟩
  · rw [State.piu, State.reset_port]
    exact hempty
  · rw [State.reset_port]
    exact ⟨Port.resetWith_noticeLawful _ _, Port.writerLawful_stopped rfl (by decide) rfl, Port.lockLawful_unlocked rfl⟩

/-! ## Window writes and command words that are turned away -/

/-- A command word that finds the window closed is discarded (R154, R170). -/
theorem State.takeCommand_closed {s : State} {p : PortId} (h : s.windowClosed p = true) (k : Byte) (n : Bool) (body : State → State) :
    s.takeCommand p k n body = s := by
  simp [State.takeCommand, h]

/-- A command word that finds the slot BUSY is an overrun (R163). -/
theorem State.takeCommand_busy {s : State} {p : PortId} (h : s.WindowOpen p) (hbusy : (s.piu p).slot.busy = true) (k : Byte) (n : Bool)
    (body : State → State) :
    s.takeCommand p k n body = s.modPiu p fun u => { u with slot := { u.slot with overrun := true } } := by
  simp [State.takeCommand, h.notClosed, hbusy]

/-- A window that is not open is closed. -/
theorem State.windowClosed_of_not_open {s : State} {p : PortId} (h : ¬ s.WindowOpen p) : s.windowClosed p = true := by
  unfold State.windowClosed
  cases hdevice : s.resetPin <;> cases hport : (s.piu p).resetPin
  case false.false => exact absurd ⟨hdevice, hport⟩ h
  all_goals rfl

/-- A row that writes a command word takes the command of its kind. -/
theorem exec_commandWord {i : Instr} {p : PortId} {k : Byte} {n : Bool} (h : commandWordOf i = some (p, k, n)) (s : State) :
    ∃ body, exec i s = .next (s.takeCommand p k n body) := by
  cases i
  case badCommand | cmdOverrun =>
    cases h
    exact ⟨_, rfl⟩
  all_goals
    cases h <;> exact ⟨_, rfl⟩

/-- Settles O12, for the two rows of any kind and the fourteen of a command alike. -/
theorem commandWordToABusySlotIsAnOverrun : Obligations.CommandWordToABusySlotIsAnOverrun := by
  intro i p k n s hi hopen hbusy
  obtain ⟨body, hexec⟩ := exec_commandWord hi s
  rw [hexec, State.takeCommand_busy hopen hbusy]

/-- A window write that finds the window closed is discarded, whatever its word (R154, R170). -/
theorem State.windowWrite_closed {s : State} {p : PortId} (h : s.windowClosed p = true) (z : AccessSize) (o : BitVec 13) (w : Word) :
    s.windowWrite p z o w = s := by
  unfold State.windowWrite
  split <;> simp [State.composeWrite, State.commandWordWrite, State.takeCommand_closed, State.argumentWrite, State.creditWrite, State.eventReadWrite,
    State.rearmWrite, h]

/-- Settles O11, by the kind of window write. -/
theorem windowWritesAreDiscardedUnderReset : Obligations.WindowWritesAreDiscardedUnderReset := by
  intro i p s hi hopen
  have hclosed := State.windowClosed_of_not_open hopen
  cases i
  case composeBufferWrite => cases hi; exact congrArg Host.Outcome.next (by simp [State.composeWrite, hclosed])
  case creditWrite => cases hi; exact congrArg Host.Outcome.next (by simp [State.creditWrite, hclosed])
  case eventReadIndexWrite => cases hi; exact congrArg Host.Outcome.next (by simp [State.eventReadWrite, hclosed])
  case rearm => cases hi; exact congrArg Host.Outcome.next (by simp [State.rearmWrite, hclosed])
  case windowWrite => cases hi; exact congrArg Host.Outcome.next (State.windowWrite_closed hclosed _ _ _)
  all_goals cases hi <;> exact congrArg Host.Outcome.next (State.takeCommand_closed hclosed _ _ _)

/-- A kind that no command has names none (R162 test 1). -/
theorem commandOfKind_badCommand {p : PortId} {k : Byte} {n : Bool} (h : (Instr.badCommand p k n).WellFormed = true) :
    commandOfKind k.toNat = none := by
  simpa [Instr.WellFormed] using h

/-- Settles O13: the slot takes the command word and refuses it before any body runs. -/
theorem unknownKindIsABadCommand : Obligations.UnknownKindIsABadCommand := by
  intro p k n s hk hs
  refine ⟨_, congrArg Host.Outcome.next ?_, State.TurnedAway.intro s p k n .badCommand⟩
  simp [State.commandWordWrite, State.takeCommand, hs.1.notClosed, hs.2, commandOfKind_badCommand hk]

/-- Settles O14, by the port state: the hypothesis names the commands that Table 10-2 does not allow in it. -/
theorem portStateTurnsCommandsAway : Obligations.PortStateTurnsCommandsAway := by
  intro i p c n s hi hs hstate
  refine exec_badState hi hs ?_
  cases h : (s.piu p).state <;> rw [h] at hstate
  case detached => simpa [admits] using hstate
  case attached => simpa [admits] using hstate
  case quiescing => rfl
  all_goals
    revert hstate
    cases c <;> decide

end Sys2Proof.Machine

/-! # Events over a chain of operations, and commands that complete -/

namespace Sys2Proof.Machine

/-! ## Events over a chain of operations -/

/-- The same events, listed in another way. -/
theorem State.EventsMade.congr {s t : State} {ns ms : PortId → List Notice} (h : s.EventsMade t ns) (hn : ∀ q, ns q = ms q) : s.EventsMade t ms :=
  (funext hn : ns = ms) ▸ h

/-- Between `s` and `t` the events `ns` were handed and no port state changed, so that the events of a next step can follow. -/
structure State.Told (s t : State) (ns : PortId → List Notice) : Prop where
  events : s.EventsMade t ns
  states : ∀ q, (t.piu q).state = (s.piu q).state

section told

variable {s t : State} {ns : PortId → List Notice}

theorem State.Told.refl (s : State) : s.Told s fun _ => [] := ⟨.ofEq fun _ => rfl, fun _ => rfl⟩

theorem State.Told.trans (h : s.Told t ns) {u : State} {ms : PortId → List Notice} (k : t.Told u ms) : s.Told u fun q => ns q ++ ms q :=
  ⟨h.events.trans k.events h.states, fun q => (k.states q).trans (h.states q)⟩

/-- A step that makes no event and changes no port state. -/
theorem State.Told.silent (h : s.Told t ns) {u : State} (k : t.EventsMade u fun _ => []) (hstates : ∀ q, (u.piu q).state = (t.piu q).state) :
    s.Told u ns :=
  ⟨h.events.thenNone k h.states, fun q => (hstates q).trans (h.states q)⟩

/-- A step that changes nothing of the ports. -/
theorem State.Told.others (h : s.Told t ns) {u : State} (hports : u.ports = t.ports) : s.Told u ns :=
  h.silent (.ofEq fun q => congrArg Port.nu (State.port_congr hports q)) fun q => congrArg (fun b => b.piu.state) (State.port_congr hports q)

theorem State.Told.setEntry (h : s.Told t ns) {c : ChannelId} {e : Entry} : s.Told (t.setEntry c e) ns := h.others rfl
theorem State.Told.modUse (h : s.Told t ns) {c : ChannelId} {f : Use → Use} : s.Told (t.modUse c f) ns := h.others rfl
theorem State.Told.modCounters (h : s.Told t ns) {c : ChannelId} {f : Counters → Counters} : s.Told (t.modCounters c f) ns := h.others rfl
theorem State.Told.setPool (h : s.Told t ns) {pool : Pool} : s.Told (t.setPool pool) ns := h.others rfl
theorem State.Told.modRecord (h : s.Told t ns) {r : RecordId} {f : Record → Record} : s.Told (t.modRecord r f) ns := h.others rfl
theorem State.Told.dropRecords (h : s.Told t ns) {c : ChannelId} {rs : List RecordId} : s.Told (t.dropRecords c rs) ns := h.others rfl
theorem State.Told.copyPayload (h : s.Told t ns) {p : PortId} {rec : Record} {n : Nat} : s.Told (t.copyPayload p rec n) ns := h.others rfl
theorem State.Told.countFreeValue (h : s.Told t ns) : s.Told t.countFreeValue ns := h.others rfl

/-- A change of a Port Interface Unit that keeps the port state makes no event. -/
theorem State.Told.modPiu (h : s.Told t ns) {p : PortId} {f : Piu → Piu} (hf : (f (t.piu p)).state = (t.piu p).state) : s.Told (t.modPiu p f) ns :=
  h.silent (.ofEq fun q => State.modPiu_nu ..) fun q => by
    rw [State.modPiu_piu]
    split
    · next hq => rw [hf, hq]
    · rfl

theorem State.Told.modWriter (h : s.Told t ns) {p : PortId} {f : Writer → Writer} : s.Told (t.modWriter p f) ns :=
  h.silent (.ofEq fun _ => State.modWriter_nu ..) fun _ => congrArg Piu.state (State.modWriter_piu ..)

theorem State.Told.bindConsumer (h : s.Told t ns) {a : Party} {c : ChannelId} : s.Told (t.bindConsumer a c) ns :=
  h.silent (.bindConsumer t a c) fun q => by rw [State.bindConsumer_piu]; split <;> rfl

theorem State.Told.bindProducer (h : s.Told t ns) {a : Party} {c : ChannelId} : s.Told (t.bindProducer a c) ns :=
  h.silent (.bindProducer t a c) fun q => by simp

theorem State.Told.unbindConsumer (h : s.Told t ns) {a : Option Party} : s.Told (t.unbindConsumer a) ns :=
  h.silent (.unbindConsumer t a) fun q => by simp

theorem State.Told.handHold (h : s.Told t ns) {a : Option Party} {held : Bool} : s.Told (t.handHold a held) ns :=
  h.silent (.handHold t a held) fun q => by simp

theorem State.Told.handWriteIndex (h : s.Told t ns) {a : Option Party} {w : Half} : s.Told (t.handWriteIndex a w) ns :=
  h.silent (.handWriteIndex t a w) fun q => by simp

theorem State.Told.freeEntry (h : s.Told t ns) {c : ChannelId} : s.Told (t.freeEntry c) ns :=
  h.silent (.freeEntry t c) fun q => by simp

theorem State.Told.leaveOpen (h : s.Told t ns) {c : ChannelId} {stage : Stage} : s.Told (t.leaveOpen c stage) ns :=
  h.silent (.leaveOpen t c stage) fun q => by simp

/-- An event for a port, whatever it is attributed to. -/
theorem State.Told.event (h : s.Told t ns) {p : PortId} {kind : EventKind} {qualifier channel : Byte} {detail : Half} {slot : Option SlotId} :
    s.Told (t.event p kind qualifier channel detail slot) fun q => ns q ++ if q = p then [⟨kind, qualifier, channel, detail, slot⟩] else [] :=
  h.trans ⟨.event t p kind qualifier channel detail slot, fun q => by simp⟩

theorem State.Told.tellParty (h : s.Told t ns) {a : Option Party} {kind : EventKind} {qualifier : Byte} {c : ChannelId} {detail : Half} :
    s.Told (t.tellParty a kind qualifier c detail) fun q => ns q ++ noticeTo a kind qualifier c detail q :=
  h.trans ⟨.tellParty t a kind qualifier c detail, fun q => by simp⟩

theorem State.Told.portEvent (h : s.Told t ns) {p : PortId} {kind : EventKind} {c : ChannelId} {detail : Half} :
    s.Told (t.portEvent p kind c detail) fun q => ns q ++ noticeToPort p kind c detail q :=
  h.trans ⟨.portEvent t p kind c detail, fun q => by simp⟩

/-- A completion, with COMMAND_DONE when the slot holds NOTIFY (R166). -/
theorem State.Told.complete (h : s.Told t ns) {p : PortId} {k : Byte} {n : Bool} (hk : (t.piu p).slot.kind = k) (hn : (t.piu p).slot.notify = n)
    {status : Status} {results : Table Word 4} : s.Told (t.complete p status results) fun q => ns q ++ noticeDone p n k status q := by
  subst hk hn
  refine h.trans ⟨.complete t p status results, fun q => ?_⟩
  rw [State.complete_piu]
  split
  · next hq => rw [hq]
  · rfl

end told

/-! ## Commands that complete -/

/-- The state in which the body of a command runs: its slot holds the command (R162). -/
abbrev State.latched (s : State) (p : PortId) (k : Byte) (n : Bool) : State := s.modPiu p fun u => u.latch k n

/-- Taking a command makes no event. -/
theorem State.Told.latched (s : State) (p : PortId) (k : Byte) (n : Bool) : s.Told (s.latched p k n) fun _ => [] := (State.Told.refl s).modPiu rfl

/-- A command whose body ends in a completion completes at the step that takes it. -/
theorem exec_completes {i : Instr} {p : PortId} {c : Command} {n : Bool} (h : slotCommand i = some (p, c, n)) {s r : State} (hs : s.SlotReady p)
    (ha : admits (s.piu p).state c = true) {status : Status} {results : Table Word 4}
    (hb : commandBody p c (s.latched p (kindOf c) n) = r.complete p status results) : exec i s = .next (r.complete p status results) := by
  rw [exec_taken h hs ha]
  exact congrArg _ hb

/-- A completion at the step that takes the command, when the body left the Port Interface Units alone: the port is answered (R165). -/
theorem State.Answered.complete {s r : State} {p : PortId} {k : Byte} {n : Bool} (hk : k ≠ kindOf .post)
    (hpiu : ∀ q, r.piu q = (s.latched p k n).piu q) (status : Status) (results : Table Word 4) :
    s.Answered (r.complete p status results) p k n status results := by
  refine ⟨?_, fun q hq => ?_⟩
  · rw [State.complete_piu, if_pos rfl, hpiu, State.modPiu_piu, if_pos rfl]
    simp [Piu.latch, CommandSlot.answered, hk]
  · rw [State.complete_piu, if_neg hq, hpiu, State.modPiu_piu, if_neg hq]

/-- The events of a command that completes at the step that takes it: those of its body, then COMMAND_DONE when it asked for one (R166). -/
theorem State.Told.completed {s r : State} {p : PortId} {k : Byte} {n : Bool} {ns : PortId → List Notice} (h : (s.latched p k n).Told r ns)
    (hk : (r.piu p).slot.kind = k) (hn : (r.piu p).slot.notify = n) (status : Status) (results : Table Word 4) :
    s.EventsMade (r.complete p status results) fun q => ns q ++ noticeDone p n k status q :=
  (((State.Told.latched s p k n).trans h).complete hk hn).events.congr fun _ => rfl

/-- The kind and NOTIFY of a slot just taken, in a state with the same Port Interface Units. -/
theorem State.latched_slot {s r : State} {p : PortId} {k : Byte} {n : Bool} (hpiu : ∀ q, r.piu q = (s.latched p k n).piu q) :
    (r.piu p).slot.kind = k ∧ (r.piu p).slot.notify = n := by
  rw [hpiu, State.modPiu_piu, if_pos rfl]
  exact ⟨rfl, rfl⟩

/-! ## Slot words over a chain of operations -/

/-- Changes of slot words do not see steps before them and after them that change none. -/
theorem State.WordsSet.congr {s s' t t' : State} {a : Option Party} {f : ConsumerWord → ConsumerWord} {b : Option Party}
    {g : ProducerWord → ProducerWord} (h : s.WordsSet t a f b g) (hs : s'.WordsSame s) (ht : t.WordsSame t') : s'.WordsSet t' a f b g :=
  ⟨fun q i => by rw [(ht q).1, h.1 q i, (hs q).1], fun q i => by rw [(ht q).2, h.2 q i, (hs q).2]⟩

theorem State.WordsSame.latched (s : State) (p : PortId) (k : Byte) (n : Bool) : s.WordsSame (s.latched p k n) := fun q => by simp

/-! ## Frees -/

/-- A free never takes the pool out of NORMAL (R15). -/
theorem Pool.freeOne_level (pool : Pool) (r : RecordId) : (pool.freeOne r).level = pool.level := by
  unfold Pool.freeOne
  split <;> rfl

theorem Pool.foldFree_level (pool : Pool) (rs : List RecordId) : (rs.foldl Pool.freeOne pool).level = pool.level := by
  induction rs generalizing pool with
  | nil => rfl
  | cons r rs ih => rw [List.foldl_cons, ih, Pool.freeOne_level]

theorem Pool.free_normal {pool : Pool} (h : pool.level = .normal) (rs : List RecordId) : (pool.free rs).level = .normal := by
  unfold Pool.free Pool.recoverTest
  split
  · rfl
  · rw [Pool.foldFree_level, h]

/-- A free owes retests, and never a hold (R112, R116). -/
theorem State.PoolFreed.free (s : State) (rs : List RecordId) : s.PoolFreed (s.setPool (s.pool.free rs)) rs := by
  refine ⟨rfl, ?_, rfl⟩
  refine if_neg fun h => ?_
  rw [Pool.free_normal h.1] at h
  cases h.2

/-- A free does not see changes before it and after it that reach neither the pool nor the requests of the pool. -/
theorem State.PoolFreed.congr {s s' t t' : State} {rs : List RecordId} (h : s.PoolFreed t rs) (hs : s'.PoolSame s) (ht : t.PoolSame t') :
    s'.PoolFreed t' rs := by
  obtain ⟨hpool, hhold, hretest⟩ := h
  obtain ⟨hpool', hhold', hretest'⟩ := hs
  obtain ⟨hpool'', hhold'', hretest''⟩ := ht
  refine ⟨?_, ?_, ?_⟩
  · rw [hpool'', hpool, hpool']
  · rw [hhold'', hhold, hhold']
  · rw [hretest'', hretest, hpool', hretest']

theorem State.PoolFreed.dropRecords (s : State) (c : ChannelId) (rs : List RecordId) : s.PoolFreed (s.dropRecords c rs) rs := .free s rs

/-- What a free of an entry's records leaves of the Channel Table (R28). -/
@[simp] theorem State.dropRecords_entry (s : State) (c : ChannelId) (rs : List RecordId) (d : ChannelId) :
    (s.dropRecords c rs).entry d =
      if d = c then { s.entry c with use := (s.use c).map fun u => { u with held := u.held - s.pool.heldBy rs } } else s.entry d := by
  simp [State.dropRecords]

@[simp] theorem State.dropRecords_use (s : State) (c : ChannelId) (rs : List RecordId) (d : ChannelId) :
    (s.dropRecords c rs).use d = if d = c then (s.use c).map fun u => { u with held := u.held - s.pool.heldBy rs } else s.use d := by
  simp [State.dropRecords]

/-- What one record in use holds (R28). -/
theorem Pool.heldBy_singleton {pool : Pool} {r : RecordId} {rec : Record} (h : pool.records.read r = some rec) :
    pool.heldBy [r] = segmentCount rec.length := by
  simp [Pool.heldBy, h]

/-! ## Searches -/

/-- A search of ascending numbers finds the first that fits. -/
theorem find?_ascending (n : Nat) [NeZero n] {f : Fin n → Bool} (k m i : Nat) (hi : i < m) (hf : f (Fin.ofNat n (k + i)) = true)
    (hno : ∀ j, j < i → f (Fin.ofNat n (k + j)) = false) : (ascending n k m).find? f = some (Fin.ofNat n (k + i)) := by
  induction m generalizing k i with
  | zero => omega
  | succ m ih =>
    cases i with
    | zero => exact List.find?_cons_of_pos hf
    | succ i =>
      rw [ascending, List.find?_cons_of_neg (by simpa using hno 0 (by omega))]
      have hshift : ∀ j, k + (j + 1) = k + 1 + j := fun j => by omega
      refine (ih (k + 1) i (by omega) (hshift i ▸ hf) fun j hj => ?_).trans (congrArg (fun x => some (Fin.ofNat n x)) (hshift i).symm)
      exact hshift j ▸ hno (j + 1) (by omega)

/-- A search of all numbers finds the lowest that fits. -/
theorem find?_ascending_all {n : Nat} [NeZero n] {f : Fin n → Bool} {c : Fin n} (hc : f c = true) (hno : ∀ d, d < c → f d = false) :
    (ascending n 0 n).find? f = some c := by
  have hself : ∀ j, j < n → (Fin.ofNat n (0 + j)).val = j := fun j hj => by simp [Fin.ofNat, Nat.mod_eq_of_lt hj]
  have hofNat : Fin.ofNat n (0 + c.val) = c := Fin.ext (hself c.val c.isLt)
  refine (find?_ascending n 0 n c.val c.isLt ((congrArg f hofNat).trans hc) fun j hj => hno _ ?_).trans (congrArg some hofNat)
  rw [Fin.lt_def, hself j (hj.trans c.isLt)]
  exact hj

/-- The lowest FREE entry is found (R20). -/
theorem State.lowestFree_eq_some {s : State} {c : ChannelId} (hc : s.use c = none) (hlow : ∀ d, d < c → s.use d ≠ none) : s.lowestFree = some c :=
  find?_ascending_all (by simp [hc]) fun d hd => by simpa using Option.ne_none_iff_isSome.mp (hlow d hd)

/-- With every entry in use no entry is found (R20). -/
theorem State.lowestFree_eq_none {s : State} (h : ∀ c, s.use c ≠ none) : s.lowestFree = none := by
  simp [State.lowestFree, h]

end Sys2Proof.Machine

/-! # Proofs: OFFER and ACCEPT (O17, O18, O19, O20, O21) -/

namespace Sys2Proof.Machine

/-! ## Ranges -/

/-- The slot counts are the powers of two from 4 to 1024 (R26). -/
theorem slotCountOk_iff (n : Nat) : slotCountOk n = true ↔ ∃ k, 2 ≤ k ∧ k ≤ 10 ∧ n = 2 ^ k := by
  simp only [slotCountOk, List.contains_iff_mem, List.mem_cons, List.not_mem_nil, or_false]
  constructor
  · rintro (rfl | rfl | rfl | rfl | rfl | rfl | rfl | rfl | rfl)
    exacts [⟨2, by decide⟩, ⟨3, by decide⟩, ⟨4, by decide⟩, ⟨5, by decide⟩, ⟨6, by decide⟩, ⟨7, by decide⟩, ⟨8, by decide⟩, ⟨9, by decide⟩,
      ⟨10, by decide⟩]
  · rintro ⟨k, h2, h10, rfl⟩
    interval_cases k <;> simp

/-- The ranges of a landing ring's arguments (R34, R37, R93). -/
theorem ringOk_iff (r : RingArgs) :
    ringOk r = true ↔ r.base.toNat % 64 = 0 ∧ (∃ k, 2 ≤ k ∧ k ≤ 10 ∧ r.slotCount = 2 ^ k) ∧ 1 ≤ r.slotUnits ∧ r.slotUnits ≤ 17 := by
  simp only [ringOk, Bool.and_eq_true, decide_eq_true_eq, slotCountOk_iff, and_assoc]

/-- The ranges of OFFER's arguments (R34). -/
theorem OfferArgs.inRange_iff (a : OfferArgs) (p : PortId) : a.inRange p = true ↔
    a.peer < 4 ∧ a.peer ≠ p.val ∧ a.role ≤ 1 ∧ a.cls ≤ 1 ∧ a.priority ≤ 3 ∧ (1 ≤ a.maxLength ∧ a.maxLength ≤ 1024) ∧ (1 ≤ a.quota ∧ a.quota ≤ 1024) ∧
      (1 ≤ a.holdMark ∧ a.holdMark ≤ a.quota) ∧ a.releaseMark < a.holdMark ∧ (1 ≤ a.holdInterval ∧ a.holdInterval ≤ 65535) ∧
      (a.cls = 1 → 1 ≤ a.window ∧ a.window ≤ 255) ∧ (1 ≤ a.timeout ∧ a.timeout ≤ 255) ∧ a.slot ≤ 15 ∧
      (a.role = 1 → a.ring.base.toNat % 64 = 0 ∧ (∃ k, 2 ≤ k ∧ k ≤ 10 ∧ a.ring.slotCount = 2 ^ k) ∧ 1 ≤ a.ring.slotUnits ∧ a.ring.slotUnits ≤ 17) := by
  simp only [OfferArgs.inRange, Bool.and_eq_true, Bool.or_eq_true, decide_eq_true_eq, bne_iff_ne, ne_eq, ringOk_iff, and_assoc]
  have either : ∀ {x : Nat} {P : Prop}, x ≤ 1 → ((x = 0 ∨ P) ↔ (x = 1 → P)) := fun {x P} hx => by
    interval_cases x <;> simp
  refine and_congr_right fun _ => and_congr_right fun _ => and_congr_right fun hrole => and_congr_right fun hcls => ?_
  rw [either hrole, either hcls]

/-- The role that OFFER's arguments name is the producer's or the consumer's (R34). -/
theorem OfferArgs.role_le {a : OfferArgs} {p : PortId} (h : a.inRange p = true) : a.role ≤ 1 := by
  obtain ⟨_, _, hrole, _⟩ := (a.inRange_iff p).mp h
  exact hrole

/-- Test 3 of Table 3-1 passes: a consumer's landing slots take the greatest message (R26). -/
def OfferArgs.Fits (a : OfferArgs) : Prop := a.role = 1 → a.maxLength + 16 ≤ 64 * a.ring.slotUnits

/-- Test 3 of Table 3-1, for arguments in range. -/
theorem OfferArgs.fits_iff {a : OfferArgs} {p : PortId} (h : a.inRange p = true) {role : Role} (hrole : role = if a.role = 0 then .producer else .consumer) :
    ¬ (role = .consumer ∧ ¬ ringFits a.ring a.maxLength) ↔ a.Fits := by
  have hle := OfferArgs.role_le h
  subst hrole
  unfold OfferArgs.Fits ringFits
  rcases Nat.le_one_iff_eq_zero_or_eq_one.mp hle with h0 | h1
  · simp [h0]
  · simp [h1]

/-! ## The tests of OFFER -/

section tests

variable {s : State} {p : PortId} {a : OfferArgs}

/-- Test 2: the ranges. -/
theorem offerRefusal_badArg (h : a.inRange p = false) : offerRefusal s p a = some .badArg := by
  rw [offerRefusal_eq s p a rfl, if_pos (by simp [h])]

/-- Test 3: the landing slots. -/
theorem offerRefusal_ringTooSmall (h : a.inRange p = true) (hfits : ¬ a.Fits) : offerRefusal s p a = some .ringTooSmall := by
  rw [offerRefusal_eq s p a rfl, if_neg (not_not_intro h), if_pos (not_not.mp (mt (OfferArgs.fits_iff h rfl).mp hfits))]

/-- Tests 4 and 5 of an offer that passed tests 2 and 3. -/
theorem offerRefusal_of_fits (h : a.inRange p = true) (hfits : a.Fits) {role : Role} (hrole : role = if a.role = 0 then .producer else .consumer) :
    offerRefusal s p a =
      if (s.boundTo role ⟨p, Fin.ofNat 16 a.slot⟩).isSome then some .slotInUse
      else if ¬ s.attached (Fin.ofNat 4 a.peer) then some .peerAbsent
      else none := by
  rw [offerRefusal_eq s p a hrole, if_neg (not_not_intro h), if_neg ((OfferArgs.fits_iff h hrole).mpr hfits)]

/-- Test 4: the slot. -/
theorem offerRefusal_slotInUse (h : a.inRange p = true) (hfits : a.Fits) {role : Role} (hrole : role = if a.role = 0 then .producer else .consumer)
    (hbound : ¬ s.SlotUnbound role ⟨p, Fin.ofNat 16 a.slot⟩) : offerRefusal s p a = some .slotInUse := by
  rw [offerRefusal_of_fits h hfits hrole, if_pos (by rwa [← s.boundTo_isNone, Bool.not_eq_false] at hbound)]

/-- Test 5: the peer. -/
theorem offerRefusal_peerAbsent (h : a.inRange p = true) (hfits : a.Fits) {role : Role} (hrole : role = if a.role = 0 then .producer else .consumer)
    (hslot : s.SlotUnbound role ⟨p, Fin.ofNat 16 a.slot⟩) (hpeer : s.attached (Fin.ofNat 4 a.peer) = false) : offerRefusal s p a = some .peerAbsent := by
  rw [offerRefusal_of_fits h hfits hrole, (s.boundTo_isNone _ _).mpr hslot, hpeer]
  rfl

/-- Every test passed. -/
theorem offerRefusal_passed (h : a.inRange p = true) (hfits : a.Fits) {role : Role} (hrole : role = if a.role = 0 then .producer else .consumer)
    (hslot : s.SlotUnbound role ⟨p, Fin.ofNat 16 a.slot⟩) (hpeer : s.attached (Fin.ofNat 4 a.peer) = true) : offerRefusal s p a = none := by
  rw [offerRefusal_of_fits h hfits hrole, (s.boundTo_isNone _ _).mpr hslot, hpeer]
  rfl

end tests

/-- OFFER refused by tests 2 to 5. -/
theorem offerBody_refused {s : State} {p : PortId} {w : Table Word 8} (hw : s.args p = w) {st : Status} (h : offerRefusal s p (offerArgs w) = some st) :
    offerBody p s = s.refuse p st := by
  subst hw
  unfold offerBody
  dsimp only
  rw [h]

/-- OFFER with every test passed but no FREE entry. -/
theorem offerBody_full {s : State} {p : PortId} {w : Table Word 8} (hw : s.args p = w) (h : offerRefusal s p (offerArgs w) = none)
    (hfull : s.lowestFree = none) : offerBody p s = s.refuse p .noChannel := by
  subst hw
  unfold offerBody
  dsimp only
  rw [h]
  dsimp only
  rw [hfull]

/-- OFFER with every test passed takes the lowest FREE entry. -/
theorem offerBody_takes {s : State} {p : PortId} {w : Table Word 8} (hw : s.args p = w) (h : offerRefusal s p (offerArgs w) = none) {c : ChannelId}
    (hc : s.lowestFree = some c) : offerBody p s = offerTake s p (offerArgs w) c := by
  subst hw
  unfold offerBody
  dsimp only
  rw [h]
  dsimp only
  rw [hc]

/-- Taking a command leaves ports ATTACHED or not. -/
theorem State.latched_attached (s : State) (p q : PortId) (k : Byte) (n : Bool) : (s.latched p k n).attached q = s.attached q := by
  rw [State.attached, State.attached, State.latch_state]

/-- Settles O18: the tests in order, each passed test a hypothesis of the next. -/
theorem offerIsRefusedByTheFirstTestThatFails : Obligations.OfferIsRefusedByTheFirstTestThatFails := by
  refine ⟨OfferArgs.inRange_iff, fun p n s => ?_⟩
  intro a q role fits refused hs hstate
  have hadmits : admits (s.piu p).state .offer = true := by rw [hstate]; rfl
  have refuse : ∀ {st}, offerBody p (s.latched p (kindOf .offer) n) = (s.latched p (kindOf .offer) n).refuse p st → refused st :=
    fun hbody => exec_refused rfl hs hadmits hbody
  have hargs : (s.latched p (kindOf .offer) n).args p = (s.piu p).slot.arguments := State.args_latch ..
  have hattached := s.latched_attached p (Fin.ofNat 4 a.peer) (kindOf .offer) n
  refine ⟨fun hrange => ?_, fun hrange hfits => ?_, fun hrange hfits hslot => ?_, fun hrange hfits hslot hpeer => ?_,
    fun hrange hfits hslot hpeer hfull => ?_⟩
  · exact refuse (offerBody_refused hargs (offerRefusal_badArg hrange))
  · exact refuse (offerBody_refused hargs (offerRefusal_ringTooSmall hrange hfits))
  · exact refuse (offerBody_refused hargs (offerRefusal_slotInUse hrange hfits rfl hslot))
  · exact refuse (offerBody_refused hargs (offerRefusal_peerAbsent hrange hfits rfl hslot (by rw [hattached]; exact decide_eq_false hpeer)))
  · exact refuse (offerBody_full hargs (offerRefusal_passed hrange hfits rfl hslot (by rw [hattached]; exact decide_eq_true hpeer))
      (State.lowestFree_eq_none hfull))

/-! ## An OFFER that is taken -/

/-- The entry taken and the offeror's slot bound, before the peer is told (R25, R35). -/
def offerBind (s : State) (p : PortId) (a : OfferArgs) (c : ChannelId) : State :=
  let taken := s.setEntry c ⟨(s.entry c).generation + 1, Counters.zero, some (offerUse p a)⟩
  if a.role = 0 then taken.bindProducer ⟨p, Fin.ofNat 16 a.slot⟩ c else taken.bindConsumer ⟨p, Fin.ofNat 16 a.slot⟩ c

section offerBind

variable (s : State) (p : PortId) (a : OfferArgs) (c : ChannelId)

theorem offerTake_eq : offerTake s p a c =
    ((offerBind s p a c).portEvent (Fin.ofNat 4 a.peer) .offerReceived c
      (offerDetail ((s.entry c).generation + 1) p (a.role ≠ 0) (a.cls ≠ 0))).complete p .done
      (resultWords c.val ((s.entry c).generation + 1).toNat 0 0) := rfl

theorem offerBind_entry (d : ChannelId) :
    (offerBind s p a c).entry d = if d = c then ⟨(s.entry c).generation + 1, Counters.zero, some (offerUse p a)⟩ else s.entry d := by
  unfold offerBind
  dsimp only
  split <;> simp

theorem offerBind_piu (q : PortId) :
    (offerBind s p a c).piu q =
      if q = p then { s.piu p with credit := if a.role = 0 then (s.piu p).credit else (s.piu p).credit.write (Fin.ofNat 16 a.slot) 0 }
      else s.piu q := by
  unfold offerBind
  by_cases hq : q = p <;> by_cases hrole : a.role = 0 <;> simp [hq, hrole]

theorem offerBind_told : s.Told (offerBind s p a c) fun _ => [] := by
  unfold offerBind
  dsimp only
  split
  · exact (State.Told.refl s).setEntry.bindProducer
  · exact (State.Told.refl s).setEntry.bindConsumer

theorem offerBind_wordsSet :
    s.WordsSet (offerBind s p a c) (if a.role = 0 then none else some ⟨p, Fin.ofNat 16 a.slot⟩) (fun _ => ⟨true, c, 0⟩)
      (if a.role = 0 then some ⟨p, Fin.ofNat 16 a.slot⟩ else none) fun _ => ⟨true, false, c, 65535⟩ := by
  unfold offerBind
  by_cases hrole : a.role = 0
  · refine ⟨fun q i => by simp [hrole], fun q i => ?_⟩
    simp [hrole, eq_comm (a := q), eq_comm (a := i)]
  · refine ⟨fun q i => ?_, fun q i => by simp [hrole]⟩
    simp [hrole, eq_comm (a := q), eq_comm (a := i)]

theorem offerBind_poolSame : s.PoolSame (offerBind s p a c) := by
  unfold offerBind
  dsimp only
  split <;> simp [State.PoolSame]

theorem offerBind_deviceSame : s.DeviceSame (offerBind s p a c) := by
  unfold offerBind
  dsimp only
  split <;> simp [State.DeviceSame]

end offerBind

/-- Settles O17: the entry taken and the slot bound, then the event and the completion. -/
theorem offerTakesTheLowestFreeEntry : Obligations.OfferTakesTheLowestFreeEntry := by
  intro p n s c a q peer g hs hstate hrange hfits hslot hpeer hfree hlow
  have hadmits : admits (s.piu p).state .offer = true := by rw [hstate]; rfl
  have hpassed : offerRefusal (s.latched p (kindOf .offer) n) p a = none :=
    offerRefusal_passed hrange hfits rfl hslot ((s.latched_attached ..).trans (decide_eq_true hpeer))
  have hbody := (offerBody_takes (State.args_latch ..) hpassed (State.lowestFree_eq_some hfree hlow)).trans (offerTake_eq _ p a c)
  have hpiu : ∀ x, (offerBind (s.latched p (kindOf .offer) n) p a c).piu x = if x = p then { (s.piu p).latch (kindOf .offer) n with
      credit := if a.role = 0 then (s.piu p).credit else (s.piu p).credit.write (Fin.ofNat 16 a.slot) 0 } else s.piu x := fun x => by
    by_cases hx : x = p <;> simp [offerBind_piu, hx, Piu.latch]
  have htold := (offerBind_told (s.latched p (kindOf .offer) n) p a c).portEvent (p := peer) (kind := .offerReceived) (c := c)
    (detail := offerDetail g p (a.role ≠ 0) (a.cls ≠ 0))
  refine ⟨_, exec_completes rfl hs hadmits hbody, ?_, fun d hd => ?_, ?_, fun x hx => ?_, ?_, ?_, ?_, ?_⟩
  · rw [State.complete_entry, State.portEvent_entry, offerBind_entry, if_pos rfl]
    rfl
  · rw [State.complete_entry, State.portEvent_entry, offerBind_entry, if_neg hd, State.modPiu_entry]
  · rw [State.complete_piu, if_pos rfl, State.portEvent_piu, hpiu, if_pos rfl]
    rfl
  · rw [State.complete_piu, if_neg hx, State.portEvent_piu, hpiu, if_neg hx]
  · refine (htold.completed ?_ ?_ _ _).congr fun x => rfl
    · rw [State.portEvent_piu, hpiu, if_pos rfl]; rfl
    · rw [State.portEvent_piu, hpiu, if_pos rfl]; rfl
  · exact (offerBind_wordsSet ..).congr (.latched s p (kindOf .offer) n) fun x => by simp
  · simpa [State.PoolSame] using offerBind_poolSame (s.latched p (kindOf .offer) n) p a c
  · simpa [State.DeviceSame] using offerBind_deviceSame (s.latched p (kindOf .offer) n) p a c

/-! ## The tests of ACCEPT -/

section tests

variable {s : State} {p : PortId} {u : Use} {slot : Nat} {r : RingArgs}

/-- A slot number names the slot of that number (11). -/
theorem slotOf_eq_some_iff (n : Nat) (i : SlotId) : slotOf n = some i ↔ n = i.val := by
  unfold slotOf
  split
  · simp [Fin.ext_iff]
  · have := i.isLt
    simp only [reduceCtorEq, false_iff]
    omega

/-- Test 3 of R37 passes when the slot named, if there is one, is unbound. -/
theorem slotTaken_iff (role : Role) :
    (slotOf slot).any (fun i => (s.boundTo role ⟨p, i⟩).isSome) = true ↔ ¬ ∀ i : SlotId, slot = i.val → s.SlotUnbound role ⟨p, i⟩ := by
  simp only [← slotOf_eq_some_iff, ← s.boundTo_isNone]
  cases slotOf slot <;> simp [Option.isSome_iff_ne_none]

/-- Test 3: the slot. -/
theorem acceptRefusal_slotInUse (h : ¬ ∀ i : SlotId, slot = i.val → s.SlotUnbound (peerRole u) ⟨p, i⟩) :
    acceptRefusal s p u slot r = some .slotInUse := if_pos ((slotTaken_iff _).mpr h)

/-- Tests 4 and 5 of an ACCEPT that passed test 3. -/
theorem acceptRefusal_of_unbound (h : ∀ i : SlotId, slot = i.val → s.SlotUnbound (peerRole u) ⟨p, i⟩) :
    acceptRefusal s p u slot r =
      if peerRole u = .consumer ∧ ¬ ringFits r u.terms.maxLength then some .ringTooSmall
      else if (slotOf slot).isNone ∨ (peerRole u = .consumer ∧ ¬ ringOk r) then some .badArg
      else none := if_neg (mt (slotTaken_iff _).mp (not_not_intro h))

/-- The landing slots take the greatest message (R26). -/
theorem ringFits_iff (r : RingArgs) (n : Nat) : ringFits r n = true ↔ n + 16 ≤ 64 * r.slotUnits := by simp [ringFits]

/-- Test 4: the landing slots. -/
theorem acceptRefusal_ringTooSmall (h : ∀ i : SlotId, slot = i.val → s.SlotUnbound (peerRole u) ⟨p, i⟩) (hrole : peerRole u = .consumer)
    (hfits : 64 * r.slotUnits < u.terms.maxLength + 16) : acceptRefusal s p u slot r = some .ringTooSmall := by
  rw [acceptRefusal_of_unbound h, if_pos ⟨hrole, by rw [ringFits_iff]; omega⟩]

/-- Test 5: the ranges. -/
theorem acceptRefusal_badArg (h : ∀ i : SlotId, slot = i.val → s.SlotUnbound (peerRole u) ⟨p, i⟩)
    (hfits : peerRole u = .consumer → u.terms.maxLength + 16 ≤ 64 * r.slotUnits) (hrange : 15 < slot ∨ (peerRole u = .consumer ∧ ringOk r = false)) :
    acceptRefusal s p u slot r = some .badArg := by
  rw [acceptRefusal_of_unbound h, if_neg fun hbad => hbad.2 ((ringFits_iff ..).mpr (hfits hbad.1)), if_pos]
  refine hrange.imp (fun hslot => ?_) fun hring => by simpa using hring
  rw [slotOf, dif_neg (by omega)]
  rfl

/-- Every test passed. -/
theorem acceptRefusal_passed {i : SlotId} (hslot : slot = i.val) (h : s.SlotUnbound (peerRole u) ⟨p, i⟩)
    (hring : peerRole u = .consumer → ringOk r = true ∧ u.terms.maxLength + 16 ≤ 64 * r.slotUnits) : acceptRefusal s p u slot r = none := by
  have hunbound : ∀ j : SlotId, slot = j.val → s.SlotUnbound (peerRole u) ⟨p, j⟩ := fun j hj => by rwa [← Fin.ext (hslot.symm.trans hj)]
  rw [acceptRefusal_of_unbound hunbound, if_neg fun hbad => hbad.2 ((ringFits_iff ..).mpr (hring hbad.1).2), if_neg]
  rintro (hnone | ⟨hrole, hbad⟩)
  · rw [(slotOf_eq_some_iff slot i).mpr hslot] at hnone
    cases hnone
  · exact hbad (hring hrole).1

end tests

/-- ACCEPT of no offer to the port is refused with LATE (R37). -/
theorem acceptBody_late {s : State} {p : PortId} {w : Table Word 8} (hw : s.args p = w)
    (h : ∀ c u o, ¬ s.OfferNamed p (channelArg w) (generationArg w) c u o) : acceptBody p s = s.refuse p .late := by
  subst hw
  unfold acceptBody
  dsimp only
  rw [offerNamed_eq_none h]

/-- ACCEPT of an offer refused by tests 3 to 5. -/
theorem acceptBody_refused {s : State} {p : PortId} {w : Table Word 8} (hw : s.args p = w) {c : ChannelId} {u : Use} {o : Offer}
    (h : s.OfferNamed p (channelArg w) (generationArg w) c u o) {st : Status}
    (hst : acceptRefusal s p u (acceptSlotArg w) (ringArgs w) = some st) : acceptBody p s = s.refuse p st := by
  subst hw
  unfold acceptBody
  dsimp only
  rw [(offerNamed_eq_some_iff ..).mpr h]
  dsimp only
  rw [hst]

/-- ACCEPT of an offer with every test passed. -/
theorem acceptBody_takes {s : State} {p : PortId} {w : Table Word 8} (hw : s.args p = w) {c : ChannelId} {u : Use} {o : Offer}
    (h : s.OfferNamed p (channelArg w) (generationArg w) c u o) (hst : acceptRefusal s p u (acceptSlotArg w) (ringArgs w) = none)
    {i : SlotId} (hi : acceptSlotArg w = i.val) : acceptBody p s = acceptTake s p c u o i (ringArgs w) := by
  subst hw
  unfold acceptBody
  dsimp only
  rw [(offerNamed_eq_some_iff ..).mpr h]
  dsimp only
  rw [hst]
  dsimp only
  rw [hi, show Fin.ofNat 16 i.val = i from Fin.ext (Nat.mod_eq_of_lt i.isLt)]

/-- Settles O21: the tests in order, each passed test a hypothesis of the next. -/
theorem acceptIsRefusedByTheFirstTestThatFails : Obligations.AcceptIsRefusedByTheFirstTestThatFails := by
  intro p n s w r refused hs hstate
  have hadmits : admits (s.piu p).state .accept = true := by rw [hstate]; rfl
  have refuse : ∀ {st}, acceptBody p (s.latched p (kindOf .accept) n) = (s.latched p (kindOf .accept) n).refuse p st → refused st :=
    fun hbody => exec_refused rfl hs hadmits hbody
  have hargs : (s.latched p (kindOf .accept) n).args p = w := State.args_latch ..
  refine ⟨fun hnone => refuse (acceptBody_late hargs hnone), fun c u o hnamed => ⟨fun hslot => ?_, fun hslot hrole hfits => ?_,
    fun hslot hfits hrange => ?_⟩⟩
  · exact refuse (acceptBody_refused hargs hnamed (acceptRefusal_slotInUse hslot))
  · exact refuse (acceptBody_refused hargs hnamed (acceptRefusal_ringTooSmall hslot hrole hfits))
  · exact refuse (acceptBody_refused hargs hnamed (acceptRefusal_badArg hslot hfits hrange))

/-! ## An ACCEPT that opens the channel -/

section acceptTake

variable {s : State} {u : Use}

/-- ACCEPT by a peer that becomes the consumer (R38). -/
theorem acceptTake_consumer (hrole : u.producer.isSome = true) (p : PortId) (c : ChannelId) (o : Offer) (i : SlotId) (r : RingArgs) :
    acceptTake s p c u o i r =
      ((acceptAsConsumer s c ⟨p, i⟩ r).tellParty u.producer .channelOpen 0 c (openDetail (s.entry c).generation p)).complete p .done
        (resultWords c.val (s.entry c).generation.toNat o.offeror.val 0) := by
  have hpeer : peerRole u = .consumer := if_pos hrole
  unfold acceptTake
  rw [hpeer]

/-- The new producer is told that the offering consumer is away, where it is (R39). -/
def acceptNotified (s : State) (p : PortId) (c : ChannelId) (u : Use) (o : Offer) (i : SlotId) : State :=
  ((acceptAsProducer s c ⟨p, i⟩ u (!s.away o.offeror)).tellParty u.consumer .channelOpen 0 c (openDetail (s.entry c).generation p)).tellParty
    (if s.away o.offeror then some ⟨p, i⟩ else none) .consumerAway 0 c (generationDetail (s.entry c).generation)

/-- ACCEPT by a peer that becomes the producer (R38, R39). -/
theorem acceptTake_producer (hrole : u.producer = none) (p : PortId) (c : ChannelId) (o : Offer) (i : SlotId) (r : RingArgs) :
    acceptTake s p c u o i r =
      (acceptNotified s p c u o i).complete p .done (resultWords c.val (s.entry c).generation.toNat o.offeror.val 0) := by
  have hpeer : peerRole u = .producer := if_neg (by simp [hrole])
  unfold acceptTake acceptNotified
  rw [hpeer]
  dsimp only
  split <;> rfl

variable (s u)

theorem acceptAsConsumer_told (c : ChannelId) (q : Party) (r : RingArgs) : s.Told (acceptAsConsumer s c q r) fun _ => [] :=
  (State.Told.refl s).modUse.bindConsumer

theorem acceptAsProducer_told (c : ChannelId) (q : Party) (armed : Bool) : s.Told (acceptAsProducer s c q u armed) fun _ => [] := by
  unfold acceptAsProducer
  dsimp only
  split
  · exact (State.Told.refl s).modUse.bindProducer.handWriteIndex
  · exact (State.Told.refl s).modUse.bindProducer

theorem acceptAsProducer_entry (c : ChannelId) (q : Party) (armed : Bool) (d : ChannelId) :
    (acceptAsProducer s c q u armed).entry d =
      if d = c then { s.entry c with use := (s.use c).map fun u => { u with
        stage := .opened, producer := some q, ring := u.ring.map fun r => { r with armed := armed, writeIndex := 0, readIndex := 0 } } }
      else s.entry d := by
  unfold acceptAsProducer
  dsimp only
  split <;> simp

theorem acceptAsProducer_piu (c : ChannelId) (q : Party) (armed : Bool) (x : PortId) : (acceptAsProducer s c q u armed).piu x = s.piu x := by
  unfold acceptAsProducer
  dsimp only
  split <;> simp

theorem acceptAsProducer_wordsSet (c : ChannelId) (q : Party) (armed : Bool) :
    s.WordsSet (acceptAsProducer s c q u armed) (if armed then u.consumer else none) (fun x => { x with writeIndex := 0 }) (some q)
      fun _ => ⟨true, false, c, 65535⟩ := by
  obtain ⟨port, slot⟩ := q
  unfold acceptAsProducer
  cases armed <;> exact ⟨fun q i => by simp, fun q i => by simp [eq_comm (a := q), eq_comm (a := i)]⟩

theorem acceptAsProducer_poolSame (c : ChannelId) (q : Party) (armed : Bool) : s.PoolSame (acceptAsProducer s c q u armed) := by
  unfold acceptAsProducer
  dsimp only
  split <;> simp [State.PoolSame]

theorem acceptAsProducer_deviceSame (c : ChannelId) (q : Party) (armed : Bool) : s.DeviceSame (acceptAsProducer s c q u armed) := by
  unfold acceptAsProducer
  dsimp only
  split <;> simp [State.DeviceSame]

end acceptTake

/-- Settles O19: the slot bound with its ring, then the event and the completion. -/
theorem acceptByTheConsumerOpensTheChannel : Obligations.AcceptByTheConsumerOpensTheChannel := by
  intro p n s c u o i w r g hs hstate hnamed hproducer hi hslot hring hfits
  have hadmits : admits (s.piu p).state .accept = true := by rw [hstate]; rfl
  have hrole : peerRole u = .consumer := if_pos hproducer
  have ⟨_, hu, _⟩ := hnamed
  have hpassed : acceptRefusal (s.latched p (kindOf .accept) n) p u (acceptSlotArg w) r = none :=
    acceptRefusal_passed hi (by rw [hrole]; exact hslot) fun _ => ⟨hring, hfits⟩
  have hbody := (acceptBody_takes (State.args_latch ..) hnamed hpassed hi).trans (acceptTake_consumer hproducer p c o i r)
  have htold := (acceptAsConsumer_told (s.latched p (kindOf .accept) n) c ⟨p, i⟩ r).tellParty (a := u.producer) (kind := .channelOpen) (qualifier := 0)
    (c := c) (detail := openDetail g p)
  have huse : (s.latched p (kindOf .accept) n).use c = some u := hu
  refine ⟨_, exec_completes rfl hs hadmits hbody, ?_, fun d hd => ?_, ?_, fun x hx => ?_, ?_, ⟨fun x k => ?_, fun x k => ?_⟩, ?_, ?_⟩
  · simp [acceptAsConsumer, hu, RingArgs.ring, r]
  · simp [acceptAsConsumer, hd]
  · simp [acceptAsConsumer, Piu.latch, CommandSlot.answered, kindOf]
    rfl
  · simp [acceptAsConsumer, hx]
  · refine (htold.completed ?_ ?_ _ _).congr fun x => rfl
    · simp [acceptAsConsumer]
    · simp [acceptAsConsumer]
  · simp [acceptAsConsumer, eq_comm (a := x), eq_comm (a := k)]
  · simp [acceptAsConsumer]
  · simp [acceptAsConsumer, State.PoolSame]
  · simp [acceptAsConsumer, State.DeviceSame]

/-- Settles O20: the slot bound and the ring armed or not, then the events and the completion. -/
theorem acceptByTheProducerOpensTheChannel : Obligations.AcceptByTheProducerOpensTheChannel := by
  intro p n s c u o i w g away hs hstate hnamed hproducer hi hslot
  have hadmits : admits (s.piu p).state .accept = true := by rw [hstate]; rfl
  have hrole : peerRole u = .producer := if_neg (by simp [hproducer])
  have ⟨_, hu, _⟩ := hnamed
  have hpassed : acceptRefusal (s.latched p (kindOf .accept) n) p u (acceptSlotArg w) (ringArgs w) = none :=
    acceptRefusal_passed hi (by rw [hrole]; exact hslot) fun h => by rw [hrole] at h; cases h
  have hbody := (acceptBody_takes (State.args_latch ..) hnamed hpassed hi).trans (acceptTake_producer hproducer p c o i _)
  have haway : (s.latched p (kindOf .accept) n).away o.offeror = decide away := by
    rw [State.away, State.latch_state]
    exact (Bool.decide_or ..).symm
  have htold := ((acceptAsProducer_told (s.latched p (kindOf .accept) n) u c ⟨p, i⟩ (!(s.latched p (kindOf .accept) n).away o.offeror)).tellParty
    (a := u.consumer) (kind := .channelOpen) (qualifier := 0) (c := c) (detail := openDetail g p)).tellParty
    (a := if (s.latched p (kindOf .accept) n).away o.offeror then some ⟨p, i⟩ else none) (kind := .consumerAway) (qualifier := 0) (c := c)
    (detail := generationDetail g)
  have hpiu : ∀ x, (acceptNotified (s.latched p (kindOf .accept) n) p c u o i).piu x = (s.latched p (kindOf .accept) n).piu x := fun x => by
    rw [acceptNotified, State.tellParty_piu, State.tellParty_piu, acceptAsProducer_piu]
  have ⟨hkind, hnotify⟩ := State.latched_slot hpiu
  have hentry := acceptAsProducer_entry (s.latched p (kindOf .accept) n) u c ⟨p, i⟩ (!(s.latched p (kindOf .accept) n).away o.offeror)
  have hwords := acceptAsProducer_wordsSet (s.latched p (kindOf .accept) n) u c ⟨p, i⟩ (!(s.latched p (kindOf .accept) n).away o.offeror)
  refine ⟨_, exec_completes rfl hs hadmits hbody, ?_, fun d hd => ?_, State.Answered.complete (by decide) hpiu _ _, ?_, ?_, ?_, ?_⟩
  · rw [State.complete_entry, acceptNotified, State.tellParty_entry, State.tellParty_entry, hentry, if_pos rfl, haway]
    simp [hu, decide_not]
  · rw [State.complete_entry, acceptNotified, State.tellParty_entry, State.tellParty_entry, hentry, if_neg hd, State.modPiu_entry]
  · refine (htold.completed hkind hnotify _ _).congr fun x => ?_
    rw [haway, List.nil_append, List.append_assoc]
    by_cases h : away
    · simp only [h, decide_true, if_true]
    · simp only [h, decide_false, if_false, Bool.false_eq_true]
      rfl
  · have hparty : (if (!decide away) = true then u.consumer else none) = if away then none else u.consumer := by by_cases h : away <;> simp [h]
    rw [haway, hparty] at hwords
    exact hwords.congr (.latched s p (kindOf .accept) n) fun x => by simp [acceptNotified, haway]
  · simpa [acceptNotified, State.PoolSame] using acceptAsProducer_poolSame (s.latched p (kindOf .accept) n) u c ⟨p, i⟩ _
  · simpa [acceptNotified, State.DeviceSame] using acceptAsProducer_deviceSame (s.latched p (kindOf .accept) n) u c ⟨p, i⟩ _

end Sys2Proof.Machine

/-! # What the shared operations on an entry do to it, to the slot words and to the parties -/

namespace Sys2Proof.Machine

theorem State.WordsSame.refl (s : State) : s.WordsSame s := fun _ => ⟨rfl, rfl⟩

/-- Steps that only hand events follow each other. -/
theorem State.OnlyNotified.trans {s t r : State} {ns ms : PortId → List Notice} (h : s.OnlyNotified t ns) (k : t.OnlyNotified r ms) :
    s.OnlyNotified r fun q => ns q ++ ms q where
  events := h.events.trans k.events fun q => congrArg Piu.state (h.pius q)
  words := fun q => ⟨(k.words q).1.trans (h.words q).1, (k.words q).2.trans (h.words q).2⟩
  entries := fun d => (k.entries d).trans (h.entries d)
  pius := fun q => (k.pius q).trans (h.pius q)
  pool := by
    obtain ⟨hpool, hhold, hretest⟩ := h.pool
    obtain ⟨kpool, khold, kretest⟩ := k.pool
    exact ⟨kpool.trans hpool, khold.trans hhold, kretest.trans hretest⟩
  device := by
    obtain ⟨h1, h2, h3, h4, h5, hports⟩ := h.device
    obtain ⟨k1, k2, k3, k4, k5, kports⟩ := k.device
    refine ⟨k1.trans h1, k2.trans h2, k3.trans h3, k4.trans h4, k5.trans h5, fun q => ?_⟩
    obtain ⟨hwriter, hflush, hrequeue⟩ := hports q
    obtain ⟨kwriter, kflush, krequeue⟩ := kports q
    exact ⟨kwriter.trans hwriter, kflush.trans hflush, krequeue.trans hrequeue⟩

section ops

variable {s : State} {c : ChannelId} {u : Use}

/-! ## Becoming FREE -/

/-- An entry becomes FREE after steps that left its generation, its parties, the other entries and the slot words (R20, R25). -/
theorem State.BecameFree.after {r t : State} {v : Use} (hv : r.use c = some v) (hgeneration : (r.entry c).generation = (s.entry c).generation)
    (hproducer : v.producer = u.producer) (hconsumer : v.consumer = u.consumer) (hothers : s.EntriesSameBut r c) (hwords : s.WordsSame r)
    (hentries : ∀ d, t.entry d = (r.freeEntry c).entry d) (hwords' : (r.freeEntry c).WordsSame t) : s.BecameFree t c u := by
  refine ⟨?_, fun d hd => ?_, fun q i => ?_, fun q i => ?_⟩
  · rw [hentries, State.freeEntry_entry hv, if_pos rfl, hgeneration]
  · rw [hentries, State.freeEntry_entry hv, if_neg hd, hothers d hd]
  · rw [(hwords' q).1, State.freeEntry_consumerWords hv, (hwords q).1, hconsumer]
  · rw [(hwords' q).2, State.freeEntry_producerWords hv, (hwords q).2, hproducer]

/-- An entry's becoming FREE does not see steps before it that left its generation, its parties, the other entries and the slot words. -/
theorem State.BecameFree.before {r t : State} {v : Use} (h : r.BecameFree t c v) (hgeneration : (r.entry c).generation = (s.entry c).generation)
    (hproducer : v.producer = u.producer) (hconsumer : v.consumer = u.consumer) (hothers : s.EntriesSameBut r c) (hwords : s.WordsSame r) :
    s.BecameFree t c u := by
  obtain ⟨hfree, hrest, hconsumers, hproducers⟩ := h
  refine ⟨?_, fun d hd => ?_, fun q i => ?_, fun q i => ?_⟩
  · rw [hfree, hgeneration]
  · rw [hrest d hd, hothers d hd]
  · rw [hconsumers q i, (hwords q).1, hconsumer]
  · rw [hproducers q i, (hwords q).2, hproducer]

/-- The parties are told why the entry becomes FREE, and it does (R44, R45, R50). -/
theorem State.freeWithNotice_of_use (hu : s.use c = some u) (cause : FreedCause) :
    s.freeWithNotice c cause =
      ((s.tellParty u.producer .channelFreed 0 c (freedDetail (s.entry c).generation cause)).tellParty u.consumer .channelFreed 0 c
        (freedDetail (s.entry c).generation cause)).freeEntry c := by
  simp [State.freeWithNotice, hu]

/-- CHANNEL_FREED for both parties of an entry. -/
def freedNotices (u : Use) (c : ChannelId) (detail : Half) (q : PortId) : List Notice :=
  noticeTo u.producer .channelFreed 0 c detail q ++ noticeTo u.consumer .channelFreed 0 c detail q

theorem State.Told.freeWithNotice (hu : s.use c = some u) (cause : FreedCause) :
    s.Told (s.freeWithNotice c cause) (freedNotices u c (freedDetail (s.entry c).generation cause)) := by
  rw [State.freeWithNotice_of_use hu]
  exact (State.Told.refl s).tellParty.tellParty.freeEntry

theorem State.freeWithNotice_entry (hu : s.use c = some u) (cause : FreedCause) (d : ChannelId) :
    (s.freeWithNotice c cause).entry d = if d = c then ⟨(s.entry c).generation, Counters.zero, none⟩ else s.entry d := by
  rw [State.freeWithNotice_of_use hu, State.freeEntry_entry (u := u) (by simpa using hu)]
  simp

/-- Becoming FREE with CHANNEL_FREED is becoming FREE (R25). -/
theorem State.BecameFree.freeWithNotice (hu : s.use c = some u) (cause : FreedCause) : s.BecameFree (s.freeWithNotice c cause) c u := by
  rw [State.freeWithNotice_of_use hu]
  exact .after (r := (s.tellParty u.producer .channelFreed 0 c _).tellParty u.consumer .channelFreed 0 c _) (by simpa using hu) (by simp) rfl rfl
    (fun d _ => by simp) (fun q => by simp) (fun _ => rfl) (.refl _)

/-! ## Leaving OPEN -/

theorem State.leaveOpen_of_use (hu : s.use c = some u) (stage : Stage) :
    s.leaveOpen c stage = (s.modUse c fun u => { u with stage := stage, hold := none }).handHold u.producer false := by
  simp [State.leaveOpen, hu]

theorem State.leaveOpen_entry (hu : s.use c = some u) (stage : Stage) (d : ChannelId) :
    (s.leaveOpen c stage).entry d = if d = c then { s.entry c with use := some { u with stage := stage, hold := none } } else s.entry d := by
  simp [State.leaveOpen_of_use hu, hu]

/-- A clear hold flag goes to the producer's word (R30). -/
theorem State.leaveOpen_wordsSet (hu : s.use c = some u) (stage : Stage) :
    s.WordsSet (s.leaveOpen c stage) none id u.producer fun x => { x with hold := false } := by
  rw [State.leaveOpen_of_use hu]
  exact ⟨fun q i => by simp, fun q i => by simp⟩

/-! ## The hold -/

/-- The end of a hold (R115, R118). -/
theorem State.endHold_of_use (hu : s.use c = some u) (expiry : Bool) :
    s.endHold c expiry = ((s.modUse c fun u => { u with hold := none }).handHold u.producer false).tellParty u.producer .resume
      (resumeQualifier expiry) c (BitVec.ofNat 16 u.held) := by
  simp [State.endHold, hu]

/-- The start of a hold (R111). -/
theorem State.enterHold_of_use (hu : s.use c = some u) (reason : HoldReason) :
    s.enterHold c reason = (((s.modUse c fun u => { u with hold := some ⟨reason, Timer.start (8 * u.terms.holdInterval)⟩ }).modCounters c fun k =>
      { k with holdsEntered := k.holdsEntered + 1 }).handHold u.producer true).tellParty u.producer .hold (holdQualifier reason false) c
        (BitVec.ofNat 16 u.terms.holdInterval) := by
  simp [State.enterHold, hu]

section conditional

variable {b : Prop} [Decidable b]

/-- CHANNEL_FREED goes to both parties when the entry becomes FREE. -/
theorem State.Told.freeWithNoticeIf (hu : s.use c = some u) (cause : FreedCause) :
    s.Told (if b then s.freeWithNotice c cause else s) fun q =>
      noticeTo (if b then u.producer else none) .channelFreed 0 c (freedDetail (s.entry c).generation cause) q ++
        noticeTo (if b then u.consumer else none) .channelFreed 0 c (freedDetail (s.entry c).generation cause) q := by
  split
  · exact .freeWithNotice hu cause
  · exact .refl s

/-- RESUME goes to the producer when the hold ends. -/
theorem State.Told.endHoldIf (hu : s.use c = some u) (expiry : Bool) :
    s.Told (if b then s.endHold c expiry else s)
      (noticeTo (if b then u.producer else none) .resume (resumeQualifier expiry) c (BitVec.ofNat 16 u.held)) := by
  split
  · rw [State.endHold_of_use hu]
    exact (State.Told.refl s).modUse.handHold.tellParty
  · exact .refl s

theorem State.endHoldIf_entry (hu : s.use c = some u) (expiry : Bool) (d : ChannelId) :
    (if b then s.endHold c expiry else s).entry d =
      if d = c then { s.entry c with use := some { u with hold := if b then none else u.hold } } else s.entry d := by
  by_cases h : b
  · simp [h, State.endHold_of_use hu, hu]
  · by_cases hd : d = c
    · subst hd
      simp [h, ← hu, State.use]
    · simp [h, hd]

theorem State.endHoldIf_wordsSet (hu : s.use c = some u) (expiry : Bool) :
    s.WordsSet (if b then s.endHold c expiry else s) none id (if b then u.producer else none) fun x => { x with hold := false } := by
  by_cases h : b
  · simp only [h, if_true, State.endHold_of_use hu]
    exact ⟨fun q i => by simp, fun q i => by simp⟩
  · exact ⟨fun q i => by simp [h], fun q i => by simp [h]⟩

/-- HOLD goes to the producer when a hold begins. -/
theorem State.Told.enterHoldIf (hu : s.use c = some u) (reason : HoldReason) :
    s.Told (if b then s.enterHold c reason else s)
      (noticeTo (if b then u.producer else none) .hold (holdQualifier reason false) c (BitVec.ofNat 16 u.terms.holdInterval)) := by
  split
  · rw [State.enterHold_of_use hu]
    exact (State.Told.refl s).modUse.modCounters.handHold.tellParty
  · exact .refl s

theorem State.enterHoldIf_entry (hu : s.use c = some u) (reason : HoldReason) (d : ChannelId) :
    (if b then s.enterHold c reason else s).entry d =
      if d = c then ⟨(s.entry c).generation,
        { (s.entry c).counters with holdsEntered := if b then (s.entry c).counters.holdsEntered + 1 else (s.entry c).counters.holdsEntered },
        some { u with hold := if b then some ⟨reason, ⟨8 * u.terms.holdInterval, none⟩⟩ else u.hold }⟩
      else s.entry d := by
  by_cases h : b
  · by_cases hd : d = c <;> simp [h, hd, State.enterHold_of_use hu, hu, Timer.start]
  · by_cases hd : d = c
    · subst hd
      simp [h, ← hu, State.use]
    · simp [h, hd]

theorem State.enterHoldIf_wordsSet (hu : s.use c = some u) (reason : HoldReason) :
    s.WordsSet (if b then s.enterHold c reason else s) none id (if b then u.producer else none) fun x => { x with hold := true } := by
  by_cases h : b
  · simp only [h, if_true, State.enterHold_of_use hu]
    exact ⟨fun q i => by simp, fun q i => by simp⟩
  · exact ⟨fun q i => by simp [h], fun q i => by simp [h]⟩

end conditional

/-! ## The checks after a fall of the held count -/

/-- On an OPEN entry the release check (R115). -/
theorem State.checkAfterFall_opened (hu : s.use c = some u) (hstage : u.stage = .opened) :
    s.checkAfterFall c = if u.hold.isSome = true ∧ u.held ≤ u.terms.releaseMark ∧ s.pool.level = .normal then s.endHold c false else s := by
  simp [State.checkAfterFall, State.releaseCheck, State.releaseCheckAt, hu, hstage]

/-- On a CLOSING entry the drain check (R45). -/
theorem State.checkAfterFall_closing (hu : s.use c = some u) (hstage : u.stage = .closing) :
    s.checkAfterFall c = if u.unconfirmed = [] ∧ u.queue = [] ∧ u.fill = false then s.freeWithNotice c .drain else s := by
  have hempty : u.isEmpty = true ↔ u.unconfirmed = [] ∧ u.queue = [] ∧ u.fill = false := by
    simp [Use.isEmpty, and_assoc, and_left_comm]
  simp [State.checkAfterFall, State.drainCheck, hu, hstage, hempty]

/-- The FREE check of an ENDING entry (R50). -/
theorem State.freeCheck_of_use (hu : s.use c = some u) (hstage : u.stage = .ending) :
    s.freeCheck c = if u.queue = [] ∧ u.fill = false then s.freeWithNotice c .finish else s := by
  simp [State.freeCheck, hu, hstage, and_comm]

theorem State.checkAfterFall_ending (hu : s.use c = some u) (hstage : u.stage = .ending) : s.checkAfterFall c = s.freeCheck c := by
  simp [State.checkAfterFall, hu, hstage]

/-! ## The discard -/

/-- The discard of R47 is one free of everything but a LANDING head. -/
theorem State.discard_of_use (hu : s.use c = some u) :
    s.discard c = (s.dropRecords c (u.unconfirmed ++ if (s.landingHead u).isSome = true then u.queue.tail else u.queue)).modUse c fun v =>
      { v with queue := (s.landingHead u).toList, unconfirmed := [] } := by
  unfold State.discard
  rw [hu]
  dsimp only
  split
  · next h => rw [h]; rfl
  · next r h => rw [h]; rfl

end ops

end Sys2Proof.Machine

/-! # Proofs: CLOSE and the offer timer (O23, O25, O26, O27) -/

namespace Sys2Proof.Machine

/-! ## The tests of CLOSE -/

section tests

variable {s : State} {p : PortId} {w : Table Word 8} {c : ChannelId} {u : Use} {n : Nat} {g : Byte}

/-- A channel number above 63 names no channel (11). -/
theorem channelOf_eq_none (h : 63 < n) : channelOf n = none := dif_neg (by omega)

/-- Test 2 of R43 and of R93: the channel. -/
theorem entryNamed_badArg (h : 63 < n) : entryNamed s n g = .error .badArg := by simp [entryNamed, channelOf_eq_none h]

/-- Test 3 of R43 and of R93: the entry and its generation. -/
theorem entryNamed_late (hc : n = c.val) (h : s.use c = none ∨ (s.entry c).generation ≠ g) : entryNamed s n g = .error .late := by
  rw [entryNamed, (channelOf_eq_some_iff n c).mpr hc]
  dsimp only
  split
  · rfl
  · next v hv =>
    rw [hv] at h
    exact if_neg (h.resolve_left (by simp))

theorem closeBody_unnamed (hw : s.args p = w) {st : Status} (h : entryNamed s (channelArg w) (generationArg w) = .error st) :
    closeBody p s = s.refuse p st := by
  simp [closeBody, hw, h]

theorem closeBody_notParty (hw : s.args p = w) (h : s.EntryNamed (channelArg w) (generationArg w) c u) (hp : u.isParty p = false) :
    closeBody p s = s.refuse p .badChannel := by
  simp [closeBody, hw, entryNamed_eq_ok h, hp]

/-- The producer and the consumer of an entry that is not OFFERED are its parties (R24). -/
theorem Use.isParty_iff (hu : ∀ o, u.stage ≠ .offered o) (p : PortId) : u.isParty p = true ↔ u.producedBy p = true ∨ u.consumedBy p = true := by
  unfold Use.isParty
  cases h : u.stage
  case offered o => exact absurd h (hu o)
  all_goals simp

end tests

/-- Settles O23: the tests in order, then the stage of the entry. -/
theorem closeIsRefusedByTheFirstTestThatFails : Obligations.CloseIsRefusedByTheFirstTestThatFails := by
  intro p n s w refused hs hstate
  have hadmits : admits (s.piu p).state .close = true := by rw [hstate]; rfl
  have refuse : ∀ {st}, closeBody p (s.latched p (kindOf .close) n) = (s.latched p (kindOf .close) n).refuse p st → refused st :=
    fun hbody => exec_refused rfl hs hadmits hbody
  have hargs : (s.latched p (kindOf .close) n).args p = w := State.args_latch ..
  refine ⟨fun hc => ?_, fun c hc hlate => ?_, fun c u hnamed => ⟨fun hparty => ?_, fun o hstage ho => ?_, fun hstage hproducer => ?_,
    fun hstage hparty => ?_⟩⟩
  · exact refuse (closeBody_unnamed hargs (entryNamed_badArg hc))
  · exact refuse (closeBody_unnamed hargs (entryNamed_late hc hlate))
  · exact refuse (closeBody_notParty hargs hnamed hparty)
  · exact refuse (closeBody_notOfferor hargs hnamed hstage ho)
  · have hparty : u.isParty p = true := (Use.isParty_iff (by simp [hstage]) p).mpr (.inl hproducer)
    exact refuse ((closeBody_party hargs hnamed hparty).trans (by simp [closeByParty, hstage, hproducer]))
  · exact refuse ((closeBody_party hargs hnamed hparty).trans (by simp [closeByParty, hstage]))

/-! ## CLOSE by the producer -/

section producer

variable {s : State} {p : PortId} {c : ChannelId} {u : Use}

/-- CLOSE by the producer of an OPEN entry that is empty tells both parties and frees the entry (R44). -/
theorem closeByParty_producerEmpty (hu : s.use c = some u) (hstage : u.stage = .opened) (hp : u.producedBy p = true)
    (hempty : u.queue = [] ∧ u.unconfirmed = [] ∧ u.fill = false) :
    closeByParty s p c u =
      (((s.tellParty u.producer .channelFreed 0 c (freedDetail (s.entry c).generation .close)).tellParty u.consumer .channelFreed 0 c
        (freedDetail (s.entry c).generation .close)).freeEntry c).complete p .done (resultWords 0 0 0 0) := by
  obtain ⟨hqueue, hunconfirmed, hfill⟩ := hempty
  simp only [closeByParty, hstage, hp, if_true, State.producerClose, Use.isEmpty, hqueue, hunconfirmed, hfill, List.isEmpty_nil, Bool.not_false,
    Bool.and_self, State.freeWithNotice_of_use hu]
  exact State.finishClose_freed (by simpa using hu) p

/-- CLOSE by the producer of any other OPEN entry makes it CLOSING (R30, R44). -/
theorem closeByParty_producerBusy (hu : s.use c = some u) (hstage : u.stage = .opened) (hp : u.producedBy p = true)
    (hbusy : ¬ (u.queue = [] ∧ u.unconfirmed = [] ∧ u.fill = false)) :
    closeByParty s p c u = (s.leaveOpen c .closing).complete p .done (resultWords 3 0 0 0) := by
  have hnot : u.isEmpty = false := by
    rw [Bool.eq_false_iff]
    intro h
    simp only [Use.isEmpty, Bool.and_eq_true, List.isEmpty_iff, Bool.not_eq_true'] at h
    exact hbusy ⟨h.1.1, h.1.2, h.2⟩
  have hafter : (s.leaveOpen c .closing).use c = some { u with stage := .closing, hold := none } := by
    rw [← State.entry_use, State.leaveOpen_entry hu, if_pos rfl]
  simp only [closeByParty, hstage, hp, if_true, State.producerClose, hnot, Bool.false_eq_true, if_false, State.finishClose, hafter]
  rfl

end producer

/-- Settles O25, by whether the entry is empty. -/
theorem producerCloseDrainsTheChannel : Obligations.ProducerCloseDrainsTheChannel := by
  intro p n s c u w d hs hstate hnamed hstage hp
  have hcmd : slotCommand (.close p n) = some (p, .close, n) := rfl
  have hadmits : admits (s.piu p).state .close = true := by rw [hstate]; rfl
  have ⟨_, hu, _⟩ := hnamed
  have hparty : u.isParty p = true := (Use.isParty_iff (by simp [hstage]) p).mpr (.inl hp)
  have hbody := closeBody_party (s := s.latched p (kindOf .close) n) (State.args_latch ..) hnamed hparty
  refine ⟨fun hempty => ?_, fun hbusy => ?_⟩
  · obtain ⟨t, ht, hfree, hanswer, hevents, hsame⟩ := exec_frees hcmd hs hadmits (by decide) hu
      ((State.OnlyNotified.tellParty _ _ _ _ _ _).trans (.tellParty _ _ _ _ _ _)) (hbody.trans (closeByParty_producerEmpty hu hstage hp hempty))
    exact ⟨t, ht, hfree, hanswer, hevents.congr fun q => List.append_assoc .., hsame⟩
  · have hpiu : ∀ q, ((s.latched p (kindOf .close) n).leaveOpen c .closing).piu q = (s.latched p (kindOf .close) n).piu q := fun q => by simp
    have ⟨hkind, hnotify⟩ := State.latched_slot hpiu
    have hlatched : (s.latched p (kindOf .close) n).use c = some u := hu
    have hentry := State.leaveOpen_entry hlatched .closing
    refine ⟨_, exec_completes hcmd hs hadmits (hbody.trans (closeByParty_producerBusy hu hstage hp hbusy)), ?_, fun d hd => ?_,
      State.Answered.complete (by decide) hpiu _ _, (State.Told.refl _).leaveOpen.completed hkind hnotify _ _, ?_, ?_, ?_⟩
    · rw [State.complete_entry, hentry, if_pos rfl]
      rfl
    · rw [State.complete_entry, hentry, if_neg hd]
      rfl
    · exact (State.leaveOpen_wordsSet hlatched .closing).congr (.latched s p (kindOf .close) n) fun q => by simp
    · simp [State.PoolSame]
    · simp [State.DeviceSame]

/-! ## CLOSE by the consumer -/

section consumer

variable {s : State} {p : PortId} {c : ChannelId} {u : Use}

/-- CLOSE by the consumer of an OPEN or CLOSING entry (R47, R48). -/
theorem closeByParty_consumer (hstage : u.stage = .opened ∨ u.stage = .closing) (hp : u.producedBy p = false) :
    closeByParty s p c u = (s.consumerClose c u).finishClose p c := by
  rcases hstage with h | h <;> simp [closeByParty, h, hp]

/-- The records that the discard of R47 frees. -/
def State.discarded (s : State) (u : Use) : List RecordId := u.unconfirmed ++ if (s.landingHead u).isSome = true then u.queue.tail else u.queue

/-- What the discard of R47 leaves of the entry. -/
theorem State.discard_entry (hu : s.use c = some u) (d : ChannelId) :
    (s.discard c).entry d = if d = c then { s.entry c with use := some { u with
      held := u.held - s.pool.heldBy (s.discarded u), queue := (s.landingHead u).toList, unconfirmed := [] } } else s.entry d := by
  rw [State.discard_of_use hu]
  by_cases hd : d = c <;> simp [hd, hu, State.discarded]

theorem State.PoolFreed.discard (hu : s.use c = some u) : s.PoolFreed (s.discard c) (s.discarded u) := by
  rw [State.discard_of_use hu]
  exact (State.PoolFreed.dropRecords s c _).congr ⟨rfl, rfl, rfl⟩ ⟨rfl, rfl, rfl⟩

theorem State.Told.discard (hu : s.use c = some u) : s.Told (s.discard c) fun _ => [] := by
  rw [State.discard_of_use hu]
  exact (State.Told.refl s).dropRecords.modUse

/-- With nothing in flight the producer is told and the entry becomes FREE (R48). -/
theorem State.consumerClose_frees (h : (u.fill || (s.landingHead u).isSome) = false) :
    s.consumerClose c u = ((s.discard c).tellParty u.producer .peerClosed 0 c (peerClosedDetail ((s.discard c).entry c).generation false)).freeEntry c := by
  rw [Bool.or_eq_false_iff] at h
  simp [State.consumerClose, State.tellPeerClosed, h.1, h.2]

/-- With a fill or a landing in flight the entry becomes ENDING and the producer is told (R48). -/
theorem State.consumerClose_ends (h : (u.fill || (s.landingHead u).isSome) = true) :
    s.consumerClose c u =
      ((s.discard c).leaveOpen c .ending).tellParty u.producer .peerClosed 0 c
        (peerClosedDetail (((s.discard c).leaveOpen c .ending).entry c).generation true) := by
  rw [Bool.or_eq_true] at h
  exact if_pos h

end consumer

/-- Settles O26, by whether a fill or a landing is in flight. -/
theorem consumerCloseDiscardsTheMessages : Obligations.ConsumerCloseDiscardsTheMessages := by
  intro p n s c u w head rs ending hs hstate hnamed hstage hconsumer hproducer
  have hadmits : admits (s.piu p).state .close = true := by rw [hstate]; rfl
  have ⟨_, hu, _⟩ := hnamed
  have hparty : u.isParty p = true := (Use.isParty_iff (by rcases hstage with h | h <;> simp [h]) p).mpr (.inr hconsumer)
  have hbody := (closeBody_party (s := s.latched p (kindOf .close) n) (State.args_latch ..) hnamed hparty).trans
    (closeByParty_consumer hstage hproducer)
  have hlatched : (s.latched p (kindOf .close) n).use c = some u := hu
  have hentry := State.discard_entry hlatched
  have hfreed := State.PoolFreed.discard hlatched
  have htold := State.Told.discard hlatched
  have hgeneration : (((s.latched p (kindOf .close) n).discard c).entry c).generation = (s.entry c).generation := by rw [hentry, if_pos rfl]; rfl
  cases hending : ending
  · have huse : (((s.latched p (kindOf .close) n).discard c).tellParty u.producer .peerClosed 0 c
        (peerClosedDetail (s.entry c).generation false)).use c = some { u with
          held := u.held - s.pool.heldBy rs, queue := head.toList, unconfirmed := [] } := by
      rw [← State.entry_use, State.tellParty_entry, hentry, if_pos rfl]
      rfl
    rw [State.consumerClose_frees (s := s.latched p (kindOf .close) n) hending, hgeneration, State.finishClose_freed huse] at hbody
    have hpiu : ∀ q, ((((s.latched p (kindOf .close) n).discard c).tellParty u.producer .peerClosed 0 c
        (peerClosedDetail (s.entry c).generation false)).freeEntry c).piu q = (s.latched p (kindOf .close) n).piu q := fun q => by simp
    have ⟨hkind, hnotify⟩ := State.latched_slot hpiu
    refine ⟨_, exec_completes rfl hs hadmits hbody, ?_, ?_, ?_, fun _ => ⟨?_, State.Answered.complete (by decide) hpiu _ _⟩, fun h => by cases h⟩
    · exact hfreed.congr ⟨rfl, rfl, rfl⟩ (by simp [State.PoolSame])
    · simp [State.DeviceSame]
    · exact htold.tellParty.freeEntry.completed hkind hnotify _ _
    · refine .after huse ?_ rfl rfl (fun d hd => ?_) (fun q => ?_) (fun d => State.complete_entry ..) fun q => by simp
      · rw [State.tellParty_entry, hgeneration]
      · rw [State.tellParty_entry, hentry, if_neg hd]
        rfl
      · simp
  · have hleft : ((s.latched p (kindOf .close) n).discard c).use c = some { u with
        held := u.held - s.pool.heldBy rs, queue := head.toList, unconfirmed := [] } := by
      rw [← State.entry_use, hentry, if_pos rfl]
      rfl
    have hended := State.leaveOpen_entry hleft .ending
    have huse : ((((s.latched p (kindOf .close) n).discard c).leaveOpen c .ending).tellParty u.producer .peerClosed 0 c
        (peerClosedDetail (s.entry c).generation true)).use c = some { u with
          stage := .ending, held := u.held - s.pool.heldBy rs, queue := head.toList, unconfirmed := [], hold := none } := by
      rw [← State.entry_use, State.tellParty_entry, hended, if_pos rfl]
    rw [State.consumerClose_ends (s := s.latched p (kindOf .close) n) hending, hended, if_pos rfl, hgeneration, State.finishClose, huse] at hbody
    have hpiu : ∀ q, ((((s.latched p (kindOf .close) n).discard c).leaveOpen c .ending).tellParty u.producer .peerClosed 0 c
        (peerClosedDetail (s.entry c).generation true)).piu q = (s.latched p (kindOf .close) n).piu q := fun q => by simp
    have ⟨hkind, hnotify⟩ := State.latched_slot hpiu
    refine ⟨_, exec_completes rfl hs hadmits hbody, ?_, ?_, ?_, fun h => (by cases h), fun _ => ⟨?_, fun d hd => ?_, ?_,
      State.Answered.complete (by decide) hpiu _ _⟩⟩
    · exact hfreed.congr ⟨rfl, rfl, rfl⟩ (by simp [State.PoolSame])
    · simp [State.DeviceSame]
    · exact htold.leaveOpen.tellParty.completed hkind hnotify _ _
    · rw [State.complete_entry, State.tellParty_entry, hended, if_pos rfl, hentry, if_pos rfl]
      rfl
    · rw [State.complete_entry, State.tellParty_entry, hended, if_neg hd, hentry, if_neg hd]
      rfl
    · exact (State.leaveOpen_wordsSet hleft .ending).congr (fun q => by simp) fun q => by simp

/-! ## The offer timer -/

/-- The expiry of an offer is taken when its timer has run out (R36). -/
theorem execOfferTimerExpiry_ranOut {s : State} {c : ChannelId} {u : Use} {o : Offer} (hu : s.use c = some u) (hstage : u.stage = .offered o)
    (ho : o.timer.RanOut) : execOfferTimerExpiry c s = .next (s.expireOffer c u o) := by
  simp [execOfferTimerExpiry, hu, hstage, (Timer.expired_iff _).mpr ho]

/-- With no offer on the entry, or before its timer has run out, there is no expiry to take (R36). -/
theorem execOfferTimerExpiry_early {s : State} {c : ChannelId} (h : ∀ u o, s.use c = some u → u.stage = .offered o → ¬ o.timer.RanOut) :
    execOfferTimerExpiry c s = .next s := by
  refine congrArg Host.Outcome.next ?_
  split
  · rfl
  · next u hu =>
    split
    case h_1 o ho => exact if_neg (mt (Timer.expired_iff _).mp (h u o hu ho))
    all_goals rfl

/-- Settles O27, by whether the timer of an offer has run out. -/
theorem offerTimerExpiryFreesTheEntry : Obligations.OfferTimerExpiryFreesTheEntry := by
  intro s c
  refine ⟨fun u o hu hstage ho => ?_, execOfferTimerExpiry_early⟩
  have htold := (State.OnlyNotified.tellParty s (u.producer <|> u.consumer) .offerExpired 0 c (generationDetail (s.entry c).generation)).trans
    (.portEvent _ o.peer .offerWithdrawn c (generationDetail (s.entry c).generation))
  refine ⟨_, execOfferTimerExpiry_ranOut hu hstage ho, ?_⟩
  rw [State.expireOffer, Use.offerorParty_eq]
  refine ⟨.after (v := u) ?_ ?_ rfl rfl (fun d _ => htold.entries d) htold.words (fun _ => rfl) (.refl _), fun q => by simp, ?_, ?_, ?_⟩
  · simpa using hu
  · rw [htold.entries]
  · exact (State.Told.refl s).tellParty.portEvent.freeEntry.events
  · simp [State.PoolSame]
  · simp [State.DeviceSame]

end Sys2Proof.Machine

/-! # Proofs: bit fields, the window and the compose buffer (O15, O16, O28) -/

namespace Sys2Proof.Machine

/-! ## Bit fields -/

/-- Bits `hi:lo` of a word as a quotient and a remainder (R171). -/
theorem bits_eq (w : Word) (hi lo : Nat) : bits w hi lo = w.toNat / 2 ^ lo % 2 ^ (hi + 1 - lo) := by rw [bits, Nat.shiftRight_eq_div_pow]

/-- The lowest bits of a word. -/
theorem bits_low (w : Word) (hi : Nat) : bits w hi 0 = w.toNat % 2 ^ (hi + 1) := by rw [bits_eq, Nat.pow_zero, Nat.div_one, Nat.sub_zero]

/-- The highest bits of a word. -/
theorem bits_high (w : Word) (lo : Nat) (h : lo ≤ 32) : bits w 31 lo = w.toNat / 2 ^ lo := by
  rw [bits_eq, Nat.mod_eq_of_lt]
  rw [Nat.div_lt_iff_lt_mul (Nat.two_pow_pos lo), ← Nat.pow_add, show 31 + 1 - lo + lo = 32 by omega]
  exact w.isLt

/-- A number modulo a power of two, as a bit vector of that width or a narrower one. -/
theorem BitVec.ofNat_mod {n m : Nat} (h : n ≤ m) (x : Nat) : BitVec.ofNat n (x % 2 ^ m) = BitVec.ofNat n x :=
  BitVec.eq_of_toNat_eq (by rw [BitVec.toNat_ofNat, BitVec.toNat_ofNat, Nat.mod_mod_of_dvd x (Nat.pow_dvd_pow 2 h)])

/-- What one field adds to a word (R171). -/
def Field.weight (f : Field) : Nat := f.1 % 2 ^ (f.2.1 + 1 - f.2.2) * 2 ^ f.2.2

/-- A word of fields is the sum of their weights (R171). -/
theorem pack_eq (n : Nat) (fields : List Field) : pack n fields = BitVec.ofNat n (fields.map Field.weight).sum := by
  have h : ∀ a, fields.foldl (fun a f => a + (f.1 % 2 ^ (f.2.1 + 1 - f.2.2)) <<< f.2.2) a = a + (fields.map Field.weight).sum := by
    induction fields with
    | nil => exact fun a => rfl
    | cons f fs ih =>
      intro a
      rw [List.foldl_cons, ih, List.map_cons, List.sum_cons, Nat.shiftLeft_eq, Nat.add_assoc]
      rfl
  rw [pack, h, Nat.zero_add]

/-- The weight of a field that takes its value. -/
theorem Field.weight_fits {x hi lo : Nat} (h : x < 2 ^ (hi + 1 - lo)) : Field.weight (x, hi, lo) = x * 2 ^ lo := by
  rw [Field.weight, Nat.mod_eq_of_lt h]

/-- The weight of a flag. -/
theorem Field.weight_flag (b : Bool) (i : Nat) : Field.weight (flag b, i, i) = if b = true then 2 ^ i else 0 := by
  have hlt : flag b < 2 ^ (i + 1 - i) := by
    rw [Nat.add_sub_cancel_left]
    cases b <;> decide
  rw [Field.weight_fits hlt]
  cases b <;> simp [flag]

/-! ## The map of the window -/

/-- An aligned word access names its word (Table 11-1). -/
theorem windowTarget_word {k : Nat} (h : k < 2048) : windowTarget .word (BitVec.ofNat 13 (4 * k)) = windowWordTarget k := by
  have hval : (BitVec.ofNat 13 (4 * k)).toNat = 4 * k := by rw [BitVec.toNat_ofNat, Nat.mod_eq_of_lt (by omega)]
  rw [windowTarget, hval, if_pos (Nat.mul_mod_right 4 k), Nat.mul_div_cancel_left k (by omega)]

theorem windowTarget_compose (k : Fin 256) : windowTarget .word (BitVec.ofNat 13 (4 * k.val)) = .compose k := by
  rw [windowTarget_word (by omega), windowWordTarget, dif_pos k.isLt]

theorem windowTarget_result (k : Fin 4) : windowTarget .word (BitVec.ofNat 13 (0x408 + 4 * k.val)) = .result k := by
  revert k; decide

theorem windowTarget_argument (k : Fin 8) : windowTarget .word (BitVec.ofNat 13 (0x420 + 4 * k.val)) = .argument k := by
  revert k; decide

theorem windowTarget_credit (i : SlotId) : windowTarget .word (BitVec.ofNat 13 (0x500 + 4 * i.val)) = .credit i := by
  revert i; decide

theorem windowTarget_rearm (v : VectorId) : windowTarget .word (BitVec.ofNat 13 (0x550 + 4 * v.val)) = .rearm v := by
  revert v; decide

/-- The offsets that Table 11-1 does not list name nothing. -/
theorem windowWordTarget_unmapped {k : Nat}
    (h : (262 ≤ k ∧ k < 264) ∨ (272 ≤ k ∧ k < 320) ∨ (337 ≤ k ∧ k < 340) ∨ (344 ≤ k ∧ k < 352) ∨ 355 ≤ k) : windowWordTarget k = .unmapped := by
  rw [windowWordTarget, dif_neg (by omega), if_neg (by omega), if_neg (by omega), dif_neg (by omega), dif_neg (by omega), dif_neg (by omega),
    if_neg (by omega), dif_neg (by omega), if_neg (by omega), if_neg (by omega), if_neg (by omega)]

/-- The accesses to which Table 11-1 gives no effect name nothing. -/
theorem windowTarget_unmapped {z : AccessSize} {o : BitVec 13}
    (h : z ≠ .word ∨ o.toNat % 4 ≠ 0 ∨ (0x418 ≤ o.toNat ∧ o.toNat < 0x420) ∨ (0x440 ≤ o.toNat ∧ o.toNat < 0x500) ∨
      (0x544 ≤ o.toNat ∧ o.toNat < 0x550) ∨ (0x560 ≤ o.toNat ∧ o.toNat < 0x580) ∨ 0x58C ≤ o.toNat) : windowTarget z o = .unmapped := by
  cases z with
  | byte => rfl
  | halfword => rfl
  | word =>
    replace h := h.resolve_left (by simp)
    by_cases haligned : o.toNat % 4 = 0
    · rw [windowTarget, if_pos haligned]
      exact windowWordTarget_unmapped (by omega)
    · rw [windowTarget, if_neg haligned]

/-- The read-only words take no write. -/
theorem windowWrite_readOnly {o : BitVec 13} (h : o.toNat ∈ [0x404, 0x408, 0x40C, 0x410, 0x414, 0x580, 0x584, 0x588]) (s : State) (p : PortId) (w : Word) :
    s.windowWrite p .word o w = s := by
  have hread : ∀ n ∈ [0x404, 0x408, 0x40C, 0x410, 0x414, 0x580, 0x584, 0x588], s.windowWrite p .word (BitVec.ofNat 13 n) w = s := by
    simp only [List.mem_cons, List.not_mem_nil, or_false]
    rintro n (rfl | rfl | rfl | rfl | rfl | rfl | rfl | rfl) <;> rfl
  have ho := hread o.toNat h
  rwa [BitVec.ofNat_toNat, BitVec.setWidth_eq] at ho

/-! ## Argument words -/

/-- A window word as it is written and read, by what the access names. -/
theorem State.windowRead_of_target {s : State} {z : AccessSize} {o : BitVec 13} {x : WindowTarget} (h : windowTarget z o = x) (hs : s.resetPin = false)
    (p : PortId) : s.windowRead p z o = s.windowWord p x := by
  rw [State.windowRead, hs, h]
  rfl

/-- A write of an argument word, and its reading (R161). -/
theorem windowWrite_argument {s : State} {p : PortId} (h : s.WindowOpen p) (k : Fin 8) (w : Word) :
    s.windowWrite p .word (BitVec.ofNat 13 (0x420 + 4 * k.val)) w =
      s.modPiu p fun u => { u with slot := { u.slot with arguments := u.slot.arguments.write k w } } := by
  rw [State.windowWrite, windowTarget_argument]
  exact if_neg (by simp [h.notClosed])

/-- The granted counts (R145). -/
theorem grantOf_eq_some_iff (n : Nat) (g : Grant) : grantOf n = some g ↔ (n = 1 ∧ g = .one) ∨ (n = 2 ∧ g = .two) ∨ (n = 4 ∧ g = .four) := by
  unfold grantOf
  split <;> simp_all [eq_comm]

/-- The modes of a DETACH (R147). -/
theorem detachModeOf_eq_some_iff (n : Nat) (m : DetachMode) : detachModeOf n = some m ↔ (n = 0 ∧ m = .flush) ∨ (n = 1 ∧ m = .retain) := by
  unfold detachModeOf
  split <;> simp_all [eq_comm]

/-- Settles O15: the word itself, then the fields of Table 11-2 as quotients and remainders. -/
theorem argumentWordsAreStored : Obligations.ArgumentWordsAreStored := by
  refine ⟨fun p k w s h => ⟨_, congrArg Host.Outcome.next (windowWrite_argument h k w), rfl, ?_⟩, bits_eq, grantOf_eq_some_iff, detachModeOf_eq_some_iff,
    fun w => ?_⟩
  · rw [State.windowRead_of_target (windowTarget_argument k) (by simpa using h.1)]
    simp [State.windowWord]
  · intro x ring
    have hring : ringArgs w = ring := by simp [ringArgs, ring, x, bits_eq]
    refine ⟨hring, ?_, ?_, ?_, ?_, ?_, ?_, ?_, ?_, ?_, ?_, ?_⟩
    · simp only [offerArgs, hring, bits_low, bits_high _ 16 (by omega), bits_high _ 24 (by omega), bits_eq _ 15 8, bits_eq _ 23 16]
      rfl
    · exact bits_low _ _
    · rw [generationArg, bits_eq]
      exact BitVec.ofNat_mod (le_refl 8) _
    · exact bits_eq _ _ _
    · rfl
    · rw [userTagArg, bits_eq]
      exact BitVec.ofNat_mod (le_refl 16) _
    · exact bits_low _ _
    · rw [sequenceArg, bits_eq]
      exact BitVec.ofNat_mod (le_refl 16) _
    · exact bits_eq _ _ _
    · rfl
    · simp [vectorArgs, x, bits_eq]

/-! ## Every word of the window -/

/-- A command word of any kind takes the command that the kind names, as the row of that command does (R160). -/
theorem commandWordWrite_eq {i : Instr} {p : PortId} {k : Byte} {n : Bool} (h : commandWordOf i = some (p, k, n)) (s : State) :
    exec i s = .next (s.commandWordWrite p k n) := by
  have hkind : ∀ c, kindBody p (kindOf c) = commandBody p c := fun c => funext fun r => by rw [kindBody, commandOfKind_kindOf]
  have hcommand : ∀ c, exec i s = .next (s.takeCommand p (kindOf c) n (commandBody p c)) → exec i s = .next (s.commandWordWrite p (kindOf c) n) :=
    fun c hi => by rw [hi, State.commandWordWrite, hkind]
  cases i
  case badCommand | cmdOverrun =>
    cases h
    rfl
  all_goals
    cases h <;> exact hcommand _ rfl

/-- The codes of the port states, in the order of Table 11-1. -/
theorem PortState.code_eq (st : PortState) : st.code = [PortState.detached, .attached, .quiescing, .retained, .faulted].idxOf st := by
  cases st <;> rfl

/-- The codes of the fault kinds (11). -/
theorem FaultKind.code_eq (k : FaultKind) : k.code = [FaultKind.noFault, .busError, .timeout].idxOf k := by
  cases k <;> rfl

/-- The command word as it reads (R160). -/
theorem commandWord_eq (c : CommandSlot) : commandWord c =
    BitVec.ofNat 32 (c.kind.toNat + (if c.notify = true then 2 ^ 8 else 0) + if c.busy = true then 2 ^ 31 else 0) := by
  rw [commandWord, pack_eq]
  simp only [List.map_cons, List.map_nil, List.sum_cons, List.sum_nil, Field.weight_flag, Field.weight_fits (hi := 7) (lo := 0) c.kind.isLt]
  simp [Nat.add_assoc]

/-- The response status word as it reads (R165). -/
theorem responseWord_eq (c : CommandSlot) : responseWord c =
    BitVec.ofNat 32 (c.status.toNat + 2 ^ 8 * c.responseKind.toNat + 2 ^ 16 * c.completions.toNat) := by
  rw [responseWord, pack_eq]
  simp only [List.map_cons, List.map_nil, List.sum_cons, List.sum_nil, Field.weight_fits (hi := 7) (lo := 0) c.status.isLt,
    Field.weight_fits (hi := 15) (lo := 8) c.responseKind.isLt, Field.weight_fits (hi := 23) (lo := 16) c.completions.isLt]
  congr 1
  omega

/-- The port status word as it reads (R159). -/
theorem portStatusWord_eq (b : Port) (low : Bool) : portStatusWord b low =
    BitVec.ofNat 32 ([PortState.detached, .attached, .quiescing, .retained, .faulted].idxOf b.piu.state +
      (if b.piu.retainArmed = true then 2 ^ 3 else 0) + (if b.piu.retainedLast = true then 2 ^ 4 else 0) +
      2 ^ 5 * [FaultKind.noFault, .busError, .timeout].idxOf b.writer.faultKind + (if low = true then 2 ^ 7 else 0) +
      (if b.piu.clobbered = true then 2 ^ 8 else 0) + if b.piu.slot.overrun = true then 2 ^ 9 else 0) := by
  have hstate : b.piu.state.code < 2 ^ (2 + 1 - 0) := by cases b.piu.state <;> decide
  have hfault : b.writer.faultKind.code < 2 ^ (6 + 1 - 5) := by cases b.writer.faultKind <;> decide
  rw [portStatusWord, pack_eq]
  simp only [List.map_cons, List.map_nil, List.sum_cons, List.sum_nil, Field.weight_flag, Field.weight_fits hstate, Field.weight_fits hfault,
    ← PortState.code_eq, ← FaultKind.code_eq]
  congr 1
  omega

/-- Settles O16: what each access names, then how each word reads. -/
theorem otherWindowAccessesAreDiscarded : Obligations.OtherWindowAccessesAreDiscarded := by
  refine ⟨fun p z o w s => ⟨fun h => ⟨?_, ?_⟩, fun hz h => ?_, fun hs => ?_⟩, fun p w s => ⟨fun i hi => ?_, fun k => ?_, rfl, fun v => ?_⟩,
    fun p s hs => ?_, rfl, rfl⟩
  · exact congrArg Host.Outcome.next (by rw [State.windowWrite, windowTarget_unmapped h])
  · rw [State.windowRead, windowTarget_unmapped h]
    exact ite_self _
  · subst hz
    exact congrArg Host.Outcome.next (windowWrite_readOnly h s p w)
  · rw [State.windowRead, hs]
    rfl
  · rw [commandWordWrite_eq hi]
    refine congrArg Host.Outcome.next ?_
    rw [show s.windowWrite p .word 0x400 w = s.commandWordWrite p (BitVec.ofNat 8 (bits w 7 0)) (bit w 8) from rfl, bits_low,
      BitVec.ofNat_mod (le_refl 8)]
    rfl
  · exact congrArg Host.Outcome.next (by rw [State.windowWrite, windowTarget_credit])
  · exact congrArg Host.Outcome.next (by rw [State.windowWrite, windowTarget_rearm])
  · intro read u
    have hread : ∀ {o : Nat} {x : WindowTarget}, windowTarget .word (BitVec.ofNat 13 o) = x → read o = s.windowWord p x :=
      fun h => State.windowRead_of_target h hs p
    refine ⟨(hread (x := .command) rfl).trans (commandWord_eq _), (hread (x := .status) rfl).trans (responseWord_eq _),
      fun k => hread (windowTarget_result k), fun k => hread (windowTarget_argument k), fun i => hread (windowTarget_credit i),
      hread (x := .eventRead) rfl, fun v => hread (windowTarget_rearm v), ?_, hread (x := .faultAddress) rfl, hread (x := .portNumber) rfl⟩
    refine (hread (x := .portStatus) rfl).trans ((portStatusWord_eq _ _).trans ?_)
    simp only [decide_eq_true_eq]
    rfl

/-! ## The compose buffer -/

/-- A word of four bytes, the lowest in bits 7:0, taken apart again (R171). -/
theorem wordOfBytes_byte (f : Nat → Byte) {j : Nat} (hj : j < 4) : (f 3 ++ f 2 ++ f 1 ++ f 0 : Word).extractLsb' (8 * j) 8 = f j := by
  refine BitVec.eq_of_getLsbD_eq fun i hi => ?_
  simp only [BitVec.getLsbD_append, BitVec.getLsbD_extractLsb', hi, decide_true, Bool.true_and]
  interval_cases j
  · simp [hi]
  · simp [hi]
  · have h1 : ¬ 16 + i < 8 := by omega
    have h2 : 16 + i - 8 - 8 = i := by omega
    have h3 : ¬ 16 + i - 8 < 8 := by omega
    simp [h1, h2, h3, hi]
  · have h1 : ¬ 24 + i < 8 := by omega
    have h2 : ¬ 24 + i - 8 < 8 := by omega
    have h3 : ¬ 24 + i - 8 - 8 < 8 := by omega
    have h4 : 24 + i - 8 - 8 - 8 = i := by omega
    simp [h1, h2, h3, h4]

/-- A byte of a word read from memory (R171). -/
theorem Memory.readWord_byte (m : Memory) (a : Nat) {j : Nat} (hj : j < 4) : (m.readWord a).extractLsb' (8 * j) 8 = m.read (a + j) :=
  wordOfBytes_byte (fun j => m.read (a + j)) hj

/-- A word read from memory depends on its four bytes. -/
theorem Memory.readWord_congr {m m' : Memory} {a : Nat} (h : ∀ j, j < 4 → m.read (a + j) = m'.read (a + j)) : m.readWord a = m'.readWord a := by
  have h0 := h 0 (by omega)
  rw [Nat.add_zero] at h0
  rw [Memory.readWord, Memory.readWord, h 3 (by omega), h 2 (by omega), h 1 (by omega), h0]

/-- Another word than the one written reads as before. -/
theorem Memory.readWord_writeWord_ne {m : Memory} (h : Memory.wf m) {j k : Nat} (hjk : j ≠ k) (w : Word) :
    (m.writeWord (4 * k) w).readWord (4 * j) = m.readWord (4 * j) :=
  Memory.readWord_congr fun i hi => Memory.read_writeWord_ne h _ _ (by omega)

/-- A change of a Port Interface Unit depends only on what it makes of that one. -/
theorem State.modPiu_congr {s : State} {p : PortId} {f g : Piu → Piu} (h : f (s.piu p) = g (s.piu p)) : s.modPiu p f = s.modPiu p g :=
  congrArg (fun u => s.setPort p { s.port p with piu := u }) h

/-- Settles O28: the write by whether the buffer is LOCKED, and the readings by the laws of the byte memory. -/
theorem composeBufferWritesAreLocked : Obligations.ComposeBufferWritesAreLocked := by
  intro p k w s hmem
  have hcompose := hmem.2 p
  have hread : ∀ {r : State}, r.resetPin = false → ∀ j : Fin 256, r.windowRead p .word (BitVec.ofNat 13 (4 * j.val)) = (r.piu p).compose.readWord (4 * j.val) :=
    fun hr j => State.windowRead_of_target (windowTarget_compose j) hr p
  refine ⟨fun hopen hlocked => congrArg Host.Outcome.next ?_, fun hopen hfree => ⟨s.modPiu p fun u => { u with compose := (s.piu p).compose.writeWord (4 * k.val) w },
    _, congrArg Host.Outcome.next ?_, rfl, fun j => ?_, fun a ha => Memory.read_writeWord_ne hcompose _ _ ha⟩, ?_, fun hs j hj => ?_⟩
  · rw [State.composeWrite, hopen.notClosed, if_neg Bool.false_ne_true]
    refine State.modPiu_congr ?_
    rw [Piu.locked, if_pos (Option.isSome_iff_ne_none.mpr hlocked)]
  · rw [State.composeWrite, hopen.notClosed, if_neg Bool.false_ne_true]
    refine State.modPiu_congr ?_
    rw [Piu.locked, hfree, if_neg (by simp)]
  · rw [hread (by simpa using hopen.1), hread hopen.1, State.modPiu_piu, if_pos rfl]
    split
    · next hjk =>
      rw [hjk]
      exact Memory.readWord_writeWord hcompose _ _
    · next hjk => exact Memory.readWord_writeWord_ne hcompose (fun e => hjk (Fin.ext e)) w
  · exact congrArg Host.Outcome.next (by rw [State.windowWrite, windowTarget_compose])
  · rw [hread hs]
    exact Memory.readWord_byte _ _ hj

end Sys2Proof.Machine

/-! # Proofs: POST and its copy (O29, O30, O31, O32) -/

namespace Sys2Proof.Machine

/-! ## The tests of POST -/

section tests

variable {u : Use} {length : Nat} {urgent : Bool}

/-- Test 3: the consumer closed, or the producer did. -/
theorem postRefusal_closed (h : u.stage = .closing ∨ u.stage = .ending) : postRefusal u length urgent = some .closed := if_pos h

/-- Test 4: the consumer is gone. -/
theorem postRefusal_noConsumer (h : u.stage = .orphaned) : postRefusal u length urgent = some .noConsumer := by
  rw [postRefusal, if_neg (by simp [h]), if_pos h]

/-- Tests 5 to 7 on an OPEN entry. -/
theorem postRefusal_opened (h : u.stage = .opened) : postRefusal u length urgent =
    if length = 0 then some .badArg
    else if u.terms.maxLength < length then some .tooLong
    else if u.hold.isSome ∧ ¬ urgent then some .held
    else if u.terms.quota < u.held + segmentCount length then some .quota
    else none := by
  rw [postRefusal, if_neg (by simp [h]), if_neg (by simp [h])]

/-- Tests 6 and 7, of a length in range. -/
theorem postRefusal_fits (h : u.stage = .opened) (h1 : 1 ≤ length) (hmax : length ≤ u.terms.maxLength) : postRefusal u length urgent =
    if u.hold.isSome ∧ ¬ urgent then some .held
    else if u.terms.quota < u.held + segmentCount length then some .quota
    else none := by
  rw [postRefusal_opened h, if_neg (by omega), if_neg (by omega)]

/-- Test 7, of a post that the hold lets pass. -/
theorem postRefusal_flows (h : u.stage = .opened) (h1 : 1 ≤ length) (hmax : length ≤ u.terms.maxLength) (hflows : u.hold = none ∨ urgent = true) :
    postRefusal u length urgent = if u.terms.quota < u.held + segmentCount length then some .quota else none := by
  rw [postRefusal_fits h h1 hmax, if_neg]
  rintro ⟨hheld, hurgent⟩
  rcases hflows with hn | hu
  · rw [hn] at hheld
    cases hheld
  · exact hurgent hu

end tests

/-! ## Test 8: the claim -/

section claim

variable {pool : Pool} {k : Claim}

/-- A claim with no record free (R9). -/
theorem Pool.claim_noRecords (h : pool.recFree = []) : pool.claim k = .refused .noRecords := by simp [Pool.claim, h]

/-- A claim with too few segments free; one that is not urgent leaves the urgent reserve (R9). -/
theorem Pool.claim_noSegments (hrec : pool.recFree ≠ [])
    (h : pool.segFree.length < if k.urgent = true then segmentCount k.length else 64 + segmentCount k.length) : pool.claim k = .refused .noSegments := by
  obtain ⟨r, rs, hr⟩ := List.exists_cons_of_ne_nil hrec
  unfold Pool.claim Pool.freeCount Config.urgentReserve
  rw [hr]
  cases hk : k.urgent <;> simp_all

/-- A claim that is granted (R9, R10, R14). -/
theorem Pool.claim_grants {r : RecordId} {rs : List RecordId} (hrec : pool.recFree = r :: rs)
    (h : (if k.urgent = true then segmentCount k.length else 64 + segmentCount k.length) ≤ pool.segFree.length) :
    pool.claim k = .granted r (pool.take k (segmentCount k.length) r).lowTest := by
  unfold Pool.claim Pool.freeCount Config.urgentReserve
  rw [hrec]
  cases hk : k.urgent
  · simp only [hk, Bool.false_eq_true, if_false] at h
    simp [Nat.not_lt.mpr h]
  · simp only [hk, if_true] at h
    simp [Nat.not_lt.mpr h]

/-- The low-mark test changes the level only (R14). -/
theorem Pool.lowTest_eq (pool : Pool) :
    pool.lowTest = { pool with level := if pool.level = .normal ∧ pool.segFree.length < 192 then .low else pool.level } := by
  unfold Pool.lowTest Pool.freeCount Config.lowMark
  split <;> rfl

end claim

/-! ## The body of POST -/

section body

variable {s : State} {p : PortId} {w : Table Word 8} {c : ChannelId} {u : Use}

theorem postBody_badChannel (hw : s.args p = w) (h : postEntry s p (channelArg w) = none) : postBody p s = s.refuse p .badChannel := by
  subst hw
  unfold postBody
  dsimp only
  rw [h]

theorem postBody_refused (hw : s.args p = w) (h : postEntry s p (channelArg w) = some (c, u)) {st : Status}
    (hst : postRefusal u (lengthArg w) (urgentArg w) = some st) : postBody p s = postRefused s p c st := by
  subst hw
  unfold postBody
  dsimp only
  rw [h]
  dsimp only
  rw [hst]

theorem postBody_unclaimed (hw : s.args p = w) (h : postEntry s p (channelArg w) = some (c, u)) (hst : postRefusal u (lengthArg w) (urgentArg w) = none)
    {st : Status} (hclaim : s.pool.claim (postClaim s p c u) = .refused st) : postBody p s = postRefused s p c st := by
  subst hw
  unfold postBody
  dsimp only
  rw [h]
  dsimp only
  rw [hst]
  dsimp only
  rw [hclaim]

theorem postBody_accepts (hw : s.args p = w) (h : postEntry s p (channelArg w) = some (c, u)) (hst : postRefusal u (lengthArg w) (urgentArg w) = none)
    {r : RecordId} {pool : Pool} (hclaim : s.pool.claim (postClaim s p c u) = .granted r pool) : postBody p s = postAccept s p c r pool := by
  subst hw
  unfold postBody
  dsimp only
  rw [h]
  dsimp only
  rw [hst]
  dsimp only
  rw [hclaim]

/-- A POST that is refused at tests 3 to 8 is counted and turned away (R60). -/
theorem exec_postRefused {n : Bool} (hs : s.SlotReady p) (ha : admits (s.piu p).state .post = true) {st : Status}
    (hb : postBody p (s.latched p (kindOf .post) n) = postRefused (s.latched p (kindOf .post) n) p c st) :
    ∃ t, exec (.post p n) s = .next t ∧ (s.modCounters c fun k => k.countRefusal st).TurnedAway t p (kindOf .post) n st :=
  ⟨_, (exec_taken rfl hs ha).trans (congrArg Host.Outcome.next hb), State.TurnedAway.intro (s.modCounters c fun k => k.countRefusal st) p _ n st⟩

/-- Test 2 of Table 4-1 fails for a channel above 63, and for an entry that the port does not produce or that is an offer. -/
theorem postEntry_none {n : Nat} (h : 63 < n ∨ ∃ c : ChannelId, n = c.val ∧ ∀ u, s.use c = some u → u.producedBy p = true → ∃ o, u.stage = .offered o) :
    postEntry s p n = none := by
  refine Option.eq_none_iff_forall_ne_some.mpr fun ⟨d, v⟩ hsome => ?_
  obtain ⟨hn, hv, hp, hstage⟩ := (postEntry_eq_some_iff ..).mp hsome
  rcases h with hn' | ⟨c, hc, hall⟩
  · have := d.isLt
    omega
  · have hcd : c = d := Fin.ext (hc.symm.trans hn)
    subst hcd
    obtain ⟨o, ho⟩ := hall v hv hp
    exact hstage o ho

end body

/-- Settles O30: the tests in order, each passed test a hypothesis of the next. -/
theorem postIsRefusedByTheFirstTestThatFails : Obligations.PostIsRefusedByTheFirstTestThatFails := by
  intro p n s w length k hs hstate
  have hadmits : admits (s.piu p).state .post = true := by rw [hstate]; rfl
  have hargs : (s.latched p (kindOf .post) n).args p = w := State.args_latch ..
  refine ⟨fun hnone => exec_refused rfl hs hadmits (postBody_badChannel hargs (postEntry_none hnone)), fun c u hc hu hp => ?_⟩
  intro counted refused fits flows
  have hentry : (∀ o, u.stage ≠ .offered o) → postEntry (s.latched p (kindOf .post) n) p (channelArg w) = some (c, u) := fun hstage =>
    (postEntry_eq_some_iff ..).mpr ⟨hc, hu, hp, hstage⟩
  have refuse : ∀ {st}, (∀ o, u.stage ≠ .offered o) → st ≠ .held → postRefusal u length (urgentArg w) = some st → refused st := fun {st} hstage hst h => by
    have := exec_postRefused (c := c) hs hadmits (postBody_refused hargs (hentry hstage) h)
    simpa only [Counters.countRefusal, hst, if_false] using this
  have unclaimed : ∀ {st}, (∀ o, u.stage ≠ .offered o) → st ≠ .held → postRefusal u length (urgentArg w) = none →
      s.pool.claim (postClaim (s.latched p (kindOf .post) n) p c u) = .refused st → refused st := fun {st} hstage hst h hclaim => by
    have := exec_postRefused (c := c) hs hadmits (postBody_unclaimed hargs (hentry hstage) h hclaim)
    simpa only [Counters.countRefusal, hst, if_false] using this
  have hlength : (postClaim (s.latched p (kindOf .post) n) p c u).length = length := congrArg lengthArg hargs
  have hurgent : (postClaim (s.latched p (kindOf .post) n) p c u).urgent = urgentArg w := congrArg urgentArg hargs
  refine ⟨fun h => ?_, fun h => ?_, fun h h0 => ?_, fun h hlong h1 => ?_, fun ⟨h, h1, hmax⟩ hheld hcalm => ?_, fun ⟨h, h1, hmax⟩ hflows hquota => ?_,
    fun ⟨h, h1, hmax⟩ hflows hquota hrec => ?_, fun ⟨h, h1, hmax⟩ hflows hquota hrec hseg => ?_⟩
  · exact refuse (by rcases h with h | h <;> simp [h]) (by decide) (postRefusal_closed h)
  · exact refuse (by simp [h]) (by decide) (postRefusal_noConsumer h)
  · exact refuse (by simp [h]) (by decide) (by rw [postRefusal_opened h, if_pos h0])
  · exact refuse (by simp [h]) (by decide) (by rw [postRefusal_opened h, if_neg (by omega), if_pos hlong])
  · have hst : postRefusal u length (urgentArg w) = some .held := by rw [postRefusal_fits h h1 hmax, if_pos ⟨hheld, by simp [hcalm]⟩]
    exact exec_postRefused hs hadmits (postBody_refused hargs (hentry (by simp [h])) hst)
  · exact refuse (by simp [h]) (by decide) (by rw [postRefusal_flows h h1 hmax hflows, if_pos hquota])
  · exact unclaimed (by simp [h]) (by decide) (by rw [postRefusal_flows h h1 hmax hflows, if_neg (Nat.not_lt.mpr hquota)]) (Pool.claim_noRecords hrec)
  · exact unclaimed (by simp [h]) (by decide) (by rw [postRefusal_flows h h1 hmax hflows, if_neg (Nat.not_lt.mpr hquota)])
      (Pool.claim_noSegments hrec (by rw [hlength, hurgent]; exact hseg))

/-! ## An accepted POST -/

section accept

variable {s : State} {c : ChannelId} {u : Use}

/-- The quota hold check (R62, R111). -/
theorem State.quotaCheck_of_use (hu : s.use c = some u) :
    s.quotaCheck c = if u.terms.holdMark ≤ u.held ∧ u.hold = none then s.enterHold c .quota else s := by
  simp [State.quotaCheck, hu]

/-- Acceptance before the quota hold check (R61). -/
def postTaken (s : State) (p : PortId) (c : ChannelId) (r : RecordId) (pool : Pool) (n : Nat) : State :=
  (((s.setPool pool).modUse c fun u => u.posted n).modCounters c fun k => { k with postsAccepted := k.postsAccepted + 1 }).modPiu p fun u =>
    { u with copy := some r }

theorem postAccept_taken (s : State) (p : PortId) (c : ChannelId) (r : RecordId) (pool : Pool) :
    postAccept s p c r pool = (postTaken s p c r pool (segmentCount (lengthArg (s.args p)))).quotaCheck c := rfl

theorem postTaken_entry (hu : s.use c = some u) (p : PortId) (r : RecordId) (pool : Pool) (n : Nat) (d : ChannelId) :
    (postTaken s p c r pool n).entry d =
      if d = c then ⟨(s.entry c).generation, { (s.entry c).counters with postsAccepted := (s.entry c).counters.postsAccepted + 1 }, some (u.posted n)⟩
      else s.entry d := by
  by_cases hd : d = c <;> simp [postTaken, hd, hu]

end accept

/-- The requests of a change of the pool that can only enter LOW (R112). -/
theorem State.setPool_lowTest (s : State) {pool : Pool} (hlevel : pool.level = s.pool.level) :
    (s.setPool pool.lowTest).holdOwed =
        (if s.pool.level = .normal ∧ pool.segFree.length < 192 then s.holdOwed ++ allChannels else s.holdOwed) ∧
      (s.setPool pool.lowTest).retestOwed = s.retestOwed := by
  rw [Pool.lowTest_eq, hlevel]
  cases hs : s.pool.level
  · by_cases hlow : pool.segFree.length < 192 <;> simp [State.setPool, hs, hlow]
  · simp [State.setPool, hs]

/-- Settles O29: the claim, then the entry with its counts, then the quota hold check. -/
theorem postIsAccepted : Obligations.PostIsAccepted := by
  intro p n s c u r rs w length k enters low hs hstate hc hu hstage hp h1 hmax hflows hquota hrec hroom
  have hadmits : admits (s.piu p).state .post = true := by rw [hstate]; rfl
  have hargs : (s.latched p (kindOf .post) n).args p = w := State.args_latch ..
  have hentry : postEntry (s.latched p (kindOf .post) n) p (channelArg w) = some (c, u) :=
    (postEntry_eq_some_iff ..).mpr ⟨hc, hu, hp, by simp [hstage]⟩
  have hpassed : postRefusal u length (urgentArg w) = none := by
    rw [postRefusal_flows hstage h1 hmax hflows, if_neg (Nat.not_lt.mpr hquota)]
  let claim : Claim := ⟨c, (s.entry c).generation, u.nextSequence, length, userTagArg w, p, urgentArg w⟩
  let taken := s.pool.take claim k r
  let before := postTaken (s.latched p (kindOf .post) n) p c r taken.lowTest k
  have hclaimed : postClaim (s.latched p (kindOf .post) n) p c u = claim := by
    simp only [postClaim, hargs]
    rfl
  have hclaim : s.pool.claim claim = .granted r taken.lowTest := Pool.claim_grants hrec hroom
  have hbody : postBody p (s.latched p (kindOf .post) n) = before.quotaCheck c :=
    (postBody_accepts hargs hentry hpassed (hclaimed ▸ hclaim)).trans ((postAccept_taken ..).trans (by rw [hargs]))
  have hbefore : ∀ d, before.entry d = _ := postTaken_entry (s := s.latched p (kindOf .post) n) hu p r taken.lowTest k
  have huse : before.use c = some (u.posted k) := by rw [← State.entry_use, hbefore, if_pos rfl]
  have htold : s.Told before fun _ => [] := ((State.Told.latched s p _ n).setPool.modUse.modCounters).modPiu rfl
  have hcheck : before.quotaCheck c = if enters then before.enterHold c .quota else before := State.quotaCheck_of_use huse
  have hpool : before.pool = taken.lowTest := rfl
  have hrequests := State.setPool_lowTest (s.latched p (kindOf .post) n) (pool := taken) rfl
  have hlow : (s.pool.level = .normal ∧ taken.segFree.length < 192) ↔ low := by
    rw [show taken.segFree = s.pool.segFree.drop k from rfl, List.length_drop]
  refine ⟨before.quotaCheck c, (exec_taken rfl hs hadmits).trans (congrArg Host.Outcome.next hbody), ?_, fun d hd => ?_, fun x => ?_, ?_, ?_, ?_, ?_, ?_, ?_, ?_,
    fun q hq => ?_, ?_, ?_, ?_⟩
  · rw [hcheck, State.enterHoldIf_entry huse, if_pos rfl, hbefore, if_pos rfl]
    rfl
  · rw [hcheck, State.enterHoldIf_entry huse, if_neg hd, hbefore, if_neg hd]
    rfl
  · rw [State.record, State.quotaCheck_pool, hpool, Pool.lowTest_eq]
    exact Table.read_write ..
  · rw [State.quotaCheck_pool, hpool, Pool.lowTest_eq]
    rfl
  · rw [State.quotaCheck_pool, hpool, Pool.lowTest_eq]
    rfl
  · rw [State.quotaCheck_pool, hpool, Pool.lowTest_eq]
    exact congrArg List.tail hrec
  · rw [State.quotaCheck_pool, hpool, Pool.lowTest_eq]
    exact if_congr hlow rfl rfl
  · rw [State.quotaCheck_holdOwed]
    exact hrequests.1.trans (if_congr hlow rfl rfl)
  · rw [State.quotaCheck_retestOwed]
    exact hrequests.2
  · rw [State.quotaCheck_piu]
    simp [before, postTaken, Piu.latch, CommandSlot.taken]
  · rw [State.quotaCheck_piu]
    simp [before, postTaken, hq]
  · rw [hcheck]
    exact (htold.trans (.enterHoldIf huse .quota)).events.congr fun _ => rfl
  · rw [hcheck]
    exact (State.enterHoldIf_wordsSet huse .quota).congr (fun q => by simp [before, postTaken]) (.refl _)
  · simp [State.DeviceSame, before, postTaken]

/-! ## The copy -/

/-- A copied byte reads as the buffer's, when no two bytes of the copy share an address. -/
theorem Memory.read_copyBytes {m : Memory} (h : Memory.wf m) (buffer : Memory) (chain : List SegmentId) (n : Nat)
    (hinj : ∀ i j, i < n → j < n → segmentAddress chain i = segmentAddress chain j → i = j) {i : Nat} (hi : i < n) :
    Memory.read (copyBytes buffer chain n m) (segmentAddress chain i) = buffer.read i := by
  induction n with
  | zero => omega
  | succ n ih =>
    rw [copyBytes, Memory.read_write (Memory.wf_copyBytes h buffer chain n)]
    by_cases hin : i = n
    · rw [hin, if_pos rfl]
    · rw [if_neg fun e => hin (hinj i n hi (by omega) e)]
      exact ih (fun i j hi hj => hinj i j (by omega) (by omega)) (by omega)

/-- The segment of a byte of a message is one of its chain. -/
theorem segmentAddress_div (chain : List SegmentId) (i : Nat) : segmentAddress chain i / 64 = (chain.getD (i / 64) 0).val := by
  unfold segmentAddress
  omega

/-- The bytes of a message whose chain names no segment twice have addresses of their own (R6). -/
theorem segmentAddress_inj {chain : List SegmentId} (h : chain.Nodup) {i j : Nat} (hi : i < 64 * chain.length) (hj : j < 64 * chain.length)
    (he : segmentAddress chain i = segmentAddress chain j) : i = j := by
  have hdiv : ∀ {k}, k < 64 * chain.length → k / 64 < chain.length := fun hk => by omega
  have hsegment : chain[i / 64]'(hdiv hi) = chain[j / 64]'(hdiv hj) := Fin.ext <| by
    have := (segmentAddress_div chain i).symm.trans ((congrArg (· / 64) he).trans (segmentAddress_div chain j))
    rwa [List.getD_eq_getElem _ _ (hdiv hi), List.getD_eq_getElem _ _ (hdiv hj)] at this
  have hindex : i / 64 = j / 64 := (h.getElem_inj_iff).mp hsegment
  unfold segmentAddress at he
  rw [hindex] at he
  omega

/-- A write leaves the other bytes, also of a memory that is not in canonical form. -/
theorem Memory.read_write_ne (m : Memory) {a x : Nat} (hx : x ≠ a) (b : Byte) : Memory.read (Memory.write m a b) x = Memory.read m x := by
  induction m with
  | nil =>
    unfold Memory.write
    split
    · rfl
    · exact if_neg (Ne.symm hx)
  | cons d m ih =>
    obtain ⟨k, v⟩ := d
    unfold Memory.write
    split
    · split
      · rfl
      · exact if_neg (Ne.symm hx)
    · split
      · next hk =>
        subst hk
        have hlist : Memory.read ((a, v) :: m) x = Memory.read m x := if_neg (Ne.symm hx)
        split
        · exact hlist.symm
        · exact (if_neg (Ne.symm hx)).trans hlist.symm
      · simp only [Memory.read, ih]

/-- A copy touches no segment outside the chain (R64, R69). -/
theorem Memory.read_copyBytes_outside (m buffer : Memory) {chain : List SegmentId} {n a : Nat} (hn : n ≤ 64 * chain.length)
    (ha : ∀ x ∈ chain, a / 64 ≠ x.val) : Memory.read (copyBytes buffer chain n m) a = Memory.read m a := by
  induction n with
  | zero => rfl
  | succ n ih =>
    have hlt : n / 64 < chain.length := by omega
    have hne : a ≠ segmentAddress chain n := fun e => by
      refine ha (chain.getD (n / 64) 0) ?_ (e ▸ segmentAddress_div chain n)
      rw [List.getD_eq_getElem _ _ hlt]
      exact List.getElem_mem hlt
    rw [copyBytes, Memory.read_write_ne _ hne, ih (by omega)]

section completion

variable {s : State} {p : PortId} {r : RecordId} {rec : Record} {u : Use}

/-- The state in which the entry takes the completion of a copy: the payload is written and the buffer unlocked (R64, R68). -/
def State.copied (s : State) (p : PortId) (rec : Record) : State :=
  (s.copyPayload p rec (64 * segmentCount rec.length)).modPiu p fun u => { u with copy := none }

theorem execCopyCompletion_copy (hcopy : (s.piu p).copy = some r) (hrec : s.record r = some rec) :
    execCopyCompletion p s = .next ((s.copied p rec).completeCopy p r rec) := by
  unfold execCopyCompletion
  rw [hcopy]
  dsimp only
  rw [hrec]
  rfl

theorem State.copied_told (s : State) (p : PortId) (rec : Record) : s.Told (s.copied p rec) fun _ => [] := (State.Told.refl s).copyPayload.modPiu rfl

/-- The entry of a record whose generation it has (R8). -/
theorem State.useOfRecord_some (hg : (s.entry rec.channel).generation = rec.generation) (hu : s.use rec.channel = some u) : s.useOfRecord rec = some u :=
  (State.useOfRecord_eq_some_iff ..).mpr ⟨hg, hu⟩

/-- A copy that completes on an OPEN entry (R66). -/
theorem State.completeCopy_opened (h : s.useOfRecord rec = some u) (hstage : u.stage = .opened) :
    s.completeCopy p r rec = ((s.modRecord r fun rec => { rec with state := .queued }).modUse rec.channel fun u =>
      { u with queue := u.queue ++ [r], fill := false }).complete p .done (resultWords rec.sequence.toNat 1 0 0) := by
  simp only [State.completeCopy, h, hstage]

end completion

/-- Settles O31: the payload by the laws of the byte memory, then the entry and the completion. -/
theorem copyCompletionQueuesTheMessage : Obligations.CopyCompletionQueuesTheMessage := by
  intro p s r rec u c hmem hcopy hrec hgeneration hu hstage hwhole
  have hbody := State.completeCopy_opened (s := s.copied p rec) (p := p) (r := r) (State.useOfRecord_some hgeneration hu) hstage
  have hlength : 64 * segmentCount rec.length = 64 * rec.chain.length := by rw [hwhole.2]
  have htold := (((State.copied_told s p rec).modRecord (r := r) (f := fun rec => { rec with state := .queued })).modUse (c := c)
    (f := fun u => { u with queue := u.queue ++ [r], fill := false })).complete (p := p) (status := .done)
    (results := resultWords rec.sequence.toNat 1 0 0) rfl rfl
  refine ⟨_, (execCopyCompletion_copy hcopy hrec).trans (congrArg Host.Outcome.next hbody), ?_, fun d hd => ?_, fun x => ?_, fun i hi => ?_, fun a ha => ?_,
    ?_, ?_, ?_, ?_, ?_, ?_, fun q hq => ?_, ?_, fun q => ?_, ?_⟩
  · simp [State.copied, c, hu]
  · simp [State.copied, c, hd]
  · simp [State.copied, hrec]
  · rw [State.complete_pool]
    exact Memory.read_copyBytes hmem.1 _ _ _ (fun i j hi hj => segmentAddress_inj hwhole.1 (hlength ▸ hi) (hlength ▸ hj)) hi
  · rw [State.complete_pool]
    exact Memory.read_copyBytes_outside _ _ hlength.le ha
  · rw [State.complete_pool]; rfl
  · rw [State.complete_pool]; rfl
  · rw [State.complete_pool]; rfl
  · simp [State.copied]
  · simp [State.copied]
  · simp [State.copied, CommandSlot.completed]
  · simp [State.copied, hq]
  · simpa [State.copied] using htold.events
  · simp [State.copied]
  · simp [State.DeviceSame, State.copied]

/-! ## A copy whose consumer is gone -/

section departed

variable {s : State} {p : PortId} {r : RecordId} {rec : Record} {u : Use}

/-- The copy's record is freed and the POST completes (R67). -/
def State.copyDropped (s : State) (p : PortId) (c : ChannelId) (r : RecordId) (status : Status) (sequence : Half) : State :=
  (s.dropFill c r).complete p status (resultWords sequence.toNat 1 0 0)

theorem State.copyDropped_entry (hrec : s.record r = some rec) {c : ChannelId} (hu : s.use c = some u) (status : Status) (sequence : Half) (d : ChannelId) :
    (s.copyDropped p c r status sequence).entry d =
      if d = c then { s.entry c with use := some { u with held := u.held - segmentCount rec.length, fill := false } } else s.entry d := by
  by_cases hd : d = c <;> simp [State.copyDropped, State.dropFill, hd, hu, Pool.heldBy_singleton hrec]

theorem State.copyDropped_use (hrec : s.record r = some rec) {c : ChannelId} (hu : s.use c = some u) (status : Status) (sequence : Half) :
    (s.copyDropped p c r status sequence).use c = some { u with held := u.held - segmentCount rec.length, fill := false } := by
  rw [← State.entry_use, State.copyDropped_entry hrec hu, if_pos rfl]

/-- A copy that completes on an ENDING or ORPHANED entry (R67); only an ENDING one with nothing left in flight becomes FREE (R50). -/
theorem State.completeCopy_departed (hrec : s.record r = some rec) (hg : (s.entry rec.channel).generation = rec.generation)
    (hu : s.use rec.channel = some u) (hstage : u.stage = .ending ∨ u.stage = .orphaned) {status : Status}
    (hst : status = if u.stage = .ending then .closed else .noConsumer) :
    s.completeCopy p r rec = if u.stage = .ending ∧ u.queue = []
      then (s.copyDropped p rec.channel r status rec.sequence).freeWithNotice rec.channel .finish
      else s.copyDropped p rec.channel r status rec.sequence := by
  have huse := State.copyDropped_use (p := p) hrec hu status rec.sequence
  have hnamed := State.useOfRecord_some hg hu
  rcases hstage with h | h
  · simp only [h, if_true] at hst
    subst hst
    have hcheck := State.freeCheck_of_use huse h
    simp only [State.completeCopy, hnamed, h, true_and]
    exact hcheck.trans (by simp)
  · simp only [h, reduceCtorEq, if_false] at hst
    subst hst
    simp only [State.completeCopy, hnamed, h, reduceCtorEq, false_and, if_false]
    rfl

end departed

/-- Settles O32: the record freed and the POST completed, then the FREE check of an ENDING entry. -/
theorem copyCompletionOnADepartedConsumer : Obligations.CopyCompletionOnADepartedConsumer := by
  intro p s r rec u c s1 d freed st hcopy hrec hgeneration hu hstage
  have hbody := State.completeCopy_departed (s := s.copied p rec) (p := p) hrec hgeneration hu hstage rfl
  have huse := State.copyDropped_use (s := s.copied p rec) (p := p) (c := c) hrec hu st rec.sequence
  have hentry := State.copyDropped_entry (s := s.copied p rec) (p := p) (c := c) hrec hu st rec.sequence
  have htold : s.Told ((s.copied p rec).copyDropped p c r st rec.sequence) _ :=
    ((State.copied_told s p rec).dropRecords (c := c) (rs := [r])).modUse.complete (k := (s.piu p).slot.kind) (n := (s.piu p).slot.notify)
      (by simp [State.copied]) (by simp [State.copied])
  have hfreed : s1.PoolFreed ((s.copied p rec).copyDropped p c r st rec.sequence) [r] :=
    (State.PoolFreed.dropRecords (s.copied p rec) c [r]).congr ⟨rfl, rfl, rfl⟩ (by simp [State.PoolSame, State.copyDropped, State.dropFill])
  have hpiu : ∀ q, ((s.copied p rec).copyDropped p c r st rec.sequence).piu q = if q = p then { s.piu p with
      copy := none, slot := (s.piu p).slot.completed st (resultWords rec.sequence.toNat 1 0 0) } else s.piu q := fun q => by
    by_cases hq : q = p <;> simp [State.copyDropped, State.copied, hq, CommandSlot.completed]
  have hwords : s.WordsSame ((s.copied p rec).copyDropped p c r st rec.sequence) := fun q => by simp [State.copyDropped, State.copied]
  have hdevice : s.DeviceSame ((s.copied p rec).copyDropped p c r st rec.sequence) := by simp [State.DeviceSame, State.copyDropped, State.copied]
  have hnotices := State.Told.freeWithNoticeIf (b := freed) huse .finish
  have hgenerations : (((s.copied p rec).copyDropped p c r st rec.sequence).entry c).generation = (s.entry c).generation := by
    rw [hentry, if_pos rfl]
    rfl
  rw [hgenerations] at hnotices
  generalize hdropped : (s.copied p rec).copyDropped p c r st rec.sequence = dropped at *
  have hafter : ∀ q, (if freed then dropped.freeWithNotice c .finish else dropped).piu q = dropped.piu q := fun q => by split <;> simp
  refine ⟨_, (execCopyCompletion_copy hcopy hrec).trans (congrArg Host.Outcome.next hbody), ?_, ?_, fun q hq => ?_, ?_, fun hf => ?_, fun hf => ?_, ?_⟩
  · exact hfreed.congr ⟨rfl, rfl, rfl⟩ (by split <;> simp [State.PoolSame])
  · exact (hafter p).trans ((hpiu p).trans (if_pos rfl))
  · exact (hafter q).trans ((hpiu q).trans (if_neg hq))
  · exact (htold.trans hnotices).events.congr fun _ => rfl
  · have hfree := State.BecameFree.freeWithNotice huse .finish
    have hgo : (if freed then dropped.freeWithNotice c .finish else dropped) = dropped.freeWithNotice c .finish := if_pos hf
    exact State.BecameFree.before (hgo.symm ▸ hfree) hgenerations rfl rfl (fun d hd => (hentry d).trans (if_neg hd)) hwords
  · have hstay : (if freed then dropped.freeWithNotice c .finish else dropped) = dropped := if_neg hf
    refine ⟨?_, fun d hd => ?_, ?_⟩
    · exact (congrArg (State.entry · c) hstay).trans ((hentry c).trans (if_pos rfl))
    · exact (congrArg (State.entry · d) hstay).trans ((hentry d).trans (if_neg hd))
    · exact hstay.symm ▸ hwords
  · by_cases hf : freed
    · have hgo : (if freed then dropped.freeWithNotice c .finish else dropped) = dropped.freeWithNotice c .finish := if_pos hf
      refine hgo.symm ▸ ?_
      simpa [State.DeviceSame] using hdevice
    · have hstay : (if freed then dropped.freeWithNotice c .finish else dropped) = dropped := if_neg hf
      exact hstay.symm ▸ hdevice

end Sys2Proof.Machine

/-! # Proofs: the answers of the link, the writes of a landing and the choice of a channel (O33, O34, O35) -/

namespace Sys2Proof.Machine

/-! ## The job that an answer completes -/

section answers

variable {s : State} {p : PortId} {job : Job}

/-- The job in flight is named by its number (R75). -/
theorem Writer.jobNamed_current (h : (s.writer p).state = .busy job) : (s.writer p).jobNamed (s.writer p).jobs = some job :=
  (Writer.jobNamed_iff ..).mpr ⟨h, rfl⟩

/-- The last write of the job in flight, when it is the only one left. -/
theorem Writer.lastWriteOf_current (h : (s.writer p).state = .busy job) :
    (s.writer p).lastWriteOf (s.writer p).jobs = if job.writes.length ≤ 1 then some job.kind else none := by
  rw [Writer.lastWriteOf, Writer.jobNamed_current h]

/-- An answer that names no job in flight names no last write. -/
theorem Writer.lastWriteOf_late {w : Writer} {k : Nat} (h : w.jobNamed k = none) : w.lastWriteOf k = none := by rw [Writer.lastWriteOf, h]

/-- The OK to a write that is not the last issues the next one (R75). -/
theorem execLinkWriteOk_next (h : (s.writer p).state = .busy job) {x y : LinkWrite} {ws : List LinkWrite} (hw : job.writes = x :: y :: ws) :
    execLinkWriteOk ⟨p, (s.writer p).jobs⟩ s = .next (s.modWriter p fun w => { w with state := .busy ⟨job.kind, y :: ws, ⟨64, none⟩⟩ }) := by
  simp only [execLinkWriteOk, Writer.jobNamed_current h, State.answerOk, hw]
  rfl

/-- The OK to the last write completes the job (R75). -/
theorem execLinkWriteOk_last (h : (s.writer p).state = .busy job) {x : LinkWrite} (hw : job.writes = [x]) :
    execLinkWriteOk ⟨p, (s.writer p).jobs⟩ s = .next (s.completeJob p job.kind) := by
  simp only [execLinkWriteOk, Writer.jobNamed_current h, State.answerOk, hw]

/-- An answer OK that names no job in flight is not taken (R75). -/
theorem execLinkWriteOk_late {a : LinkAnswer} (h : (s.writer a.port).jobNamed a.job = none) : execLinkWriteOk a s = .next s := by
  simp only [execLinkWriteOk, h]

theorem execLandingCompletion_of_last {a : LinkAnswer} {c : ChannelId} {g : Byte} {r : RecordId} {i : Half}
    (h : (s.writer a.port).lastWriteOf a.job = some (.landing c g r i)) :
    execLandingCompletion a s = .next (s.completeJob a.port (.landing c g r i)) := by
  simp only [execLandingCompletion, h]

theorem execLandingCompletion_not {a : LinkAnswer} (h : ∀ c g r i, (s.writer a.port).lastWriteOf a.job ≠ some (.landing c g r i)) :
    execLandingCompletion a s = .next s := by
  refine congrArg Host.Outcome.next ?_
  split
  · next hl => exact absurd hl (h _ _ _ _)
  · rfl

theorem execFlushCompletion_of_last {a : LinkAnswer} {n : Nat} {tag : Byte} {vs : List VectorId}
    (h : (s.writer a.port).lastWriteOf a.job = some (.flush n tag vs)) : execFlushCompletion a s = .next (s.completeJob a.port (.flush n tag vs)) := by
  simp only [execFlushCompletion, h]

theorem execFlushCompletion_not {a : LinkAnswer} (h : ∀ n tag vs, (s.writer a.port).lastWriteOf a.job ≠ some (.flush n tag vs)) :
    execFlushCompletion a s = .next s := by
  refine congrArg Host.Outcome.next ?_
  split
  · next hl => exact absurd hl (h _ _ _)
  · rfl

theorem execSignalCompletion_of_last {a : LinkAnswer} {v : VectorId} (h : (s.writer a.port).lastWriteOf a.job = some (.signal v)) :
    execSignalCompletion a s = .next (s.completeJob a.port (.signal v)) := by
  simp only [execSignalCompletion, h]

theorem execSignalCompletion_not {a : LinkAnswer} (h : ∀ v, (s.writer a.port).lastWriteOf a.job ≠ some (.signal v)) :
    execSignalCompletion a s = .next s := by
  refine congrArg Host.Outcome.next ?_
  split
  · next hl => exact absurd hl (h _)
  · rfl

/-- A timeout of a write that has not been unanswered for its interval is not taken (R75, R177). -/
theorem State.timeOut_early (h : ∀ job, (s.writer p).state = .busy job → ¬ job.timeout.RanOut) : s.timeOut p = s := by
  unfold State.timeOut
  split
  · rfl
  · rfl
  · next job hjob => exact if_neg (mt (Timer.expired_iff _).mp (h job hjob))

end answers

/-- Settles O35, by the job in flight and the number of its writes. -/
theorem linkWriteOkIssuesTheNextWrite : Obligations.LinkWriteOkIssuesTheNextWrite := by
  intro p s
  refine ⟨fun job hbusy => ?_, fun k hk => ?_, fun hearly => ⟨?_, fun hfault => ?_⟩⟩
  · intro a
    have hlast := Writer.lastWriteOf_current hbusy
    have hone : ∀ {x}, job.writes = [x] → (s.writer p).lastWriteOf (s.writer p).jobs = some job.kind := fun hw => by rw [hlast, hw]; rfl
    have hmany : ∀ {x y ws}, job.writes = x :: y :: ws → (s.writer p).lastWriteOf (s.writer p).jobs = none := fun hw => by
      rw [hlast, hw, if_neg (by simp)]
    have hkind : ∀ {kind}, (s.writer p).lastWriteOf (s.writer p).jobs = some kind → job.kind = kind := fun h => by
      rw [hlast] at h
      split at h
      · exact Option.some.inj h
      · cases h
    refine ⟨fun x y ws hw => execLinkWriteOk_next hbusy hw, fun x c g r i hw hj => ?_, fun x m tag vs hw hj => ?_, fun x v hw hj => ?_,
      fun x y ws hw => ⟨?_, ?_, ?_⟩, fun hj => ?_, fun hj => ?_, fun hj => ?_⟩
    · exact (execLinkWriteOk_last hbusy hw).trans (hj ▸ (execLandingCompletion_of_last (a := a) (hj ▸ hone hw)).symm)
    · exact (execLinkWriteOk_last hbusy hw).trans (hj ▸ (execFlushCompletion_of_last (a := a) (hj ▸ hone hw)).symm)
    · exact (execLinkWriteOk_last hbusy hw).trans (hj ▸ (execSignalCompletion_of_last (a := a) (hj ▸ hone hw)).symm)
    · exact execLandingCompletion_not fun _ _ _ _ h => by cases (hmany hw).symm.trans h
    · exact execFlushCompletion_not fun _ _ _ h => by cases (hmany hw).symm.trans h
    · exact execSignalCompletion_not fun _ h => by cases (hmany hw).symm.trans h
    · exact execLandingCompletion_not fun _ _ _ _ h => hj _ _ _ _ (hkind h)
    · exact execFlushCompletion_not fun _ _ _ h => hj _ _ _ (hkind h)
    · exact execSignalCompletion_not fun _ h => hj _ (hkind h)
  · have hnone : (s.writer p).jobNamed k = none := by
      refine Option.eq_none_iff_forall_ne_some.mpr fun job h => ?_
      obtain ⟨hbusy, hnumber⟩ := (Writer.jobNamed_iff ..).mp h
      rcases hk with hk | hk | hk
      · exact hk hnumber
      · cases hk.symm.trans hbusy
      · cases hk.symm.trans hbusy
    have hlast := Writer.lastWriteOf_late hnone
    have herror : s.answerError p k = s := by rw [State.answerError, hnone]
    refine ⟨fun i hi => ?_, fun hfault => ?_⟩
    · simp only [List.mem_cons, List.not_mem_nil, or_false] at hi
      rcases hi with rfl | rfl | rfl | rfl | rfl
      · exact execLinkWriteOk_late hnone
      · exact execLandingCompletion_not fun _ _ _ _ h => by cases hlast.symm.trans h
      · exact execFlushCompletion_not fun _ _ _ h => by cases hlast.symm.trans h
      · exact execSignalCompletion_not fun _ h => by cases hlast.symm.trans h
      · exact congrArg Host.Outcome.next herror
    · exact congrArg Host.Outcome.next ((congrArg (State.takeFault · p) herror).trans (State.takeFault_none hfault))
  · exact congrArg Host.Outcome.next (State.timeOut_early hearly)
  · exact congrArg Host.Outcome.next ((congrArg (State.takeFault · p) (State.timeOut_early hearly)).trans (State.takeFault_none hfault))

/-! ## The writes of a landing -/

/-- The writes of words at ascending addresses, one by one (R80). -/
theorem writesFrom_getElem? (address : Word) (ws : List Word) (k : Nat) :
    (writesFrom address ws)[k]? = ws[k]?.map fun w => ⟨address + BitVec.ofNat 32 (4 * k), w⟩ := by
  induction ws generalizing address k with
  | nil => rfl
  | cons w ws ih =>
    cases k with
    | zero => simp [writesFrom]
    | succ k =>
      have haddress : address + 4 + BitVec.ofNat 32 (4 * k) = address + BitVec.ofNat 32 (4 * (k + 1)) := by
        rw [BitVec.add_assoc, Nat.mul_add, Nat.mul_one, Nat.add_comm (4 * k) 4, BitVec.ofNat_add]
        rfl
      simp only [writesFrom, List.getElem?_cons_succ, ih, haddress]

theorem writesFrom_length (address : Word) (ws : List Word) : (writesFrom address ws).length = ws.length := by
  induction ws generalizing address with
  | nil => rfl
  | cons w ws ih => simp [writesFrom, ih]

theorem payloadWords_length (segments : Memory) (rec : Record) : (payloadWords segments rec).length = (rec.length + 3) / 4 := by simp [payloadWords]

/-- A byte of a word of a payload (R6, R171). -/
theorem payloadWord_byte (segments : Memory) (chain : List SegmentId) (k : Nat) {j : Nat} (hj : j < 4) :
    (payloadWord segments chain k).extractLsb' (8 * j) 8 = segments.read (segmentAddress chain (4 * k + j)) :=
  wordOfBytes_byte (fun j => segments.read (segmentAddress chain (4 * k + j))) hj

/-- One bit of a word. -/
theorem bit_eq (w : Word) (i : Nat) : bit w i = decide (bits w i i = 1) := by
  rw [bit, BitVec.getLsbD, Nat.testBit_eq_decide_div_mod_eq, bits_eq, Nat.add_sub_cancel_left]
  rfl

/-- A flag is below 2, and tells itself. -/
theorem flag_lt (b : Bool) : flag b < 2 := by cases b <;> decide
theorem flag_eq_one (b : Bool) : decide (flag b = 1) = b := by cases b <;> rfl

/-- A word whose fields fit is the number that they sum to. -/
theorem pack_toNat {fields : List Field} {n : Nat} (h : (fields.map Field.weight).sum = n) (hn : n < 2 ^ 32) : (pack 32 fields).toNat = n := by
  rw [pack_eq, h, BitVec.toNat_ofNat, Nat.mod_eq_of_lt hn]

/-- The weight of a flag in its one bit. -/
theorem Field.weight_bit (b : Bool) (i : Nat) : Field.weight (flag b, i, i) = flag b * 2 ^ i :=
  Field.weight_fits ((flag_lt b).trans_eq (by rw [Nat.add_sub_cancel_left, Nat.pow_one]))

theorem sum_weight_cons (f : Field) (fs : List Field) : ((f :: fs).map Field.weight).sum = Field.weight f + (fs.map Field.weight).sum := by
  rw [List.map_cons, List.sum_cons]

/-- The first word of a landing header as a sum (R81, Table 11-4). -/
theorem headerWord0_toNat {rec : Record} (hlength : rec.length < 2 ^ (15 + 1 - 0)) (confirmRequired : Bool) :
    (pack 32 [(rec.length, 15, 0), (flag rec.urgent, 16, 16), (flag confirmRequired, 17, 17), (flag rec.replay, 18, 18), (rec.source.val, 25, 24)]).toNat =
      rec.length + (flag rec.urgent * 2 ^ 16 + (flag confirmRequired * 2 ^ 17 + (flag rec.replay * 2 ^ 18 + rec.source.val * 2 ^ 24))) := by
  have hurgent := flag_lt rec.urgent
  have hconfirm := flag_lt confirmRequired
  have hreplay := flag_lt rec.replay
  have hsource : rec.source.val < 2 ^ (25 + 1 - 24) := rec.source.isLt.trans_eq (by norm_num)
  have hfits : rec.length + (flag rec.urgent * 2 ^ 16 + (flag confirmRequired * 2 ^ 17 + (flag rec.replay * 2 ^ 18 + rec.source.val * 2 ^ 24))) < 2 ^ 32 := by
    omega
  refine pack_toNat ?_ hfits
  rw [sum_weight_cons, sum_weight_cons, sum_weight_cons, sum_weight_cons, sum_weight_cons, List.map_nil, List.sum_nil, Field.weight_fits hlength, Field.weight_bit, Field.weight_bit, Field.weight_bit, Field.weight_fits hsource, pow_zero, mul_one,
    add_zero]

/-- The second word. -/
theorem headerWord1_toNat (rec : Record) : (pack 32 [(rec.channel.val, 7, 0), (rec.sequence.toNat, 31, 16)]).toNat =
    rec.channel.val + rec.sequence.toNat * 2 ^ 16 := by
  have hchannel : rec.channel.val < 2 ^ 8 := rec.channel.isLt.trans (by decide)
  have hsequence := rec.sequence.isLt
  refine pack_toNat ?_ (by omega)
  simp only [List.map_cons, List.map_nil, List.sum_cons, List.sum_nil, Field.weight_fits (hi := 7) (lo := 0) hchannel,
    Field.weight_fits (hi := 31) (lo := 16) hsequence, pow_zero, mul_one, add_zero]

/-- The third word. -/
theorem headerWord2_toNat (rec : Record) (index : Half) : (pack 32 [(rec.userTag.toNat, 15, 0), (index.toNat, 31, 16)]).toNat =
    rec.userTag.toNat + index.toNat * 2 ^ 16 := by
  have htag := rec.userTag.isLt
  have hindex := index.isLt
  refine pack_toNat ?_ (by omega)
  simp only [List.map_cons, List.map_nil, List.sum_cons, List.sum_nil, Field.weight_fits (hi := 15) (lo := 0) htag,
    Field.weight_fits (hi := 31) (lo := 16) hindex, pow_zero, mul_one, add_zero]

/-- Settles O34: the payload by its words, then the fields of the header words. -/
theorem landingWritesPayloadThenHeader : Obligations.LandingWritesPayloadThenHeader := by
  intro segments rec cls ring index hlength slot words ws
  have hlow : rec.length < 2 ^ (15 + 1 - 0) := hlength.trans_eq (by norm_num)
  have hpayload : (writesFrom (slot + 16) (payloadWords segments rec)).length = words := by rw [writesFrom_length, payloadWords_length]
  have hws : ws = writesFrom (slot + 16) (payloadWords segments rec) ++ writesFrom slot (headerWords rec cls.isConfirmed index) := rfl
  have hheader : ∀ k, ws[words + k]? = (headerWords rec cls.isConfirmed index)[k]?.map fun w => ⟨slot + BitVec.ofNat 32 (4 * k), w⟩ := fun k => by
    rw [hws, List.getElem?_append_right (by omega), hpayload, Nat.add_sub_cancel_left, writesFrom_getElem?]
  refine ⟨?_, fun k hk => ⟨payloadWord segments rec.chain k, ?_, fun j hj => payloadWord_byte _ _ _ hj⟩,
    pack 32 [(rec.length, 15, 0), (flag rec.urgent, 16, 16), (flag cls.isConfirmed, 17, 17), (flag rec.replay, 18, 18), (rec.source.val, 25, 24)],
    pack 32 [(rec.channel.val, 7, 0), (rec.sequence.toNat, 31, 16)], pack 32 [(rec.userTag.toNat, 15, 0), (index.toNat, 31, 16)],
    (hheader 0).trans ?_, hheader 1, hheader 2, hheader 3, ?_⟩
  · rw [hws, List.length_append, hpayload, writesFrom_length]
    rfl
  · have hword : (payloadWords segments rec)[k]? = some (payloadWord segments rec.chain k) := by
      rw [payloadWords, List.getElem?_map, List.getElem?_range hk]
      rfl
    rw [hws, List.getElem?_append_left (hpayload ▸ hk), writesFrom_getElem?, hword]
    rfl
  · simp [headerWords]
  · have hurgent := flag_lt rec.urgent
    have hconfirm := flag_lt cls.isConfirmed
    have hreplay := flag_lt rec.replay
    have hsource := rec.source.isLt
    have hchannel := rec.channel.isLt
    have hsequence := rec.sequence.isLt
    have htag := rec.userTag.isLt
    have hindex := index.isLt
    simp only [bit_eq, bits_eq, headerWord0_toNat hlow, headerWord1_toNat, headerWord2_toNat]
    refine ⟨by omega, ?_, ?_, ?_, by omega, by omega, by omega, by omega, by omega, by omega, by omega, by omega⟩
    · exact (congrArg (fun n => decide (n = 1)) (by omega)).trans (flag_eq_one rec.urgent)
    · exact (congrArg (fun n => decide (n = 1)) (by omega)).trans (flag_eq_one cls.isConfirmed)
    · exact (congrArg (fun n => decide (n = 1)) (by omega)).trans (flag_eq_one rec.replay)

end Sys2Proof.Machine


namespace Sys2Proof.Machine

/-! # The choice and the start of a landing (R31, R77, R79) -/

section
variable {s : State} {p : PortId} {c d : ChannelId} {k : Fin 4} {u : Use} {ring : Ring} {r : RecordId} {rec : Record}

/-- The head record `r` of channel `c` can land on port `p` (R31). -/
def State.ReadyOn (s : State) (p : PortId) (c : ChannelId) (u : Use) (ring : Ring) (r : RecordId) (rec : Record) : Prop :=
  s.use c = some u ∧ u.consumedBy p = true ∧ (u.stage = .opened ∨ u.stage = .closing) ∧ (u.ring = some ring ∧ ring.armed = true) ∧
    (u.queue.head? = some r ∧ s.record r = some rec ∧ rec.state = .queued) ∧ 1 ≤ ring.slotCount - (ring.writeIndex - ring.readIndex).toNat ∧
    ∀ w, u.terms.cls = .confirmed w → u.unconfirmed.length < w

/-- The readiness of a channel as it stands in its entry, ring and head record (R31). -/
theorem State.ready_iff : s.ready p c = true ↔ ∃ u ring r rec, s.ReadyOn p c u ring r rec := by
  constructor
  · intro h
    rw [State.ready] at h
    split at h
    · cases h
    · next u hu =>
      simp only [Bool.and_eq_true, Bool.or_eq_true, decide_eq_true_eq, Option.any_eq_true] at h
      obtain ⟨⟨⟨⟨hstage, hparty⟩, ring, hring, harmed, hspace⟩, hqueue⟩, hwindow⟩ := h
      split at hqueue
      · cases hqueue
      · next r rs hrs =>
        simp only [Option.any_eq_true, decide_eq_true_eq] at hqueue
        obtain ⟨rec, hrec, hqueued⟩ := hqueue
        refine ⟨u, ring, r, rec, hu, hparty, hstage, ⟨hring, harmed⟩, ⟨by rw [hrs]; rfl, hrec, hqueued⟩, hspace, fun w hw => ?_⟩
        rw [hw] at hwindow
        exact of_decide_eq_true hwindow
  · rintro ⟨u, ring, r, rec, hu, hparty, hstage, ⟨hring, harmed⟩, ⟨hhead, hrec, hqueued⟩, hspace, hwindow⟩
    obtain ⟨rs, hrs⟩ : ∃ rs, u.queue = r :: rs := by
      cases hq : u.queue with
      | nil => rw [hq] at hhead; cases hhead
      | cons x xs => rw [hq] at hhead; cases hhead; exact ⟨xs, rfl⟩
    have hclass : (match u.terms.cls with | .plain => true | .confirmed w => decide (u.unconfirmed.length < w)) = true := by
      cases hcls : u.terms.cls with
      | plain => rfl
      | confirmed w => exact decide_eq_true (hwindow w hcls)
    rw [State.ready, hu]
    simp only [Bool.and_eq_true, Bool.or_eq_true, decide_eq_true_eq, hring, Option.any_some, hrs, hrec, hqueued]
    exact ⟨⟨⟨⟨hstage, hparty⟩, harmed, hspace⟩, trivial⟩, hclass⟩

/-- The ready channels of one priority. -/
def State.readyAt (s : State) (p : PortId) (k : Fin 4) (c : ChannelId) : Bool := s.ready p c && (s.use c).any fun u => u.terms.priority = k

theorem State.readyAt_iff : s.readyAt p k c = true ↔ ∃ u ring r rec, s.ReadyOn p c u ring r rec ∧ u.terms.priority = k := by
  simp only [State.readyAt, Bool.and_eq_true, State.ready_iff, Option.any_eq_true, decide_eq_true_eq]
  constructor
  · rintro ⟨⟨u, ring, r, rec, h⟩, v, hv, hk⟩
    obtain rfl : u = v := Option.some.inj (h.1.symm.trans hv)
    exact ⟨u, ring, r, rec, h, hk⟩
  · rintro ⟨u, ring, r, rec, h, hk⟩
    exact ⟨⟨u, ring, r, rec, h⟩, u, h.1, hk⟩

/-- The place of a channel in the search that begins after the pointer (R77). -/
theorem searchPlace (pointer c : ChannelId) : Fin.ofNat 64 (pointer.val + 1 + (c - pointer - 1 : ChannelId).val) = c := by
  apply Fin.ext
  simp only [Fin.ofNat, Fin.sub_def, Fin.val_one]
  omega

/-- The search finds the ready channel of a priority that comes first after the pointer (R77). -/
theorem State.chooseAt_eq_some (hc : s.readyAt p k c = true)
    (hfirst : ∀ d, s.readyAt p k d = true → (c - (s.roundRobin.read p).read k - 1 : ChannelId) ≤ d - (s.roundRobin.read p).read k - 1) :
    s.chooseAt p k = some c := by
  have hplace := searchPlace ((s.roundRobin.read p).read k) c
  refine (find?_ascending 64 _ 64 _ (c - (s.roundRobin.read p).read k - 1 : ChannelId).isLt ((congrArg (s.readyAt p k) hplace).trans hc) fun j hj => ?_).trans (congrArg some hplace)
  refine Bool.eq_false_iff.mpr fun hready => ?_
  have hle := Fin.le_def.mp (hfirst _ hready)
  simp only [Fin.ofNat, Fin.sub_def, Fin.val_one] at hle hj
  omega

theorem State.chooseAt_eq_none (h : ∀ c, s.readyAt p k c = false) : s.chooseAt p k = none :=
  List.find?_eq_none.mpr fun c _ hc => by cases (h c).symm.trans hc

/-- The lowest priority that has a choice is served (R77). -/
theorem State.chooseChannel_eq_some (hk : s.chooseAt p k = some c) (hlow : ∀ j, j < k → s.chooseAt p j = none) : s.chooseChannel p = some (k, c) := by
  have horder : ascending 4 0 4 = [0, 1, 2, 3] := rfl
  rw [State.chooseChannel, horder]
  match k with
  | 0 => simp [hk]
  | 1 => simp [hk, hlow 0]
  | 2 => simp [hk, hlow 0, hlow 1]
  | 3 => simp [hk, hlow 0, hlow 1, hlow 2]

theorem State.chooseChannel_eq_none (h : ∀ k, s.chooseAt p k = none) : s.chooseChannel p = none :=
  List.findSome?_eq_none_iff.mpr fun k _ => by rw [h k]; rfl

/-- No signal is due (R138). -/
theorem Nu.dueVector_eq_none {nu : Nu} : nu.dueVector = none ↔ ∀ v, (nu.vectors.read v).due = false := by
  simp [Nu.dueVector, List.find?_eq_none, mem_allVectors]

/-- The start of a landing that has its record and its ring (R79). -/
theorem State.startLanding_of_ready (h : s.ReadyOn p c u ring r rec) :
    s.startLanding p k c = ((s.pointAt p k c).modRecord r fun rec => { rec with state := .landing }).startJob p
      (.landing c (s.entry c).generation r ring.writeIndex) (landingWrites s.pool.segments rec u.terms.cls ring ring.writeIndex) := by
  obtain ⟨hu, -, -, ⟨hring, -⟩, ⟨hhead, hrec, -⟩, -⟩ := h
  obtain ⟨rs, hrs⟩ : ∃ rs, u.queue = r :: rs := List.head?_eq_some_iff.mp hhead
  simp only [State.startLanding, hu, hrs, hring, hrec]

end

/-- Settles O33: the readiness of R31, the search of R77, then what a start changes. -/
theorem landingJobStartServesTheChosenChannel : Obligations.LandingJobStartServesTheChosenChannel := by
  intro p s free readyOn ready
  have hfree : free ↔ s.mayStart p ∧ (s.nu p).dueVector = none ∧ (s.nu p).flushRequest = false := by
    rw [State.mayStart_iff, Nu.dueVector_eq_none, and_assoc]
  have hready : ∀ c k, ready c k ↔ s.readyAt p k c = true := fun c k => State.readyAt_iff.symm
  refine ⟨fun h => ?_, fun k c u r rec ring hf hon hk hlow hfirst => ?_⟩
  · refine congrArg Host.Outcome.next ?_
    rcases h with hno | hno
    · exact if_neg fun h => hno (hfree.mpr h)
    · have hnone : ∀ k, s.chooseAt p k = none := fun k => State.chooseAt_eq_none fun c => Bool.eq_false_iff.mpr fun h => hno c k ((hready c k).mpr h)
      rw [State.chooseChannel_eq_none hnone]
      exact ite_self _
  · have hat : s.readyAt p k c = true := (hready c k).mp ⟨u, ring, r, rec, hon, hk⟩
    have hchoice : s.chooseChannel p = some (k, c) :=
      State.chooseChannel_eq_some (State.chooseAt_eq_some hat fun d hd => hfirst d ((hready d k).mpr hd)) fun j hj =>
        State.chooseAt_eq_none fun d => Bool.eq_false_iff.mpr fun h => absurd (hlow d j ((hready d j).mpr h)) (not_le.mpr hj)
    have hrun : exec (.landingJobStart p) s = .next (s.startLanding p k c) := by
      refine congrArg Host.Outcome.next ?_
      rw [if_pos (hfree.mp hf), hchoice]
    refine ⟨_, hrun.trans (congrArg Host.Outcome.next (State.startLanding_of_ready hon)), ?_, fun q hq => ?_, fun q j => ?_, ?_, ?_⟩
    · simp [State.startJob, Timer.start, Config.writeTimeout]
    · simp [State.startJob, hq]
    · by_cases hq : q = p
      · simp [State.pointAt, hq]
      · simp [State.pointAt, hq]
    · obtain ⟨-, -, -, -, ⟨-, hrec, -⟩, -⟩ := hon
      simp [State.modRecord, show s.pool.records.read r = some rec from hrec]
    · simp [State.PiusSame]

end Sys2Proof.Machine

/-! # Credit writes, LAND, and the tests of LAND and CONFIRM (O39, O40, O41) -/

namespace Sys2Proof.Machine

/-! ## Credit writes -/

section credit

variable {s : State} {p : PortId} {i : SlotId} {c : ChannelId} {u : Use} {ring : Ring} {w : Word}

/-- The channel to which a slot is bound is found (R24). -/
theorem State.boundTo_eq_some (hu : s.use c = some u) {role : Role} {q : Party} (hb : u.binds role q = true) (honce : s.SlotsBoundOnce) :
    s.boundTo role q = some c := by
  have hfound : ((s.use c).any fun u => u.binds role q) = true := by rw [hu]; exact hb
  obtain ⟨d, hd⟩ : ∃ d, s.boundTo role q = some d := Option.isSome_iff_exists.mp (List.find?_isSome.mpr ⟨c, mem_allChannels c, hfound⟩)
  have hany := List.find?_some hd
  simp only [Option.any_eq_true] at hany
  obtain ⟨v, hv, hvb⟩ := hany
  rw [hd, honce role q c d u v hu hv hb hvb]

/-- A credit write on a slot that is bound to no channel is discarded (R90). -/
theorem State.creditWrite_unbound (h : s.SlotUnbound .consumer ⟨p, i⟩) : s.creditWrite p i w = s := by
  have hnone : s.boundTo .consumer ⟨p, i⟩ = none := by
    have := (s.boundTo_isNone .consumer ⟨p, i⟩).mpr h
    simpa using this
  simp [State.creditWrite, hnone]

/-- A credit write on a bound slot is taken while the ring is ARMED (R90, R91). -/
theorem State.creditWrite_bound (hw : s.WindowOpen p) (hu : s.use c = some u) (hb : u.binds .consumer ⟨p, i⟩ = true) (honce : s.SlotsBoundOnce)
    (hring : u.ring = some ring) :
    s.creditWrite p i w = if ring.armed = true then s.takeCredit p i c ring (BitVec.ofNat 16 (bits w 15 0)) else s := by
  simp [State.creditWrite, hw.notClosed, State.boundTo_eq_some hu hb honce, hu, hring]

end credit

/-- Settles O39: the slot's channel, then the range of the value. -/
theorem creditWriteMovesTheReadIndex : Obligations.CreditWriteMovesTheReadIndex := by
  intro p i w s hopen
  refine ⟨fun h => congrArg Host.Outcome.next (State.creditWrite_unbound h), fun c u ring hu hb hring honce => ?_⟩
  have hwrite := State.creditWrite_bound (w := w) hopen hu hb honce hring
  refine ⟨fun harmed => ?_, fun harmed haccepted => ?_, fun harmed hrefused => ?_⟩
  · exact congrArg Host.Outcome.next (hwrite.trans (if_neg (by simp [harmed])))
  · refine ⟨_, congrArg Host.Outcome.next (hwrite.trans ((if_pos harmed).trans (if_pos haccepted))), ?_, fun d hd => ?_, ?_, fun q hq => ?_, fun q => ?_, ?_, ?_⟩
    · simp [hu, hring]
    · simp [hd]
    · simp
    · simp [hq]
    · simp
    · simp [State.PoolSame]
    · simp [State.DeviceSame]
  · refine ⟨_, congrArg Host.Outcome.next (hwrite.trans ((if_pos harmed).trans (if_neg hrefused))), State.EventsMade.event s p _ _ _ _ _, ?_, fun q => ?_, fun q => ?_, ?_, ?_⟩
    · simp
    · simp
    · simp
    · simp [State.PoolSame]
    · simp [State.DeviceSame]

/-! ## LAND -/

section land

variable {s : State} {p : PortId} {w : Table Word 8} {c : ChannelId} {u : Use} {r : RingArgs}

theorem landBody_unnamed (hw : s.args p = w) {st : Status} (h : entryNamed s (channelArg w) (generationArg w) = .error st) :
    landBody p s = s.refuse p st := by
  subst hw
  simp [landBody, h]

theorem landBody_refused (hw : s.args p = w) (h : s.EntryNamed (channelArg w) (generationArg w) c u) {st : Status}
    (hst : landRefusal p u (ringArgs w) = some st) : landBody p s = s.refuse p st := by
  subst hw
  simp [landBody, entryNamed_eq_ok h, hst]

theorem landBody_takes (hw : s.args p = w) (h : s.EntryNamed (channelArg w) (generationArg w) c u) (hst : landRefusal p u (ringArgs w) = none) :
    landBody p s = landTake s p c u (ringArgs w) := by
  subst hw
  simp [landBody, entryNamed_eq_ok h, hst]

/-- A channel has no ARMED ring. -/
def Use.Disarmed (u : Use) : Prop := ∀ x, u.ring = some x → x.armed = false

theorem Use.disarmed_iff : (u.ring.any fun x => x.armed) = true ↔ ¬ u.Disarmed := by
  unfold Use.Disarmed
  cases u.ring <;> simp

theorem landRefusal_badChannel (h : u.consumedBy p = false) : landRefusal p u r = some .badChannel := if_pos (by simp [h])

theorem landRefusal_closed (h : u.consumedBy p = true) (hstage : u.stage = .ending) : landRefusal p u r = some .closed := by
  simp [landRefusal, h, hstage]

theorem landRefusal_badState (h : u.consumedBy p = true) (hstage : u.stage ≠ .ending)
    (hno : ¬ (u.stage = .opened ∨ u.stage = .closing) ∨ ¬ u.Disarmed) : landRefusal p u r = some .badState := by
  rw [landRefusal, if_neg (not_not_intro h), if_neg hstage]
  rcases hno with hno | hno
  · exact if_pos (not_or.mp hno)
  · rw [if_pos (Use.disarmed_iff.mpr hno), ite_self]

/-- The tests of the ring, on a going channel without an ARMED ring. -/
theorem landRefusal_going (h : u.consumedBy p = true) (hgoing : u.stage = .opened ∨ u.stage = .closing) (hring : u.Disarmed) :
    landRefusal p u r = if ¬ ringOk r then some .badArg else if ¬ ringFits r u.terms.maxLength then some .ringTooSmall else none := by
  have hending : u.stage ≠ .ending := by rcases hgoing with h | h <;> simp [h]
  rw [landRefusal, if_neg (not_not_intro h), if_neg hending, if_neg (by rwa [← not_or, not_not]), if_neg (mt Use.disarmed_iff.mp (not_not_intro hring))]

/-- What LAND does before it completes (R94). -/
def landArm (s : State) (p : PortId) (c : ChannelId) (i : SlotId) (u : Use) (r : RingArgs) : State :=
  (((s.modUse c fun u => { u with ring := some (r.ring true) }).modPiu p fun x => { x with credit := x.credit.write i 0 }).handWriteIndex
    (some ⟨p, i⟩) 0).tellParty u.producer .consumerBack 0 c (generationDetail (s.entry c).generation)

theorem landTake_eq {i : SlotId} (h : u.consumer = some ⟨p, i⟩) :
    landTake s p c u r = (landArm s p c i u r).complete p .done (resultWords u.queue.length 0 0 0) := by
  simp only [landTake, landArm, h]

end land

/-- Settles O40: no test refuses, then what the arming changes. -/
theorem landArmsAFreshRing : Obligations.LandArmsAFreshRing := by
  intro p n s c u i w r hs hstate hnamed hconsumer hgoing hdisarmed hok hfits
  have hadmits : admits (s.piu p).state .land = true := by rw [hstate]; rfl
  have ⟨_, hu, _⟩ := hnamed
  have hparty : u.consumedBy p = true := by simp [Use.consumedBy, hconsumer]
  have hpassed : landRefusal p u r = none := by
    rw [landRefusal_going hparty hgoing hdisarmed, if_neg (not_not_intro hok), if_neg (not_not_intro ((ringFits_iff ..).mpr hfits))]
  have hbody := (landBody_takes (s := s.latched p (kindOf .land) n) (State.args_latch ..) hnamed hpassed).trans (landTake_eq hconsumer)
  have htold : (s.latched p (kindOf .land) n).Told (landArm (s.latched p (kindOf .land) n) p c i u r)
      (noticeTo u.producer .consumerBack 0 c (generationDetail (s.entry c).generation)) :=
    ((State.Told.refl (s.latched p (kindOf .land) n)).modUse.modPiu rfl).handWriteIndex.tellParty
  have hpiu : ∀ q, (landArm (s.latched p (kindOf .land) n) p c i u r).piu q =
      if q = p then { (s.piu p).latch (kindOf .land) n with credit := (s.piu p).credit.write i 0 } else s.piu q := fun q => by
    by_cases hq : q = p <;> simp [landArm, hq, Piu.latch]
  refine ⟨_, exec_completes rfl hs hadmits hbody, ?_, fun d hd => ?_, ?_, fun q hq => ?_, ?_, ?_, ?_, ?_⟩
  · simp [landArm, hu]
    rfl
  · simp [landArm, hd]
  · rw [State.complete_piu, if_pos rfl, hpiu, if_pos rfl]
    rfl
  · rw [State.complete_piu, if_neg hq, hpiu, if_neg hq]
  · refine htold.completed ?_ ?_ _ _
    · rw [hpiu, if_pos rfl]; rfl
    · rw [hpiu, if_pos rfl]; rfl
  · exact ⟨fun q j => by simp [landArm], fun q j => by simp [landArm]⟩
  · simp [landArm, State.PoolSame]
  · simp [landArm, State.DeviceSame]

/-! ## The tests of LAND and CONFIRM -/

section confirm

variable {s : State} {p : PortId} {w : Table Word 8} {c : ChannelId} {u : Use} {n : Nat}

/-- Test 2 of CONFIRM. -/
theorem confirmEntry_badArg (h : 63 < n) : confirmEntry s p n = .error .badArg := by simp [confirmEntry, channelOf_eq_none h]

/-- Test 3 on a FREE entry. -/
theorem confirmEntry_free (hc : n = c.val) (h : s.use c = none) : confirmEntry s p n = .error .badChannel := by
  simp [confirmEntry, (channelOf_eq_some_iff n c).mpr hc, h]

/-- Tests 3 to 5 on an entry in use. -/
theorem confirmEntry_inUse (hc : n = c.val) (hu : s.use c = some u) :
    confirmEntry s p n =
      if ¬ u.consumedBy p ∨ ¬ (u.stage = .opened ∨ u.stage = .closing ∨ u.stage = .ending) then .error .badChannel
      else if u.stage = .ending then .error .closed
      else if ¬ u.terms.cls.isConfirmed then .error .badChannel
      else .ok (c, u) := by
  simp only [confirmEntry, (channelOf_eq_some_iff n c).mpr hc, hu]

theorem confirmBody_refused (hw : s.args p = w) {st : Status} (h : confirmEntry s p (channelArg w) = .error st) : confirmBody p s = s.refuse p st := by
  subst hw
  simp [confirmBody, h]

theorem confirmBody_range (hw : s.args p = w) (h : confirmEntry s p (channelArg w) = .ok (c, u)) (hno : s.pool.splitAt (sequenceArg w) u.unconfirmed = none) :
    confirmBody p s = s.refuse p .confirmRange := by
  subst hw
  simp [confirmBody, h, hno]

theorem confirmBody_takes (hw : s.args p = w) (h : confirmEntry s p (channelArg w) = .ok (c, u)) {released rest : List RecordId}
    (hsplit : s.pool.splitAt (sequenceArg w) u.unconfirmed = some (released, rest)) :
    confirmBody p s =
      (s.confirmRelease c u (sequenceArg w) released rest).complete p .done (resultWords released.length rest.length 0 0) := by
  subst hw
  simp [confirmBody, h, hsplit]

/-- No record of the unconfirmed list carries the sequence (Table 6-1, test 6). -/
theorem Pool.splitAt_eq_none {pool : Pool} {sequence : Half} {rs : List RecordId}
    (h : ∀ r ∈ rs, ∀ rec, pool.records.read r = some rec → rec.sequence ≠ sequence) : pool.splitAt sequence rs = none := by
  induction rs with
  | nil => rfl
  | cons r rs ih =>
    have hhead : ¬ ((pool.records.read r).any fun rec => rec.sequence = sequence) = true := fun hany => by
      simp only [Option.any_eq_true, decide_eq_true_eq] at hany
      obtain ⟨rec, hrec, hsequence⟩ := hany
      exact h r List.mem_cons_self rec hrec hsequence
    rw [Pool.splitAt, if_neg hhead, ih fun x hx => h x (List.mem_cons_of_mem r hx)]
    rfl

/-- The first record that carries the sequence ends the confirmed part of the list (R100). -/
theorem Pool.splitAt_eq_some {pool : Pool} {sequence : Half} {pre rest : List RecordId} {r : RecordId} {rec : Record}
    (h : ∀ x ∈ pre, ∀ rec, pool.records.read x = some rec → rec.sequence ≠ sequence) (hrec : pool.records.read r = some rec)
    (hsequence : rec.sequence = sequence) : pool.splitAt sequence (pre ++ r :: rest) = some (pre ++ [r], rest) := by
  induction pre with
  | nil => exact if_pos (by simp [hrec, hsequence])
  | cons x pre ih =>
    have hhead : ¬ ((pool.records.read x).any fun rec => rec.sequence = sequence) = true := fun hany => by
      simp only [Option.any_eq_true, decide_eq_true_eq] at hany
      obtain ⟨rec, hrec, hsequence⟩ := hany
      exact h x List.mem_cons_self rec hrec hsequence
    rw [List.cons_append, Pool.splitAt, if_neg hhead, ih fun y hy => h y (List.mem_cons_of_mem x hy)]
    rfl

theorem ChannelClass.isConfirmed_iff (k : ChannelClass) : k.isConfirmed = true ↔ k ≠ .plain := by cases k <;> simp [ChannelClass.isConfirmed]

end confirm

/-- Settles O41: the tests of the two commands in order. -/
theorem landAndConfirmAreRefusedByTheFirstTestThatFails : Obligations.LandAndConfirmAreRefusedByTheFirstTestThatFails := by
  intro p n s w r land confirm hs hstate
  have hland : admits (s.piu p).state .land = true := by rw [hstate]; rfl
  have hconfirm : admits (s.piu p).state .confirm = true := by rw [hstate]; rfl
  have hargs : ∀ k, (s.latched p k n).args p = w := fun k => State.args_latch ..
  have unnamed : ∀ {st}, entryNamed (s.latched p (kindOf .land) n) (channelArg w) (generationArg w) = .error st → land st := fun h =>
    exec_refused rfl hs hland (landBody_unnamed (hargs _) h)
  have refused : ∀ {st}, confirmEntry (s.latched p (kindOf .confirm) n) p (channelArg w) = .error st → confirm st := fun h =>
    exec_refused rfl hs hconfirm (confirmBody_refused (hargs _) h)
  refine ⟨fun hc => ⟨unnamed (entryNamed_badArg hc), refused (confirmEntry_badArg hc)⟩,
    fun c hc hfree => ⟨unnamed (entryNamed_late hc (.inl hfree)), refused (confirmEntry_free hc hfree)⟩,
    fun c hc hlate => unnamed (entryNamed_late hc (.inr hlate)), fun c u hnamed => ?_, fun c u hc hu => ?_⟩
  · intro going disarmed
    have tested : ∀ {st}, landRefusal p u r = some st → land st := fun h => exec_refused rfl hs hland (landBody_refused (hargs _) hnamed h)
    refine ⟨fun h => tested (landRefusal_badChannel h), fun h hstage => tested (landRefusal_closed h hstage),
      fun h hstage hno => tested (landRefusal_badState h hstage hno), fun h hgoing hring hok => tested ?_, fun h hgoing hring hok hsmall => tested ?_⟩
    · rw [landRefusal_going h hgoing hring, if_pos (by simp [hok])]
    · rw [landRefusal_going h hgoing hring, if_neg (not_not_intro hok), if_pos fun h => absurd ((ringFits_iff ..).mp h) (by omega)]
  · intro going
    have hentry := confirmEntry_inUse (s := s.latched p (kindOf .confirm) n) (p := p) hc hu
    have inUse : ∀ (_ : going), u.stage = .opened ∨ u.stage = .closing ∨ u.stage = .ending := fun h => h.imp_right .inl
    have alive : ∀ (_ : going), u.stage ≠ .ending := fun h => by rcases h with h | h <;> simp [h]
    refine ⟨fun h => refused (hentry.trans (if_pos ?_)), fun h hstage => refused (hentry.trans ?_), fun h hgoing hplain => refused (hentry.trans ?_),
      fun h hgoing hclass hno => ?_⟩
    · rcases h with h | ⟨o, h⟩ | h
      · exact .inl (by simp [h])
      · exact .inr (by simp [h])
      · exact .inr (by simp [h])
    · rw [if_neg (by simp [h, hstage]), if_pos hstage]
    · rw [if_neg (by simp [h, inUse hgoing]), if_neg (alive hgoing), if_pos (by simp [hplain, ChannelClass.isConfirmed])]
    · have hok : confirmEntry (s.latched p (kindOf .confirm) n) p (channelArg w) = .ok (c, u) :=
        (confirmEntry_eq_ok_iff ..).mpr ⟨hc, hu, h, hgoing, (ChannelClass.isConfirmed_iff _).mpr hclass⟩
      exact exec_refused rfl hs hconfirm (confirmBody_range (hargs _) hok (Pool.splitAt_eq_none hno))

end Sys2Proof.Machine

/-! # Confirmation and redelivery (O42, O43) -/

namespace Sys2Proof.Machine

/-! ## Counts before a chain of operations -/

section counted

variable {s t : State}

/-- A step without an event keeps the grant of every Notice Unit. -/
theorem State.Told.grant (h : s.Told t fun _ => []) (q : PortId) : (t.nu q).grant = (s.nu q).grant := by
  rw [h.events q, State.nuAfter]
  split <;> rfl

/-- A count after a step without an event is the count before it, but for slot words (R133). -/
theorem State.Told.countVector (h : s.Told t fun _ => []) (p : PortId) (v : VectorId) : (s.countVector p v).Told (t.countVector p v) fun _ => [] := by
  refine ⟨.ofWords fun q => ?_, fun q => by simpa using h.states q⟩
  have hsame : ∀ q, t.nu q = { s.nu q with consumerWords := (t.nu q).consumerWords, producerWords := (t.nu q).producerWords } := fun q => by
    conv_lhs => rw [h.events q, State.nuAfter]
    split <;> rfl
  rw [State.countVector_nu, State.countVector_nu, h.states]
  split
  · rw [Nu.count_consumerWords, Nu.count_producerWords]
    exact (congrArg (fun nu : Nu => nu.count v) (hsame p)).trans (Nu.count_words ..)
  · exact hsame q

/-- The hand of a receipt counts toward the vector of its slot (R100, R133). -/
theorem State.Told.handReceipt (h : s.Told t fun _ => []) (b : Party) (sequence : Half) :
    (s.countVector b.port (slotVector (s.nu b.port).grant b.slot)).Told (t.handReceipt (some b) sequence) fun _ => [] := by
  have hword : s.Told (t.modProducerWord b fun w => { w with lastConfirmed := sequence }) fun _ => [] :=
    h.silent (.producerWord t b _) fun q => by simp
  have hcounted := hword.countVector b.port (slotVector (s.nu b.port).grant b.slot)
  rw [State.handReceipt, h.grant]
  exact hcounted

end counted

/-! ## CONFIRM -/

section confirm

variable {s : State} {c : ChannelId} {u : Use} {b : Party} {sequence : Half} {rs rest : List RecordId}

/-- The release of confirmed records before the checks that follow the fall (R100). -/
def State.confirmed (s : State) (c : ChannelId) (b : Party) (sequence : Half) (rs rest : List RecordId) : State :=
  ((s.dropRecords c rs).modUse c fun u => { u with unconfirmed := rest }).handReceipt (some b) sequence

theorem State.confirmRelease_eq (hb : u.producer = some b) :
    s.confirmRelease c u sequence rs rest = (s.confirmed c b sequence rs rest).checkAfterFall c := by
  rw [State.confirmRelease, hb]
  rfl

theorem State.confirmed_entry (hu : s.use c = some u) (d : ChannelId) :
    (s.confirmed c b sequence rs rest).entry d =
      if d = c then { s.entry c with use := some { u with held := u.held - s.pool.heldBy rs, unconfirmed := rest } } else s.entry d := by
  by_cases hd : d = c <;> simp [State.confirmed, hd, hu]

theorem State.confirmed_use (hu : s.use c = some u) :
    (s.confirmed c b sequence rs rest).use c = some { u with held := u.held - s.pool.heldBy rs, unconfirmed := rest } := by
  rw [← State.entry_use, State.confirmed_entry hu, if_pos rfl]

theorem State.confirmed_piu (q : PortId) : (s.confirmed c b sequence rs rest).piu q = s.piu q := by simp [State.confirmed]

theorem State.confirmed_poolFreed : s.PoolFreed (s.confirmed c b sequence rs rest) rs :=
  (State.PoolFreed.dropRecords s c rs).congr ⟨rfl, rfl, rfl⟩ (by simp [State.confirmed, State.PoolSame])

theorem State.confirmed_deviceSame : s.DeviceSame (s.confirmed c b sequence rs rest) := by simp [State.confirmed, State.DeviceSame]

theorem State.confirmed_told :
    (s.countVector b.port (slotVector (s.nu b.port).grant b.slot)).Told (s.confirmed c b sequence rs rest) fun _ => [] :=
  (State.Told.refl s).dropRecords.modUse.handReceipt b sequence

theorem State.confirmed_wordsSet : s.WordsSet (s.confirmed c b sequence rs rest) none id (some b) fun x => { x with lastConfirmed := sequence } :=
  ⟨fun q i => by simp [State.confirmed], fun q i => by simp [State.confirmed]⟩

end confirm

/-- Settles O42: the release, then the check of the stage. -/
theorem confirmReleasesTheConfirmedMessages : Obligations.ConfirmReleasesTheConfirmedMessages := by
  intro p n s c u pre rest r rec b w rs held released drained counted results hs hstate hc hu hparty hclass hb hlist hrec hsequence hpre
  let l := s.latched p (kindOf .confirm) n
  let z := l.confirmed c b (sequenceArg w) rs rest
  have hadmits : admits (s.piu p).state .confirm = true := by rw [hstate]; rfl
  have hsplit : l.pool.splitAt (sequenceArg w) u.unconfirmed = some (rs, rest) := by
    rw [hlist]
    exact Pool.splitAt_eq_some hpre hrec hsequence
  have run : ∀ {t : State}, u.stage = .opened ∨ u.stage = .closing → z.checkAfterFall c = t →
      exec (.confirm p n) s = .next (t.complete p .done results) := fun hgoing ht => by
    have hentry : confirmEntry l p (channelArg w) = .ok (c, u) :=
      (confirmEntry_eq_ok_iff ..).mpr ⟨hc, hu, hparty, hgoing, (ChannelClass.isConfirmed_iff _).mpr hclass⟩
    have hbody := confirmBody_takes (State.args_latch ..) hentry hsplit
    rw [State.confirmRelease_eq hb, ht] at hbody
    exact exec_completes rfl hs hadmits hbody
  have huse : z.use c = some { u with held := held, unconfirmed := rest } := State.confirmed_use (s := l) hu
  have hentry : ∀ d, z.entry d = if d = c then { s.entry c with use := some { u with held := held, unconfirmed := rest } } else s.entry d :=
    State.confirmed_entry (s := l) hu
  have hpool : z.pool = s.pool.free rs := (State.confirmed_poolFreed (s := l)).1
  have hpiu : ∀ q, z.piu q = l.piu q := fun q => State.confirmed_piu (s := l) q
  have hfreed : s.PoolFreed z rs := (State.confirmed_poolFreed (s := l)).congr ⟨rfl, rfl, rfl⟩ ⟨rfl, rfl, rfl⟩
  have hdevice : s.DeviceSame z := by simpa [State.DeviceSame, l] using State.confirmed_deviceSame (s := l) (c := c) (b := b) (sequence := sequenceArg w) (rs := rs) (rest := rest)
  have htold : counted.Told z fun _ => [] := ((State.Told.latched s p (kindOf .confirm) n).dropRecords.modUse).handReceipt b (sequenceArg w)
  have hwords : s.WordsSet z none id (some b) fun x => { x with lastConfirmed := sequenceArg w } :=
    (State.confirmed_wordsSet (s := l)).congr (.latched s p (kindOf .confirm) n) (.refl _)
  refine ⟨fun hstage => ?_, fun hstage hdrained => ?_, fun hstage hrest => ?_⟩
  · have hcheck : z.checkAfterFall c = if released then z.endHold c false else z := by
      refine (State.checkAfterFall_opened huse hstage).trans ?_
      rw [hpool]
    have hendPiu : ∀ q, (if released then z.endHold c false else z).piu q = l.piu q := fun q => by
      rw [← hpiu]
      split <;> simp
    have ⟨hkind, hnotify⟩ := State.latched_slot hendPiu
    refine ⟨_, run (.inl hstage) hcheck, ?_, fun d hd => ?_, hfreed.congr ⟨rfl, rfl, rfl⟩ ?_, State.Answered.complete (by decide) hendPiu _ _, ?_, ?_, ?_⟩
    · rw [State.complete_entry, State.endHoldIf_entry huse, if_pos rfl, hentry, if_pos rfl]
    · rw [State.complete_entry, State.endHoldIf_entry huse, if_neg hd, hentry, if_neg hd]
    · split <;> simp [State.PoolSame]
    · exact (((htold.trans (.endHoldIf huse false)).complete hkind hnotify).events).congr fun q => rfl
    · refine ⟨fun q i => ?_, fun q i => ?_⟩
      · rw [State.complete_consumerWords, (State.endHoldIf_wordsSet huse false).1, hwords.1]
        simp
      · rw [State.complete_producerWords, (State.endHoldIf_wordsSet huse false).2, hwords.2]
        by_cases hr : released <;> by_cases hq : some b = some ⟨q, i⟩ <;> simp [hr, hq, hb]
    · split <;> simpa [State.DeviceSame] using hdevice
  · have hcheck : z.checkAfterFall c = z.freeWithNotice c .drain := (State.checkAfterFall_closing huse hstage).trans (if_pos hdrained)
    have hfreePiu : ∀ q, (z.freeWithNotice c .drain).piu q = l.piu q := fun q => by rw [← hpiu]; simp
    have ⟨hkind, hnotify⟩ := State.latched_slot hfreePiu
    have ⟨_, _, hfreeConsumers, hfreeProducers⟩ := State.BecameFree.freeWithNotice huse .drain
    have hgeneration : (z.entry c).generation = (s.entry c).generation := by rw [hentry, if_pos rfl]
    refine ⟨_, run (.inr hstage) hcheck, ?_, fun d hd => ?_, hfreed.congr ⟨rfl, rfl, rfl⟩ ?_, State.Answered.complete (by decide) hfreePiu _ _, ?_, ?_, ?_⟩
    · rw [State.complete_entry, State.freeWithNotice_entry huse, if_pos rfl, hgeneration]
    · rw [State.complete_entry, State.freeWithNotice_entry huse, if_neg hd, hentry, if_neg hd]
    · simp [State.PoolSame]
    · have hnotices := ((htold.trans (.freeWithNotice huse .drain)).complete hkind hnotify (status := .done) (results := results)).events
      rw [hgeneration] at hnotices
      exact hnotices.congr fun q => by rw [List.nil_append, freedNotices, List.append_assoc]
    · refine ⟨fun q i => ?_, fun q i => ?_⟩
      · rw [State.complete_consumerWords, hfreeConsumers q i, hwords.1]
        rfl
      · rw [State.complete_producerWords, hfreeProducers q i, hwords.2]
        by_cases hq : some b = some ⟨q, i⟩ <;> simp [hq, hb]
    · simpa [State.DeviceSame] using hdevice
  · have hcheck : z.checkAfterFall c = z := (State.checkAfterFall_closing huse hstage).trans (if_neg hrest)
    have ⟨hkind, hnotify⟩ := State.latched_slot hpiu
    refine ⟨_, run (.inr hstage) hcheck, ?_, fun d hd => ?_, hfreed.congr ⟨rfl, rfl, rfl⟩ ?_, State.Answered.complete (by decide) hpiu _ _, ?_, ?_, ?_⟩
    · rw [State.complete_entry, hentry, if_pos rfl]
    · rw [State.complete_entry, hentry, if_neg hd]
    · simp [State.PoolSame]
    · exact (htold.complete hkind hnotify).events
    · exact hwords.congr (.refl _) fun q => by simp
    · simpa [State.DeviceSame] using hdevice

/-! ## The requeue -/

section requeue

variable {s : State} {p : PortId} {c : ChannelId} {u : Use}

/-- A record that a requeue made a replay (R104). -/
def Record.replayed (rec : Record) : Record := { rec with state := .queued, replay := true }

theorem State.markReplay_record (rs : List RecordId) (s : State) (x : RecordId) :
    (s.markReplay rs).record x = if x ∈ rs then (s.record x).map Record.replayed else s.record x := by
  induction rs generalizing s with
  | nil => rfl
  | cons r rs ih =>
    rw [State.markReplay, ih, State.modRecord_record]
    by_cases hx : x = r
    · subst hx
      cases s.record x <;> simp [Record.replayed]
    · by_cases hrs : x ∈ rs <;> simp [hx, hrs]

theorem State.markReplay_pool (rs : List RecordId) (s : State) :
    (s.markReplay rs).pool.segments = s.pool.segments ∧ (s.markReplay rs).pool.segFree = s.pool.segFree ∧
      (s.markReplay rs).pool.recFree = s.pool.recFree ∧ (s.markReplay rs).pool.level = s.pool.level := by
  induction rs generalizing s with
  | nil => exact ⟨rfl, rfl, rfl, rfl⟩
  | cons r rs ih => exact ih _

/-- What the requeue of an OPEN or CLOSING entry does (R104). -/
theorem State.requeueEntry_told : s.Told (s.requeueEntry c u)
    (noticeTo (if u.ring.any (fun x => x.armed) = true then u.producer else none) .consumerAway 0 c (generationDetail (s.entry c).generation)) := by
  have hmarked : s.Told (s.markReplay u.unconfirmed) fun _ => [] := (State.Told.refl s).others (State.markReplay_ports ..)
  unfold State.requeueEntry
  dsimp only
  split
  · exact hmarked.modUse.tellParty
  · exact hmarked.modUse

theorem State.requeueEntry_entry (hu : s.use c = some u) (d : ChannelId) :
    (s.requeueEntry c u).entry d = if d = c then { s.entry c with use := some { u with
      queue := u.unconfirmed ++ u.queue
      unconfirmed := []
      ring := u.ring.map fun x => { x with armed := false } } } else s.entry d := by
  unfold State.requeueEntry
  dsimp only
  split <;> by_cases hd : d = c <;> simp [hd, hu]

theorem State.requeueEntry_pool : (s.requeueEntry c u).pool = (s.markReplay u.unconfirmed).pool := by
  unfold State.requeueEntry
  dsimp only
  split <;> simp

theorem State.requeueEntry_wordsSame : s.WordsSame (s.requeueEntry c u) := fun q => by
  unfold State.requeueEntry
  dsimp only
  split <;> simp

/-- A requeue reaches an entry of which the port is the consumer while it is OPEN or CLOSING (R103, R151). -/
theorem State.requeueOn_taken (hu : s.use c = some u) (hparty : u.consumedBy p = true) (hstage : u.stage = .opened ∨ u.stage = .closing) :
    s.requeueOn p c = s.requeueEntry c u := by
  simp [State.requeueOn, hu, hparty, hstage]

theorem State.requeueOn_other (h : ∀ u, s.use c = some u → ¬ (u.consumedBy p = true ∧ (u.stage = .opened ∨ u.stage = .closing))) :
    s.requeueOn p c = s := by
  unfold State.requeueOn
  split
  · rfl
  · next u hu => exact if_neg (h u hu)

/-- The state in which a requeue runs: the entry owes it no more. -/
abbrev State.requeueTaken (s : State) (p : PortId) (c : ChannelId) : State := s.modPort p fun b => { b with requeueOwed := b.requeueOwed.erase c }

theorem State.requeueTaken_blocks (s : State) (p : PortId) (c : ChannelId) (q : PortId) :
    (s.requeueTaken p c).piu q = s.piu q ∧ (s.requeueTaken p c).writer q = s.writer q ∧ (s.requeueTaken p c).nu q = s.nu q :=
  State.modPort_blocks s p q _ fun _ => ⟨rfl, rfl, rfl⟩

end requeue

/-- Settles O43, by whether the request is owed and reaches the entry. -/
theorem requeueMovesTheUnconfirmedToTheFront : Obligations.RequeueMovesTheUnconfirmedToTheFront := by
  intro p c s
  refine ⟨fun hno => congrArg Host.Outcome.next (if_neg (by simpa using hno)), fun howed => ?_⟩
  have hblocks := s.requeueTaken_blocks p c
  have hnu : s.Told (s.requeueTaken p c) fun _ => [] :=
    (State.Told.refl s).silent (.ofEq fun q => (hblocks q).2.2) fun q => congrArg Piu.state (hblocks q).1
  have hall : (s.requeueTaken p c).WordsSame ((s.requeueTaken p c).requeueOn p c) ∧
      ((s.requeueTaken p c).requeueOn p c).pool.segments = s.pool.segments ∧ ((s.requeueTaken p c).requeueOn p c).pool.segFree = s.pool.segFree ∧
      ((s.requeueTaken p c).requeueOn p c).pool.recFree = s.pool.recFree ∧ ((s.requeueTaken p c).requeueOn p c).pool.level = s.pool.level := by
    by_cases h : ∀ u, (s.requeueTaken p c).use c = some u → ¬ (u.consumedBy p = true ∧ (u.stage = .opened ∨ u.stage = .closing))
    · rw [State.requeueOn_other h]
      exact ⟨.refl _, rfl, rfl, rfl, rfl⟩
    · push Not at h
      obtain ⟨u, hu, hparty, hstage⟩ := h
      rw [State.requeueOn_taken hu hparty hstage, State.requeueEntry_pool]
      exact ⟨State.requeueEntry_wordsSame, State.markReplay_pool ..⟩
  obtain ⟨hwords, hpool⟩ := hall
  obtain ⟨hsegments, hsegFree, hrecFree, hlevel⟩ := hpool
  refine ⟨(s.requeueTaken p c).requeueOn p c, congrArg Host.Outcome.next (if_pos (by simpa using howed)), by simp, by simp, ?_, fun q => ?_, fun q => ?_, by simp,
    by simp, hsegments, hsegFree, hrecFree, hlevel, fun hother => ?_, fun u hu hparty hstage => ?_⟩
  · refine ⟨by simp, by simp, by simp, by simp, by simp, fun q => ?_, fun q hq => ?_⟩
    · rw [State.requeueOn_writer, (hblocks q).2.1]
    · simp [hq]
  · rw [State.requeueOn_piu, (hblocks q).1]
  · rw [← (hblocks q).2.2]
    exact hwords q
  · rw [State.requeueOn_other (s := s.requeueTaken p c) hother]
    exact ⟨rfl, rfl, fun q => (hblocks q).2.2⟩
  · have htaken : (s.requeueTaken p c).use c = some u := hu
    rw [State.requeueOn_taken htaken hparty hstage]
    refine ⟨?_, fun d hd => ?_, fun x => ?_, (hnu.trans State.requeueEntry_told).events⟩
    · rw [State.requeueEntry_entry htaken, if_pos rfl]
      rfl
    · rw [State.requeueEntry_entry htaken, if_neg hd]
      rfl
    · rw [State.record, State.requeueEntry_pool]
      exact State.markReplay_record ..

end Sys2Proof.Machine

/-! # Landings that complete (O36, O37) -/

namespace Sys2Proof.Machine

/-! ## The end of a landing job on an ATTACHED port -/

section completion

variable {s : State} {p : PortId} {c : ChannelId} {r : RecordId} {rec : Record} {u : Use}

/-- The Port Writer of an ATTACHED port is IDLE after its job (R74). -/
theorem State.releaseWriter_attached (h : (s.piu p).state = .attached) : s.releaseWriter p = s.modWriter p fun w => { w with state := .idle } := by
  simp [State.releaseWriter, State.attached, h]

/-- An ATTACHED port ends no quiesce (R148). -/
theorem State.settle_attached (h : (s.piu p).state = .attached) : s.settle p = s := by
  simp [State.settle, h]

/-- A job that completes on an ATTACHED port does its work and releases the Port Writer (R74, R75). -/
theorem State.completeJob_attached {kind : JobKind} (h : ((s.completeWork p kind).piu p).state = .attached) :
    s.completeJob p kind = (s.completeWork p kind).modWriter p fun w => { w with state := .idle } := by
  rw [State.completeJob, State.releaseWriter_attached h, State.settle_attached (by rw [State.modWriter_piu]; exact h)]

/-- The last OK of a landing on an ATTACHED port takes the completion and releases the Port Writer (R74, R82). -/
theorem execLandingCompletion_attached {g : Byte} {i : Half} {x : LinkWrite} {m : Timer} (hbusy : (s.writer p).state = .busy ⟨.landing c g r i, [x], m⟩)
    (hstate : (s.piu p).state = .attached) {t : State} (ht : s.completeLanding r = t) (hpiu : (t.piu p).state = (s.piu p).state) :
    execLandingCompletion ⟨p, (s.writer p).jobs⟩ s = .next (t.modWriter p fun w => { w with state := .idle }) := by
  subst ht
  rw [execLandingCompletion_of_last ((Writer.lastWriteOf_current hbusy).trans (if_pos (Nat.le_refl 1)))]
  exact congrArg Host.Outcome.next (State.completeJob_attached (kind := .landing c g r i) (hpiu.trans hstate))

/-- A step that leaves the device, before the Port Writer becomes IDLE. -/
theorem State.WriterBecameIdle.after {t : State} (h : s.DeviceSame t) : s.WriterBecameIdle (t.modWriter p fun w => { w with state := .idle }) p := by
  obtain ⟨hpending, hpin, hrobin, htick, hfree, hports⟩ := h
  refine ⟨by simp [(hports p).1], hpending, hpin, hrobin, htick, hfree, fun q hq => by simp [hq, (hports q).1], fun q => ?_⟩
  simpa using (hports q).2

/-- A completion on an OPEN or CLOSING entry lands (R82). -/
theorem State.completeLanding_lands (hrec : s.record r = some rec) (hg : (s.entry rec.channel).generation = rec.generation)
    (hu : s.use rec.channel = some u) (hstage : u.stage = .opened ∨ u.stage = .closing) : s.completeLanding r = s.landOn r rec u := by
  rcases hstage with h | h <;> simp [State.completeLanding, hrec, State.useOfRecord_some hg hu, h]

/-- A completion on an ENDING entry frees its record (R49). -/
theorem State.completeLanding_ending (hrec : s.record r = some rec) (hg : (s.entry rec.channel).generation = rec.generation)
    (hu : s.use rec.channel = some u) (hstage : u.stage = .ending) : s.completeLanding r = (s.dropLanding rec.channel r).freeCheck rec.channel := by
  simp [State.completeLanding, hrec, State.useOfRecord_some hg hu, hstage]

end completion

/-! ## The landing on the entry -/

section landing

variable {s : State} {r : RecordId} {rec : Record} {u : Use} {ring : Ring} {a : Party}

/-- The entry's lists, ring and counters after a landing (R82). -/
def State.landMoved (s : State) (r : RecordId) (rec : Record) : State :=
  (s.modUse rec.channel fun u => { u with
    queue := u.queue.erase r
    ring := u.ring.map fun x => { x with writeIndex := x.writeIndex + 1 } }).modCounters rec.channel fun k => { k with
      landed := k.landed + 1
      replayed := if rec.replay then k.replayed + 1 else k.replayed }

/-- The landed record is freed, or joins the unconfirmed list (R82). -/
def State.landStored (s : State) (r : RecordId) (rec : Record) (u : Use) : State :=
  if u.terms.cls = .plain then (s.landMoved r rec).dropRecords rec.channel [r]
  else ((s.landMoved r rec).modRecord r fun rec => { rec with state := .unconfirmed }).modUse rec.channel fun u =>
    { u with unconfirmed := u.unconfirmed ++ [r] }

/-- The handing of the write index, with its count (R82, R133). -/
def State.landHanded (s : State) (r : RecordId) (rec : Record) (u : Use) (ring : Ring) (a : Party) : State :=
  ((s.landStored r rec u).handWriteIndex (some a) (ring.writeIndex + 1)).countVector a.port (slotVector (s.nu a.port).grant a.slot)

/-- The counters of a landing (R82). -/
def Counters.land (k : Counters) (rec : Record) : Counters :=
  { k with landed := k.landed + 1, replayed := if rec.replay = true then k.replayed + 1 else k.replayed }

/-- The entry of a channel on which a record landed (R82). -/
def Use.land (u : Use) (r : RecordId) (rec : Record) (ring : Ring) : Use :=
  { u with
    queue := u.queue.erase r
    unconfirmed := if u.terms.cls = .plain then u.unconfirmed else u.unconfirmed ++ [r]
    held := if u.terms.cls = .plain then u.held - segmentCount rec.length else u.held
    ring := some { ring with writeIndex := ring.writeIndex + 1 } }

theorem State.landStored_told : s.Told (s.landStored r rec u) fun _ => [] := by
  unfold State.landStored State.landMoved
  split
  · exact (State.Told.refl s).modUse.modCounters.dropRecords
  · exact (State.Told.refl s).modUse.modCounters.modRecord.modUse

theorem State.landOn_eq (hring : u.ring = some ring) (ha : u.consumer = some a) :
    s.landOn r rec u = (s.landHanded r rec u ring a).checkAfterFall rec.channel := by
  have hgrant := ((State.landStored_told (s := s) (r := r) (rec := rec) (u := u)).handWriteIndex (a := some a) (w := ring.writeIndex + 1)).grant a.port
  rw [State.landHanded, ← hgrant]
  unfold State.landOn State.landStored
  rw [hring, ha]
  cases hcls : u.terms.cls with
  | plain => rfl
  | confirmed w => rfl

theorem State.landStored_entry (hu : s.use rec.channel = some u) (hrec : s.record r = some rec) (hring : u.ring = some ring) (d : ChannelId) :
    (s.landStored r rec u).entry d =
      if d = rec.channel then ⟨(s.entry d).generation, (s.entry d).counters.land rec, some (u.land r rec ring)⟩ else s.entry d := by
  have hheld : s.pool.heldBy [r] = segmentCount rec.length := Pool.heldBy_singleton hrec
  unfold State.landStored State.landMoved
  split
  · next hplain => by_cases hd : d = rec.channel <;> simp [hd, hu, hring, hplain, hheld, Use.land, Counters.land]
  · next hclass => by_cases hd : d = rec.channel <;> simp [hd, hu, hring, hclass, Use.land, Counters.land]

theorem State.landHanded_entry (hu : s.use rec.channel = some u) (hrec : s.record r = some rec) (hring : u.ring = some ring) (d : ChannelId) :
    (s.landHanded r rec u ring a).entry d =
      if d = rec.channel then ⟨(s.entry d).generation, (s.entry d).counters.land rec, some (u.land r rec ring)⟩ else s.entry d := by
  rw [State.landHanded, State.countVector_entry, State.handWriteIndex_entry, State.landStored_entry hu hrec hring]

theorem State.landHanded_use (hu : s.use rec.channel = some u) (hrec : s.record r = some rec) (hring : u.ring = some ring) :
    (s.landHanded r rec u ring a).use rec.channel = some (u.land r rec ring) := by
  rw [← State.entry_use, State.landHanded_entry hu hrec hring, if_pos rfl]

/-- The pool after a landing: freed on a PLAIN channel, the record UNCONFIRMED on a CONFIRMED one (R82). -/
theorem State.landHanded_plain (h : u.terms.cls = .plain) : s.PoolFreed (s.landHanded r rec u ring a) [r] := by
  have hstored : s.PoolFreed (s.landStored r rec u) [r] := by
    rw [State.landStored, if_pos h]
    exact (State.PoolFreed.dropRecords (s.landMoved r rec) rec.channel [r]).congr ⟨rfl, rfl, rfl⟩ ⟨rfl, rfl, rfl⟩
  exact hstored.congr ⟨rfl, rfl, rfl⟩ (by simp [State.landHanded, State.PoolSame])

theorem State.landHanded_confirmed (h : u.terms.cls ≠ .plain) (hrec : s.record r = some rec) :
    (s.landHanded r rec u ring a).pool = { s.pool with records := s.pool.records.write r (some { rec with state := .unconfirmed }) } ∧
      (s.landHanded r rec u ring a).holdOwed = s.holdOwed ∧ (s.landHanded r rec u ring a).retestOwed = s.retestOwed := by
  have hread : s.pool.records.read r = some rec := hrec
  simp [State.landHanded, State.landStored, h, State.landMoved, State.modRecord, hread]

theorem State.landHanded_piu (q : PortId) : (s.landHanded r rec u ring a).piu q = s.piu q := by
  unfold State.landHanded State.landStored State.landMoved
  split <;> simp

theorem State.landHanded_deviceSame : s.DeviceSame (s.landHanded r rec u ring a) := by
  unfold State.landHanded State.landStored State.landMoved
  split <;> simp [State.DeviceSame]

theorem State.landHanded_told : (s.countVector a.port (slotVector (s.nu a.port).grant a.slot)).Told (s.landHanded r rec u ring a) fun _ => [] :=
  State.landStored_told.handWriteIndex.countVector _ _

theorem State.landHanded_wordsSet : s.WordsSet (s.landHanded r rec u ring a) (some a) (fun w => { w with writeIndex := ring.writeIndex + 1 }) none id := by
  unfold State.landHanded State.landStored State.landMoved
  split <;> exact ⟨fun q i => by simp, fun q i => by simp⟩

end landing

/-- Settles O36: the landing, then the release check. -/
theorem landingCompletionOnAnOpenEntry : Obligations.LandingCompletionOnAnOpenEntry := by
  intro p s g r i x m rec u ring a c plain pool held released counted hbusy hstate hrec hg hu hstage hring ha
  let z := s.landHanded r rec u ring a
  have huse : z.use c = some (u.land r rec ring) := State.landHanded_use hu hrec hring
  have hentry := State.landHanded_entry (a := a) hu hrec hring
  have hpiu : ∀ q, z.piu q = s.piu q := fun q => State.landHanded_piu q
  have hpool : z.pool = pool := by
    by_cases h : plain
    · exact (State.landHanded_plain h).1.trans (if_pos h).symm
    · exact (State.landHanded_confirmed h hrec).1.trans (if_neg h).symm
  have hcheck : s.completeLanding r = if released then z.endHold c false else z := by
    rw [State.completeLanding_lands hrec hg hu (.inl hstage), State.landOn_eq hring ha]
    refine (State.checkAfterFall_opened huse hstage).trans ?_
    rw [hpool]
    rfl
  have hend : ∀ q, (if released then z.endHold c false else z).piu q = s.piu q := fun q => by
    rw [← hpiu]
    split <;> simp
  have hsame : z.PoolSame (if released then z.endHold c false else z) := by split <;> simp [State.PoolSame]
  refine ⟨_, execLandingCompletion_attached hbusy hstate hcheck (congrArg Piu.state (hend p)), ?_, fun d hd => ?_, fun h => ?_, fun h => ?_,
    fun q => ?_, ?_, ?_, .after ?_⟩
  · rw [State.modWriter_entry, State.endHoldIf_entry huse, if_pos rfl, hentry, if_pos rfl]
    rfl
  · rw [State.modWriter_entry, State.endHoldIf_entry huse, if_neg hd, hentry, if_neg hd]
  · exact (State.landHanded_plain h).congr ⟨rfl, rfl, rfl⟩ hsame
  · obtain ⟨_, hhold, hretest⟩ := State.landHanded_confirmed (ring := ring) (a := a) h hrec
    obtain ⟨ksame, khold, kretest⟩ := hsame
    exact ⟨ksame.trans hpool, khold.trans hhold, kretest.trans hretest⟩
  · rw [State.modWriter_piu, hend]
  · exact (State.landHanded_told.trans (.endHoldIf huse false)).modWriter.events
  · refine ⟨fun q i => ?_, fun q i => ?_⟩
    · rw [State.modWriter_nu, (State.endHoldIf_wordsSet huse false).1, State.landHanded_wordsSet.1]
      simp
    · rw [State.modWriter_nu, (State.endHoldIf_wordsSet huse false).2, State.landHanded_wordsSet.2]
      simp [Use.land]
  · split <;> simpa [State.DeviceSame] using State.landHanded_deviceSame

/-! ## The landing that is dropped -/

section drop

variable {s : State} {c : ChannelId} {r : RecordId} {rec : Record} {u : Use}

theorem State.dropLanding_entry (hu : s.use c = some u) (hrec : s.record r = some rec) (d : ChannelId) :
    (s.dropLanding c r).entry d =
      if d = c then { s.entry c with use := some { u with queue := u.queue.erase r, held := u.held - segmentCount rec.length } } else s.entry d := by
  have hheld : s.pool.heldBy [r] = segmentCount rec.length := Pool.heldBy_singleton hrec
  by_cases hd : d = c <;> simp [State.dropLanding, hd, hu, hheld]

theorem State.dropLanding_use (hu : s.use c = some u) (hrec : s.record r = some rec) :
    (s.dropLanding c r).use c = some { u with queue := u.queue.erase r, held := u.held - segmentCount rec.length } := by
  rw [← State.entry_use, State.dropLanding_entry hu hrec, if_pos rfl]

theorem State.dropLanding_poolFreed : s.PoolFreed (s.dropLanding c r) [r] :=
  (State.PoolFreed.dropRecords s c [r]).congr ⟨rfl, rfl, rfl⟩ ⟨rfl, rfl, rfl⟩

/-- What a dropped landing on an ENDING entry does when it leaves nothing in flight (R49, R50). -/
theorem State.dropLanding_frees (hu : s.use c = some u) (hstage : u.stage = .ending) (hrec : s.record r = some rec)
    (hended : u.queue.erase r = [] ∧ u.fill = false) :
    (s.dropLanding c r).freeCheck c = (s.dropLanding c r).freeWithNotice c .finish :=
  (State.freeCheck_of_use (State.dropLanding_use hu hrec) hstage).trans (if_pos hended)

theorem State.dropLanding_stays (hu : s.use c = some u) (hstage : u.stage = .ending) (hrec : s.record r = some rec)
    (hmore : ¬ (u.queue.erase r = [] ∧ u.fill = false)) : (s.dropLanding c r).freeCheck c = s.dropLanding c r :=
  (State.freeCheck_of_use (State.dropLanding_use hu hrec) hstage).trans (if_neg hmore)

/-- The entry that becomes FREE after a dropped landing (R50). -/
theorem State.dropLanding_becameFree (hu : s.use c = some u) (hrec : s.record r = some rec) :
    s.BecameFree ((s.dropLanding c r).freeWithNotice c .finish) c u := by
  refine (State.BecameFree.freeWithNotice (State.dropLanding_use hu hrec) .finish).before ?_ rfl rfl (fun d hd => ?_) fun q => by simp
  · rw [State.dropLanding_entry hu hrec, if_pos rfl]
  · rw [State.dropLanding_entry hu hrec, if_neg hd]

theorem State.dropLanding_told (hu : s.use c = some u) (hrec : s.record r = some rec) :
    s.Told ((s.dropLanding c r).freeWithNotice c .finish) (freedNotices u c (freedDetail (s.entry c).generation .finish)) := by
  have htold := (State.Told.refl s).dropRecords (c := c) (rs := [r]) |>.modUse (c := c) (f := fun u => { u with queue := u.queue.erase r })
  have hfreed := State.Told.freeWithNotice (State.dropLanding_use hu hrec) .finish
  rw [State.dropLanding_entry hu hrec, if_pos rfl] at hfreed
  exact htold.trans hfreed

end drop

/-- Settles O37, by the stage of the entry and what is left on it. -/
theorem landingCompletionDrainsTheEntry : Obligations.LandingCompletionDrainsTheEntry := by
  intro p s g r i x m rec u ring a c plain drained ended held counted landing hbusy hstate hrec hg hu hring ha
  let z := s.landHanded r rec u ring a
  have huse : z.use c = some (u.land r rec ring) := State.landHanded_use hu hrec hring
  have hentry := State.landHanded_entry (a := a) hu hrec hring
  have hpiu : ∀ q, z.piu q = s.piu q := fun q => State.landHanded_piu q
  have hdevice : s.DeviceSame z := State.landHanded_deviceSame
  have hplain : plain → s.PoolFreed z [r] := State.landHanded_plain
  have hwords : s.WordsSet z (some a) (fun w => { w with writeIndex := ring.writeIndex + 1 }) none id := State.landHanded_wordsSet
  have hdrained : drained ↔ (u.land r rec ring).unconfirmed = [] ∧ (u.land r rec ring).queue = [] ∧ (u.land r rec ring).fill = false := by
    by_cases h : u.terms.cls = .plain <;> simp [drained, plain, Use.land, h]
  have hlanding : u.stage = .closing → s.completeLanding r = if drained then z.freeWithNotice c .drain else z := fun hstage => by
    rw [State.completeLanding_lands hrec hg hu (.inr hstage), State.landOn_eq hring ha]
    exact (State.checkAfterFall_closing huse hstage).trans (if_congr hdrained.symm rfl rfl)
  have run : ∀ {t : State}, s.completeLanding r = t → (t.piu p).state = (s.piu p).state → landing = .next (t.modWriter p fun w => { w with state := .idle }) :=
    fun ht hp => execLandingCompletion_attached hbusy hstate ht hp
  refine ⟨fun hstage hempty => ?_, fun hstage hmore => ?_, fun hstage hended => ?_, fun hstage hmore => ?_⟩
  · have hfree : ∀ q, (z.freeWithNotice c .drain).piu q = s.piu q := fun q => by rw [← hpiu]; simp
    have hgeneration : (z.entry c).generation = (s.entry c).generation := by rw [hentry, if_pos rfl]
    have ⟨_, _, hfreeConsumers, hfreeProducers⟩ := State.BecameFree.freeWithNotice huse .drain
    refine ⟨_, run ((hlanding hstage).trans (if_pos hempty)) (congrArg Piu.state (hfree p)), ?_, fun d hd => ?_, ⟨fun q j => ?_, fun q j => ?_⟩, ?_,
      fun q => ?_, ?_, .after ?_⟩
    · rw [State.modWriter_entry, State.freeWithNotice_entry huse, if_pos rfl, hgeneration]
    · rw [State.modWriter_entry, State.freeWithNotice_entry huse, if_neg hd, hentry, if_neg hd]
    · rw [State.modWriter_nu, hfreeConsumers, State.landHanded_wordsSet.1]
      by_cases hq : some a = some ⟨q, j⟩ <;> simp [hq, Use.land, ha]
    · rw [State.modWriter_nu, hfreeProducers, State.landHanded_wordsSet.2]
      simp [Use.land]
    · exact (hplain hempty.1).congr ⟨rfl, rfl, rfl⟩ (by simp [State.PoolSame])
    · rw [State.modWriter_piu, hfree]
    · have hnotices := (State.landHanded_told.trans (.freeWithNotice huse .drain)).modWriter (p := p) (f := fun w => { w with state := .idle })
      rw [hgeneration] at hnotices
      exact hnotices.events
    · simpa [State.DeviceSame] using hdevice
  · refine ⟨_, run ((hlanding hstage).trans (if_neg hmore)) (congrArg Piu.state (hpiu p)), ?_, fun d hd => ?_, fun h => ?_, fun h => ?_, fun q => ?_, ?_, ?_,
      .after hdevice⟩
    · rw [State.modWriter_entry, hentry, if_pos rfl]
      rfl
    · rw [State.modWriter_entry, hentry, if_neg hd]
    · exact (hplain h).congr ⟨rfl, rfl, rfl⟩ ⟨rfl, rfl, rfl⟩
    · exact State.landHanded_confirmed h hrec
    · rw [State.modWriter_piu, hpiu]
    · exact State.landHanded_told.modWriter.events
    · exact hwords.congr (.refl _) fun q => by simp
  · have hfreed := State.dropLanding_becameFree hu hrec
    refine ⟨_, run ((State.completeLanding_ending hrec hg hu hstage).trans (State.dropLanding_frees hu hstage hrec hended)) (by simp), ?_, ?_, fun q => by simp,
      (State.dropLanding_told hu hrec).modWriter.events, .after ?_⟩
    · exact ⟨hfreed.1, hfreed.2.1, hfreed.2.2.congr (.refl _) fun q => by rw [State.modWriter_nu]; exact ⟨rfl, rfl⟩⟩
    · exact (State.dropLanding_poolFreed (c := rec.channel)).congr ⟨rfl, rfl, rfl⟩ (by simp [State.PoolSame])
    · simp [State.DeviceSame]
  · refine ⟨_, run ((State.completeLanding_ending hrec hg hu hstage).trans (State.dropLanding_stays hu hstage hrec hmore)) (by simp), ?_, fun d hd => ?_, ?_,
      fun q => by simp, fun q => by simp, .after ?_⟩
    · rw [State.modWriter_entry, State.dropLanding_entry hu hrec, if_pos rfl]
    · rw [State.modWriter_entry, State.dropLanding_entry hu hrec, if_neg hd]
    · exact (State.dropLanding_poolFreed (c := rec.channel)).congr ⟨rfl, rfl, rfl⟩ ⟨rfl, rfl, rfl⟩
    · simp [State.DeviceSame]

end Sys2Proof.Machine

/-! # A failure of the link faults the port (O38) -/

namespace Sys2Proof.Machine

section failure

variable {s : State} {p : PortId} {r : RecordId} {rec : Record} {u : Use}

/-- A failure on an OPEN or CLOSING entry makes the record QUEUED again (R84). -/
theorem State.failLanding_queues (hrec : s.record r = some rec) (hg : (s.entry rec.channel).generation = rec.generation)
    (hu : s.use rec.channel = some u) (hstage : u.stage = .opened ∨ u.stage = .closing) :
    s.failLanding r = s.modRecord r fun rec => { rec with state := .queued } := by
  rcases hstage with h | h <;> simp [State.failLanding, hrec, State.useOfRecord_some hg hu, h]

/-- A failure on an ENDING entry frees the record (R49). -/
theorem State.failLanding_ending (hrec : s.record r = some rec) (hg : (s.entry rec.channel).generation = rec.generation)
    (hu : s.use rec.channel = some u) (hstage : u.stage = .ending) : s.failLanding r = (s.dropLanding rec.channel r).freeCheck rec.channel := by
  simp [State.failLanding, hrec, State.useOfRecord_some hg hu, hstage]

/-- A flush or a signal that fails changes nothing but its Port Writer (R137, R138). -/
theorem State.failWork_other {kind : JobKind} (h : ∀ c g r j, kind ≠ .landing c g r j) : s.failWork kind = s := by
  cases kind with
  | landing c g r j => exact absurd rfl (h c g r j)
  | flush n tag vs => rfl
  | signal v => rfl

/-- The Port Writer stops with its fault record (R85). -/
def State.writerFaulted (s : State) (p : PortId) (kind : FaultKind) (address : Word) : State :=
  s.modWriter p fun w => { w with state := .stopped, faultKind := kind, faultAddress := address }

/-- On an ATTACHED port the failure is handed to the port state machine (R85). -/
theorem State.failJob_attached (hstate : (s.piu p).state = .attached) {kind : FaultKind} {job : Job} {x : LinkWrite} {xs : List LinkWrite}
    (hw : job.writes = x :: xs) :
    s.failJob p kind job = ((s.writerFaulted p kind x.address).failWork job.kind).modPiu p fun u => { u with faultHanded := true } := by
  have hattached : ((s.writerFaulted p kind x.address).failWork job.kind).attached p = true := by
    simp [State.attached, State.writerFaulted, hstate]
  unfold State.failJob
  rw [hw]
  exact if_pos hattached

/-- An answer ERROR to a Port Writer without a job is not taken (R75). -/
theorem State.answerError_stopped (h : (s.writer p).state = .stopped) (k : Nat) : s.answerError p k = s := by
  simp [State.answerError, Writer.jobNamed, h]

/-- The two failures of the write in flight (R75, R85). -/
theorem exec_linkFailure {kind : FaultKind} {job : Job} (hkind : kind = .busError ∨ (kind = .timeout ∧ job.timeout.RanOut))
    (hbusy : (s.writer p).state = .busy job) (taken : Bool) :
    exec (if kind = .timeout then .writeTimeout ⟨p, taken⟩ else .linkWriteError ⟨p, (s.writer p).jobs, taken⟩) s =
      .next (if taken then (s.failJob p kind job).takeFault p else s.failJob p kind job) := by
  rcases hkind with rfl | ⟨rfl, hout⟩
  · have herror : s.answerError p (s.writer p).jobs = s.failJob p .busError job := by rw [State.answerError, Writer.jobNamed_current hbusy]
    refine congrArg Host.Outcome.next ?_
    dsimp only
    rw [herror]
  · have htimeout : s.timeOut p = s.failJob p .timeout job := by
      simp only [State.timeOut, hbusy, (Timer.expired_iff _).mpr hout, if_true]
    refine congrArg Host.Outcome.next ?_
    dsimp only
    rw [htimeout]

/-- The Notice Unit of a port that faults (R142, R157). -/
theorem Nu.depart_vectorsOff (nu : Nu) : nu.depart.vectorsOff = nu.departed Coalescer.turnedOff := by
  have hvectors : (nu.depart.vectorsOff).vectors = Table.build fun v => (nu.vectors.read v).turnedOff := Table.ext fun v => by
    simp [Nu.depart, Nu.vectorsOff, Nu.mapVectors, Coalescer.turnedOff]
  exact congrArg (fun vs => { nu with flushRequest := false, irq := false, vectors := vs }) hvectors

/-- A fault owes itself to the entries of which the port is the consumer, offers apart (R157). -/
theorem State.faultPort_requeueOwed (c : ChannelId) : c ∈ ((s.faultPort p).port p).requeueOwed ↔
    c ∈ (s.port p).requeueOwed ∨ ∃ u, s.use c = some u ∧ u.consumedBy p = true ∧ ∀ o, u.stage ≠ .offered o := by
  have huse : ∀ d, ((s.departAttached p .faulted).modNu p Nu.vectorsOff).use d = s.use d := fun d => by simp
  simp only [State.faultPort, State.modPort_port, if_true, List.mem_append, State.mem_faultEntries, huse]
  simp

/-- A failure that was handed over is taken by the next answer that names no job (R157; log 27). -/
theorem exec_takesFault (hstopped : (s.writer p).state = .stopped) (hhanded : (s.piu p).faultHanded = true) (k : Nat) :
    exec (.linkWriteError ⟨p, k, true⟩) s = .next (s.faultPort p) := by
  refine congrArg Host.Outcome.next ?_
  exact (congrArg (State.takeFault · p) (State.answerError_stopped hstopped k)).trans (State.takeFault_handed hhanded)

end failure

/-- Settles O38: the failure of the job, then the fault of the port. -/
theorem linkFailureFaultsThePort : Obligations.LinkFailureFaultsThePort := by
  intro p s
  refine ⟨fun kind job x xs => ?_, fun k hstopped hstate hhanded => ?_⟩
  · intro answer hkind hbusy hw hstate hlanding
    let z := s.writerFaulted p kind x.address
    have hrun := exec_linkFailure hkind hbusy
    rw [State.failJob_attached hstate hw] at hrun
    have hwriter : (((z.failWork job.kind).modPiu p fun u => { u with faultHanded := true }).writer p) =
        ⟨.stopped, kind, x.address, (s.writer p).jobs⟩ := by simp [z, State.writerFaulted]
    refine ⟨(z.failWork job.kind).modPiu p fun u => { u with faultHanded := true }, hrun false, (hrun true).trans ?_, hwriter, ?_, ?_, fun q hq => ?_,
      fun hother => ?_, fun c g r j rec u hjob hrec hu => ?_⟩
    · refine congrArg Host.Outcome.next ?_
      exact congrArg (State.takeFault · p) (State.answerError_stopped (congrArg Writer.state hwriter) _).symm
    · refine ⟨?_, ?_, ?_, ?_, ?_, fun q hq => ?_, fun q => ?_⟩ <;> simp [z, State.writerFaulted]
      simp [hq]
    · simp [z, State.writerFaulted]
    · simp [z, State.writerFaulted, hq]
    · rw [State.failWork_other hother]
      exact ⟨rfl, ⟨rfl, rfl, rfl⟩, fun q => by simp [z, State.writerFaulted]⟩
    · intro freed d
      obtain ⟨rec', u', hrec', hg, hu', hstages⟩ := hlanding c g r j hjob
      obtain rfl : rec = rec' := Option.some.inj (hrec.symm.trans hrec')
      obtain rfl : u = u' := Option.some.inj (hu.symm.trans hu')
      have hz : z.use rec.channel = some u := hu
      have hzrec : z.record r = some rec := hrec
      have hznu : ∀ q, z.nu q = s.nu q := fun q => by simp [z, State.writerFaulted]
      have hztold : s.Told z fun _ => [] := (State.Told.refl s).modWriter
      rw [show z.failWork job.kind = z.failLanding r by rw [hjob]; rfl]
      refine ⟨fun hstage => ?_, fun hstage hfreed => ?_, fun hstage hmore => ?_⟩
      · rw [State.failLanding_queues hzrec hg hz (by tauto)]
        have hread : s.pool.records.read r = some rec := hrec
        refine ⟨rfl, fun q => by simp [hznu], rfl, rfl, ?_⟩
        simp [State.modRecord, z, State.writerFaulted, hread]
      · rw [State.failLanding_ending hzrec hg hz hstage, State.dropLanding_frees hz hstage hzrec hfreed]
        have hfree := (State.dropLanding_becameFree hz hzrec).before (s := s) (u := u) rfl rfl rfl (fun _ _ => rfl) fun q => by simp [hznu]
        refine ⟨⟨hfree.1, hfree.2.1, hfree.2.2.congr (.refl _) fun q => by simp⟩, ?_, ?_⟩
        · exact (State.dropLanding_poolFreed (s := z) (c := rec.channel)).congr ⟨rfl, rfl, rfl⟩ (by simp [State.PoolSame])
        · exact ((hztold.trans (State.dropLanding_told hz hzrec)).modPiu rfl).events
      · rw [State.failLanding_ending hzrec hg hz hstage, State.dropLanding_stays hz hstage hzrec hmore]
        refine ⟨(State.dropLanding_poolFreed (s := z) (c := rec.channel)).congr ⟨rfl, rfl, rfl⟩ ⟨rfl, rfl, rfl⟩, fun e he => ?_, fun q => ?_, ?_⟩
        · rw [State.modPiu_entry, State.dropLanding_entry hz hzrec, if_neg he]
          rfl
        · simp [hznu]
        · rw [State.modPiu_entry, State.dropLanding_entry hz hzrec, if_pos rfl]
          rfl
  · have hrun := exec_takesFault hstopped hhanded k
    have hblocks := s.faultPort_blocks p
    have hdepart : (s.writer p).depart = s.writer p := by rw [Writer.depart, hstopped]
    refine ⟨_, hrun, ?_, fun q hq => ?_, ?_, fun q hq => ?_, fun c => State.faultPort_requeueOwed c, ?_, ?_, ?_, ?_⟩
    · rw [(hblocks p).1, if_pos rfl]
    · rw [(hblocks q).1, if_neg hq]
    · rw [(hblocks p).2.2, if_pos rfl, Nu.depart_vectorsOff]
    · rw [(hblocks q).2.2, if_neg hq]
    · simp [State.faultPort]
    · refine ⟨by simp, by simp, by simp, by simp, by simp, fun q => ?_, fun q hq => ?_⟩
      · rw [(hblocks q).2.1, hdepart]
        split
        · next h => rw [h]
        · rfl
      · simp [State.faultPort, hq]
    · simp
    · simp [State.PoolSame]

end Sys2Proof.Machine

/-! # Frees, pool requests and the hold timer (O44, O45) -/

namespace Sys2Proof.Machine

/-! ## A free of records in use -/

section free

variable {pool : Pool} {r : RecordId} {rec : Record} {rs : List RecordId}

theorem Pool.freeOne_of_record (h : pool.records.read r = some rec) : pool.freeOne r =
    { pool with segFree := pool.segFree ++ rec.chain, recFree := pool.recFree ++ [r], records := pool.records.write r none } := by
  simp only [Pool.freeOne, h]

/-- The segments of a record, when it is in use. -/
def Pool.chainOf (pool : Pool) (r : RecordId) : List SegmentId := ((pool.records.read r).map fun rec => rec.chain).getD []

/-- A list of records in use is freed in its order (R12). -/
theorem Pool.foldFree_eq (hnodup : rs.Nodup) (huse : ∀ r ∈ rs, (pool.records.read r).isSome = true) :
    (rs.foldl Pool.freeOne pool).segFree = pool.segFree ++ rs.flatMap pool.chainOf ∧ (rs.foldl Pool.freeOne pool).recFree = pool.recFree ++ rs ∧
      ∀ r, (rs.foldl Pool.freeOne pool).records.read r = if r ∈ rs then none else pool.records.read r := by
  induction rs generalizing pool with
  | nil => simp
  | cons r rs ih =>
    obtain ⟨hnew, hrest⟩ := List.nodup_cons.mp hnodup
    obtain ⟨rec, hrec⟩ := Option.isSome_iff_exists.mp (huse r List.mem_cons_self)
    have hone := Pool.freeOne_of_record hrec
    have hother : ∀ x ∈ rs, (pool.freeOne r).records.read x = pool.records.read x := fun x hx => by
      have hne : x ≠ r := fun h => hnew (h ▸ hx)
      simp [hone, hne]
    obtain ⟨hseg, hfree, hrecords⟩ := ih hrest fun x hx => by
      rw [hother x hx]
      exact huse x (List.mem_cons_of_mem r hx)
    have hchains : rs.flatMap (pool.freeOne r).chainOf = rs.flatMap pool.chainOf :=
      congrArg List.flatten (List.map_congr_left fun x hx => by rw [Pool.chainOf, hother x hx, Pool.chainOf])
    refine ⟨?_, ?_, fun x => ?_⟩
    · rw [List.foldl_cons, hseg, hchains]
      simp [hone, Pool.chainOf, hrec]
    · rw [List.foldl_cons, hfree]
      simp [hone]
    · rw [List.foldl_cons, hrecords]
      by_cases hx : x = r <;> by_cases hrs : x ∈ rs <;> simp [hone, hx, hrs]

/-- A free makes a LOW pool NORMAL when it leaves 384 or more segments free (R15). -/
theorem Pool.recoverTest_fields (pool : Pool) :
    pool.recoverTest.segFree = pool.segFree ∧ pool.recoverTest.recFree = pool.recFree ∧ pool.recoverTest.records = pool.records ∧
      pool.recoverTest.level = if pool.level = .low ∧ 384 ≤ pool.segFree.length then .normal else pool.level := by
  unfold Pool.recoverTest Pool.freeCount Config.recoverMark
  split
  · exact ⟨rfl, rfl, rfl, rfl⟩
  · exact ⟨rfl, rfl, rfl, rfl⟩

end free

/-! ## The requests of the pool -/

section requests

variable {s : State} {c : ChannelId} {u : Use}

theorem State.poolHoldOn_held (hu : s.use c = some u) (hstage : u.stage = .opened) (hhold : u.hold = none) (hheld : u.terms.releaseMark < u.held) :
    s.poolHoldOn c = s.enterHold c .pool := by
  simp [State.poolHoldOn, hu, hstage, hhold, hheld]

theorem State.poolHoldOn_other (h : ∀ u, s.use c = some u → ¬ (u.stage = .opened ∧ u.hold = none ∧ u.terms.releaseMark < u.held)) : s.poolHoldOn c = s := by
  unfold State.poolHoldOn
  split
  · rfl
  · next u hu => exact if_neg (h u hu)

theorem State.releaseCheckAt_released (hu : s.use c = some u) (hstage : u.stage = .opened) (hhold : u.hold ≠ none) (hheld : u.held ≤ u.terms.releaseMark) :
    s.releaseCheckAt .normal c = s.endHold c false := by
  simp [State.releaseCheckAt, hu, hstage, Option.isSome_iff_ne_none.mpr hhold, hheld]

theorem State.releaseCheckAt_other {level : PoolLevel}
    (h : ∀ u, s.use c = some u → ¬ (u.stage = .opened ∧ u.hold ≠ none ∧ u.held ≤ u.terms.releaseMark ∧ level = .normal)) :
    s.releaseCheckAt level c = s := by
  unfold State.releaseCheckAt
  split
  · rfl
  · next u hu => exact if_neg (by simpa [Option.isSome_iff_ne_none] using h u hu)

/-- What the start of a hold changes (R111). -/
theorem State.enterHold_entry (hu : s.use c = some u) (reason : HoldReason) (d : ChannelId) :
    (s.enterHold c reason).entry d =
      if d = c then ⟨(s.entry c).generation, { (s.entry c).counters with holdsEntered := (s.entry c).counters.holdsEntered + 1 },
        some { u with hold := some ⟨reason, ⟨8 * u.terms.holdInterval, none⟩⟩ }⟩ else s.entry d := by
  by_cases hd : d = c <;> simp [State.enterHold_of_use hu, hd, hu, Timer.start]

theorem State.Told.enterHold (hu : s.use c = some u) (reason : HoldReason) :
    s.Told (s.enterHold c reason) (noticeTo u.producer .hold (holdQualifier reason false) c (BitVec.ofNat 16 u.terms.holdInterval)) := by
  rw [State.enterHold_of_use hu]
  exact (State.Told.refl s).modUse.modCounters.handHold.tellParty

theorem State.enterHold_wordsSet (hu : s.use c = some u) (reason : HoldReason) :
    s.WordsSet (s.enterHold c reason) none id u.producer fun x => { x with hold := true } := by
  rw [State.enterHold_of_use hu]
  exact ⟨fun q i => by simp, fun q i => by simp⟩

/-- What the end of a hold changes (R115). -/
theorem State.endHold_entry (hu : s.use c = some u) (expiry : Bool) (d : ChannelId) :
    (s.endHold c expiry).entry d = if d = c then { s.entry c with use := some { u with hold := none } } else s.entry d := by
  by_cases hd : d = c <;> simp [State.endHold_of_use hu, hd, hu]

theorem State.Told.endHold (hu : s.use c = some u) (expiry : Bool) :
    s.Told (s.endHold c expiry) (noticeTo u.producer .resume (resumeQualifier expiry) c (BitVec.ofNat 16 u.held)) := by
  rw [State.endHold_of_use hu]
  exact (State.Told.refl s).modUse.handHold.tellParty

theorem State.endHold_wordsSet (hu : s.use c = some u) (expiry : Bool) :
    s.WordsSet (s.endHold c expiry) none id u.producer fun x => { x with hold := false } := by
  rw [State.endHold_of_use hu]
  exact ⟨fun q i => by simp, fun q i => by simp⟩

/-- The renewal of a hold (R118). -/
theorem State.renewHold_of_use (hu : s.use c = some u) {reason : HoldReason} (hreason : reason = if s.pool.level = .low then .pool else .quota) :
    s.renewHold c = ((s.modUse c fun u => { u with hold := some ⟨reason, Timer.start (8 * u.terms.holdInterval)⟩ }).modCounters c fun k =>
      { k with renewals := k.renewals + 1 }).tellParty u.producer .hold (holdQualifier reason true) c (BitVec.ofNat 16 u.terms.holdInterval) := by
  subst hreason
  simp [State.renewHold, hu]

end requests

/-- Settles O44: the lists of a free, then each request of the pool on the entry. -/
theorem poolChangesReachTheEntries : Obligations.PoolChangesReachTheEntries := by
  refine ⟨fun pool rs hnodup huse => ?_, fun c s => ⟨fun hno => ?_, fun hno => ?_, fun howed => ?_, fun howed => ?_⟩⟩
  · intro freed
    obtain ⟨hseg, hrec, hrecords⟩ := Pool.foldFree_eq hnodup huse
    obtain ⟨hseg', hrec', hrecords', hlevel⟩ := Pool.recoverTest_fields (rs.foldl Pool.freeOne pool)
    refine ⟨hseg'.trans hseg, hrec'.trans hrec, fun r => ?_, Pool.free_segments pool rs, ?_, rfl⟩
    · exact (congrArg (Table.read · r) hrecords').trans (hrecords r)
    · rw [Pool.foldFree_level, ← hseg'] at hlevel
      exact hlevel
  · exact congrArg Host.Outcome.next (if_neg (by simpa using hno))
  · exact congrArg Host.Outcome.next (if_neg (by simpa using hno))
  · have htaken : s.Told (s.takeHoldOwed c) fun _ => [] := (State.Told.refl s).others rfl
    refine ⟨(s.takeHoldOwed c).poolHoldOn c, congrArg Host.Outcome.next (if_pos (by simpa using howed)), State.poolHoldOn_holdOwed .., by simp, by simp,
      fun q => by simp, by simp [State.DeviceSame], fun d hd => ?_, fun hother => ?_, fun u hu hstage hhold hheld => ?_⟩
    · by_cases h : ∀ u, (s.takeHoldOwed c).use c = some u → ¬ (u.stage = .opened ∧ u.hold = none ∧ u.terms.releaseMark < u.held)
      · rw [State.poolHoldOn_other h]
        rfl
      · push Not at h
        obtain ⟨u, hu, hstage, hhold, hheld⟩ := h
        rw [State.poolHoldOn_held hu hstage hhold hheld, State.enterHold_entry hu, if_neg hd]
        rfl
    · rw [State.poolHoldOn_other (s := s.takeHoldOwed c) hother]
      exact ⟨rfl, fun q => rfl⟩
    · have hu' : (s.takeHoldOwed c).use c = some u := hu
      rw [State.poolHoldOn_held hu' hstage hhold hheld]
      refine ⟨?_, (htaken.trans (.enterHold hu' .pool)).events, (State.enterHold_wordsSet hu' .pool).congr (fun q => ⟨rfl, rfl⟩) (.refl _)⟩
      rw [State.enterHold_entry hu', if_pos rfl]
      rfl
  · have htaken : s.Told (s.takeRetestOwed c) fun _ => [] := (State.Told.refl s).others rfl
    have hlevel := s.levelSeen_normal_iff c
    refine ⟨(s.takeRetestOwed c).releaseCheckAt (s.levelSeen c) c, congrArg Host.Outcome.next (if_pos (by simpa using howed)),
      State.releaseCheckAt_retestOwed .., by simp, by simp, fun q => by simp, by simp [State.DeviceSame], fun d hd => ?_, fun hother => ?_,
      fun u hu hstage hhold hheld hnormal => ?_⟩
    · rcases State.releaseCheckAt_cases (s.takeRetestOwed c) (s.levelSeen c) c with h | ⟨_, ⟨u, hu, _⟩, h⟩
      · rw [h]
        rfl
      · rw [h, State.endHold_entry hu, if_neg hd]
        rfl
    · rw [State.releaseCheckAt_other (s := s.takeRetestOwed c) fun u hu => by rw [hlevel]; exact hother u hu]
      exact ⟨rfl, fun q => rfl⟩
    · have hu' : (s.takeRetestOwed c).use c = some u := hu
      rw [hlevel.mpr hnormal, State.releaseCheckAt_released hu' hstage hhold hheld]
      refine ⟨?_, (htaken.trans (.endHold hu' false)).events, (State.endHold_wordsSet hu' false).congr (fun q => ⟨rfl, rfl⟩) (.refl _)⟩
      rw [State.endHold_entry hu', if_pos rfl]
      rfl

/-! ## The hold timer -/

theorem execHoldTimerExpiry_ranOut {s : State} {c : ChannelId} {u : Use} {h : Hold} (hu : s.use c = some u) (hstage : u.stage = .opened)
    (hhold : u.hold = some h) (hout : h.timer.RanOut) : execHoldTimerExpiry c s = .next (s.expireHold c u) := by
  simp [execHoldTimerExpiry, hu, hstage, hhold, (Timer.expired_iff _).mpr hout]

theorem execHoldTimerExpiry_early {s : State} {c : ChannelId}
    (h : ∀ u h, s.use c = some u → u.stage = .opened → u.hold = some h → ¬ h.timer.RanOut) : execHoldTimerExpiry c s = .next s := by
  refine congrArg Host.Outcome.next ?_
  split
  · rfl
  · next u hu =>
    refine if_neg fun ⟨hstage, hany⟩ => ?_
    simp only [Option.any_eq_true, Timer.expired_iff] at hany
    obtain ⟨hold, hhold, hout⟩ := hany
    exact h u hold hu hstage hhold hout

/-- Settles O45, by the count and the pool that the expiry finds. -/
theorem holdTimerExpiryReleasesOrRenews : Obligations.HoldTimerExpiryReleasesOrRenews := by
  intro c s reason
  refine ⟨execHoldTimerExpiry_early, fun u h hu hstage hhold hout => ?_⟩
  have hrun : exec (.holdTimerExpiry c) s = .next (s.expireHold c u) := execHoldTimerExpiry_ranOut hu hstage hhold hout
  refine ⟨fun hcalm => ?_, fun hbusy => ?_⟩
  · rw [State.expireHold, if_pos hcalm] at hrun
    refine ⟨_, hrun, ?_, fun d hd => ?_, (State.Told.endHold hu true).events, State.endHold_wordsSet hu true, fun q => by simp, by simp [State.PoolSame],
      by simp [State.DeviceSame]⟩
    · rw [State.endHold_entry hu, if_pos rfl]
    · rw [State.endHold_entry hu, if_neg hd]
  · rw [State.expireHold, if_neg hbusy, State.renewHold_of_use hu rfl] at hrun
    refine ⟨_, hrun, ?_, fun d hd => ?_, (State.Told.refl s).modUse.modCounters.tellParty.events, fun q => by simp, fun q => by simp, by simp [State.PoolSame],
      by simp [State.DeviceSame]⟩
    · simp [hu, Timer.start]
      rfl
    · simp [hd]

end Sys2Proof.Machine

/-! # Events, counts, the event read index, re-arms and SET_VECTOR (O46, O47, O48, O49) -/

namespace Sys2Proof.Machine

/-! ## Coalescers -/

section coalescer

variable {α : Type} {n : Nat}

theorem Table.write_self (t : Table α n) (i : Fin n) : t.write i (t.read i) = t := Table.ext fun j => by
  by_cases h : j = i <;> simp [h]

theorem Table.write_write (t : Table α n) (i : Fin n) (a b : α) : (t.write i a).write i b = t.write i b := Table.ext fun j => by
  by_cases h : j = i <;> simp [h]

/-- A coalescer after the test of its count against its threshold (R133, R134). -/
def Coalescer.tested (c : Coalescer) (fires : Bool) : Coalescer :=
  { c with timer := if fires = true then none else c.timer, fired := c.fired || fires }

/-- The test of a vector's count, in one change of the Notice Unit (R133, R134). -/
theorem Nu.fireIfDue_eq (nu : Nu) (v : VectorId) {fires : Bool}
    (h : fires = decide ((nu.vectors.read v).fired = false ∧ (nu.vectors.read v).threshold ≤ (nu.vectors.read v).pending)) :
    nu.fireIfDue v = { nu with flushRequest := nu.flushRequest || fires, vectors := nu.vectors.write v ((nu.vectors.read v).tested fires) } := by
  unfold Nu.fireIfDue
  cases fires
  · have hwrite := Table.write_self nu.vectors v
    rw [if_neg (of_decide_eq_false h.symm)]
    simp only [Coalescer.tested, Bool.or_false, Bool.false_eq_true, if_false, hwrite]
  · rw [if_pos (of_decide_eq_true h.symm)]
    simp only [Coalescer.tested, Bool.or_true, if_true, Nu.fire, Nu.modVector]

/-- A count in one change of the Notice Unit (R133). -/
theorem Nu.count_eq (nu : Nu) (v : VectorId) {fires : Bool}
    (h : fires = decide ((nu.vectors.read v).fired = false ∧ (nu.vectors.read v).threshold ≤ min ((nu.vectors.read v).pending + 1) 65535)) :
    nu.count v = { nu with flushRequest := nu.flushRequest || fires, vectors := nu.vectors.write v ((nu.vectors.read v).raise.tested fires) } := by
  have hread : (nu.modVector v Coalescer.raise).vectors.read v = (nu.vectors.read v).raise := by simp [Nu.modVector]
  rw [Nu.count, Nu.fireIfDue_eq _ _ (fires := fires) (by rw [hread]; exact h), hread]
  simp only [Nu.modVector, Table.write_write]

end coalescer

/-- A delay timer that has run out with the fired mark clear fires its vector (R133). -/
theorem execCoalescingDelayExpiry_fires {p : PortId} {v : VectorId} {s : State} {x : Timer} (htimer : ((s.nu p).vectors.read v).timer = some x)
    (hfired : ((s.nu p).vectors.read v).fired = false) (hout : x.RanOut) :
    execCoalescingDelayExpiry p v s = .next (s.modNu p fun nu => nu.fire v) := by
  refine congrArg Host.Outcome.next (if_pos ⟨hfired, ?_⟩)
  rw [htimer]
  exact (Timer.expired_iff _).mpr hout

theorem execCoalescingDelayExpiry_early {p : PortId} {v : VectorId} {s : State} {x : Timer} (htimer : ((s.nu p).vectors.read v).timer = some x)
    (hout : ¬ x.RanOut) : execCoalescingDelayExpiry p v s = .next s := by
  refine congrArg Host.Outcome.next (if_neg fun h => hout ((Timer.expired_iff _).mp ?_))
  have hany := h.2
  rw [htimer] at hany
  exact hany

/-- A change of a Notice Unit depends on the Notice Unit alone. -/
theorem State.modNu_congr {s : State} {p : PortId} {f g : Nu → Nu} (h : f (s.nu p) = g (s.nu p)) : s.modNu p f = s.modNu p g :=
  congrArg (fun nu => s.setPort p { s.port p with nu := nu }) h

/-- Settles O46: the take, the count, the vector of a slot, the expiry. -/
theorem eventsAreQueuedAndCountsFireVectors : Obligations.EventsAreQueuedAndCountsFireVectors := by
  refine ⟨fun nu kind q ch d => ⟨fun h => if_pos h, fun h => if_neg (Nat.not_lt.mpr h)⟩, fun nu v => ?_, fun g i => ?_, fun p v s x => ?_⟩
  · intro c raised fires
    rw [Nu.count_eq nu v (fires := decide fires) rfl]
    simp only [Coalescer.tested, Coalescer.raise, decide_eq_true_eq]
    rfl
  · refine ⟨?_, rfl, rfl⟩
    have hcount : g.count ≤ 4 ∧ 0 < g.count := by cases g <;> decide
    have hlt : i.val % g.count < 4 := (Nat.mod_lt _ hcount.2).trans_le hcount.1
    have hval : (slotVector g i).val = i.val % g.count := Nat.mod_eq_of_lt hlt
    cases g <;> exact hval
  · intro c htimer
    refine ⟨fun hfired hout => ?_, execCoalescingDelayExpiry_early htimer⟩
    refine (execCoalescingDelayExpiry_fires htimer hfired hout).trans (congrArg Host.Outcome.next ?_)
    exact State.modNu_congr rfl

/-! ## The event read index -/

/-- A value of the event read index that is in range is taken, with a count when it made room for events that wait (R130). -/
theorem State.takeReadIndex_accepted {s : State} {p : PortId} {new : Byte}
    (h : (new - (s.piu p).eventRead).toNat ≤ ((s.nu p).eventWrite - (s.piu p).eventRead).toNat) :
    s.takeReadIndex p new = if new ≠ (s.piu p).eventRead ∧ (s.nu p).backlog ≠ [] then (s.modPiu p fun u => { u with eventRead := new }).countVector p 0
      else s.modPiu p fun u => { u with eventRead := new } := if_pos h

/-- Settles O47, by the port state and the range of the value. -/
theorem eventReadIndexMakesRoom : Obligations.EventReadIndexMakesRoom := by
  intro p w s hopen
  have hwrite : ∀ {t : State}, (if (s.piu p).state = .detached then s else s.takeReadIndex p (BitVec.ofNat 8 (bits w 7 0))) = t →
      exec (.eventReadIndexWrite p w) s = .next t := fun h => by
    refine congrArg Host.Outcome.next ?_
    rw [← h]
    exact if_neg (by simp [hopen.notClosed])
  refine ⟨fun h => hwrite ?_, fun hstate haccepted => ?_⟩
  · rcases h with h | h
    · exact if_pos h
    · rw [State.takeReadIndex, if_neg h, ite_self]
  · refine ⟨_, hwrite ((if_neg hstate).trans (State.takeReadIndex_accepted haccepted)), ?_, fun q hq => ?_, fun q => ?_, ?_, ?_, ?_⟩
    · split <;> simp
    · split <;> simp [hq]
    · split
      · next h => by_cases hq : q = p <;> simp [State.countVector_nu, h, hq]
      · next h =>
        rw [State.modPiu_nu, if_neg fun ⟨_, h1, h2, _⟩ => h ⟨h1, h2⟩]
    · split <;> simp
    · split <;> simp [State.PoolSame]
    · split <;> simp [State.DeviceSame]

/-! ## Re-arms -/

/-- A re-arm in one change of the Notice Unit (R140). -/
theorem Nu.rearm_eq (nu : Nu) (v : VectorId) (tag : Byte) : nu.rearm v tag = { nu with
    irq := if v = 0 ∧ (nu.vectors.read v).target = .line then false else nu.irq
    vectors := nu.vectors.write v
      (if tag = nu.tag ∧ (nu.vectors.read v).owed = false then { nu.vectors.read v with state := .armed }
      else { nu.vectors.read v with state := .signalled, due := true, owed := false }) } := by
  unfold Nu.rearm Nu.modVector
  dsimp only
  split <;> split <;> rfl

/-- Settles O48, by the tests of a re-arm. -/
theorem rearmAnswersTheTag : Obligations.RearmAnswersTheTag := by
  intro p v w s hopen c tag line taken
  have htaken : taken ↔ s.attached p = true ∧ v.val < (s.nu p).grant.count ∧ ((s.nu p).vectors.read v).state ≠ .off ∧
      ((s.nu p).vectors.read v).due = false := and_congr_left' (by simp [State.attached])
  have hwrite : ∀ {t : State}, (if s.attached p = true ∧ v.val < (s.nu p).grant.count ∧ ((s.nu p).vectors.read v).state ≠ .off ∧
      ((s.nu p).vectors.read v).due = false then s.modNu p fun nu => nu.rearm v tag else s) = t → exec (.rearm p v w) s = .next t := fun h => by
    refine congrArg Host.Outcome.next ?_
    rw [← h]
    exact if_neg (by simp [hopen.notClosed])
  refine ⟨fun h => hwrite (if_neg (mt htaken.mpr h)), fun h => hwrite ((if_pos (htaken.mp h)).trans ?_), ?_⟩
  · exact State.modNu_congr (Nu.rearm_eq ..)
  · rw [State.windowRead_of_target (windowTarget_rearm v) hopen.1]
    rfl

/-! ## SET_VECTOR -/

/-- The ranges of SET_VECTOR's arguments (R141). -/
theorem VectorArgs.inRange_iff (a : VectorArgs) (g : Grant) : a.inRange g = true ↔
    a.vector < g.count ∧ a.mode ≤ 2 ∧ (a.mode = 1 → a.vector = 0) ∧ (1 ≤ a.threshold ∧ a.threshold ≤ 255) ∧ (1 ≤ a.delay ∧ a.delay ≤ 65535) ∧
      (a.mode = 2 → a.address.toNat % 4 = 0) := by
  simp [VectorArgs.inRange, and_assoc, imp_iff_not_or]

theorem setVectorBody_refused {s : State} {p : PortId} {w : Table Word 8} (hw : s.args p = w) (h : (vectorArgs w).inRange (s.nu p).grant = false) :
    setVectorBody p s = s.refuse p .badArg := by
  subst hw
  simp [setVectorBody, h]

theorem setVectorBody_sets {s : State} {p : PortId} {w : Table Word 8} (hw : s.args p = w) (h : (vectorArgs w).inRange (s.nu p).grant = true) :
    setVectorBody p s = (s.modNu p fun nu => nu.setVector (vectorArgs w)).finish p := by
  subst hw
  simp [setVectorBody, h]

/-- SET_VECTOR in one change of the Notice Unit (R141). -/
theorem Nu.setVector_eq (nu : Nu) (a : VectorArgs) {v : VectorId} (hv : v = Fin.ofNat 4 a.vector) {fires : Bool}
    (h : fires = decide ((nu.vectors.read v).fired = false ∧ a.threshold ≤ (nu.vectors.read v).pending)) :
    nu.setVector a = { nu with
      irq := nu.irq && (v ≠ 0 || (((nu.vectors.read v).set a).state = .signalled && ((nu.vectors.read v).set a).target = .line))
      flushRequest := nu.flushRequest || fires
      vectors := nu.vectors.write v (((nu.vectors.read v).set a).tested fires) } := by
  have hunfold : nu.setVector a =
      (if v = 0 then (nu.modVector v fun c => c.set a).settleLine else nu.modVector v fun c => c.set a).fireIfDue v := by
    subst hv
    rfl
  have hread : (nu.modVector v fun c => c.set a).vectors.read v = (nu.vectors.read v).set a := by simp [Nu.modVector]
  have htested := fun (m : Nu) (hm : m.vectors.read v = (nu.vectors.read v).set a) => m.fireIfDue_eq v (fires := fires) (by rw [hm]; exact h)
  rw [hunfold]
  split
  · next h0 =>
    subst h0
    rw [htested (nu.modVector 0 fun c => c.set a).settleLine hread]
    simp [Nu.settleLine, Nu.modVector, Table.write_write]
  · next h0 =>
    rw [htested _ hread, hread]
    simp [Nu.modVector, Table.write_write, h0]

/-- The Notice Units after a completion: COMMAND_DONE goes to the port when NOTIFY was set (R166). -/
theorem State.complete_nuAfter {s : State} {p : PortId} {k : Byte} {n : Bool} (hk : (s.piu p).slot.kind = k) (hn : (s.piu p).slot.notify = n)
    (status : Status) (results : Table Word 4) (q : PortId) : (s.complete p status results).nu q = s.nuAfter q (noticeDone p n k status q) := by
  subst hk hn
  have hquiet : ∀ r, s.nuAfter r [] = s.nu r := fun r => by
    unfold State.nuAfter
    split <;> rfl
  unfold State.complete
  dsimp only
  split
  · next hnotify =>
    by_cases hq : q = p
    · subst hq
      by_cases hd : (s.piu q).state = .detached
      · simp [State.event_nu, State.nuAfter, hd]
      · by_cases ha : (s.piu q).state = .attached <;> simp [State.event_nu, State.nuAfter, hd, ha, noticeDone, hnotify, Nu.handAll, Nu.hand]
    · rw [noticeDone, if_neg fun h => hq h.2, hquiet]
      simp [State.event_nu, hq]
  · next hnotify =>
    rw [noticeDone, if_neg fun h => hnotify h.1, hquiet]
    simp

/-- The Notice Units after a completion on an ATTACHED port. -/
theorem State.complete_nu {s : State} {p : PortId} (hstate : (s.piu p).state = .attached) {k : Byte} {n : Bool} (hk : (s.piu p).slot.kind = k)
    (hn : (s.piu p).slot.notify = n) (status : Status) (results : Table Word 4) (q : PortId) :
    (s.complete p status results).nu q = if q = p then (s.nu p).handAll true (noticeDone p n k status p) else s.nu q := by
  rw [State.complete_nuAfter hk hn, State.nuAfter]
  by_cases hq : q = p
  · simp [hq, hstate]
  · have hnone : noticeDone p n k status q = [] := if_neg fun h => hq h.2
    rw [hnone, if_neg hq]
    split <;> rfl

/-- Settles O49: the ranges, then the vector. -/
theorem setVectorConfiguresTheVector : Obligations.SetVectorConfiguresTheVector := by
  intro p n s a v c target state fires inRange hs hstate
  have hadmits : admits (s.piu p).state .setVector = true := by rw [hstate]; rfl
  have hlatched : (s.latched p (kindOf .setVector) n).nu p = s.nu p := State.modPiu_nu ..
  have hrange : a.inRange ((s.latched p (kindOf .setVector) n).nu p).grant = true ↔ inRange := by rw [hlatched]; exact VectorArgs.inRange_iff ..
  refine ⟨fun h => ?_, fun h => ?_⟩
  · exact exec_refused rfl hs hadmits (setVectorBody_refused (State.args_latch ..) (Bool.eq_false_iff.mpr (mt hrange.mp h)))
  · have hbody := setVectorBody_sets (s := s.latched p (kindOf .setVector) n) (State.args_latch ..) (hrange.mpr h)
    have hpiu : ∀ q, ((s.latched p (kindOf .setVector) n).modNu p fun nu => nu.setVector a).piu q = (s.latched p (kindOf .setVector) n).piu q :=
      fun q => by simp
    have ⟨hkind, hnotify⟩ := State.latched_slot hpiu
    have hattached : (((s.latched p (kindOf .setVector) n).modNu p fun nu => nu.setVector a).piu p).state = .attached := by
      rw [hpiu, State.modPiu_piu, if_pos rfl]
      exact hstate
    have hresults : Table.fill 4 0 = resultWords 0 0 0 0 := Table.ext (by decide)
    have hnu := State.complete_nu hattached hkind hnotify .done (Table.fill 4 0)
    have hset : (s.nu p).setVector a = _ := Nu.setVector_eq (s.nu p) a (v := v) rfl (fires := decide fires) rfl
    refine ⟨_, exec_completes rfl hs hadmits hbody, hresults ▸ State.Answered.complete (by decide) hpiu _ _, ?_, fun q hq => ?_, by simp, by simp [State.PoolSame],
      by simp [State.DeviceSame]⟩
    · rw [hnu, if_pos rfl, State.modNu_nu, if_pos rfl, hlatched, hset]
      simp only [Coalescer.tested, Coalescer.set, decide_eq_true_eq]
      rfl
    · rw [hnu, if_neg hq]
      simp [hq]

end Sys2Proof.Machine

/-! # Flush jobs and signal jobs (O50, O51, O52) -/

namespace Sys2Proof.Machine

/-! ## Packed fields as sums -/

section details

/-- The fields of one byte and of one flag above it. -/
theorem Field.weight_byte (b : Byte) : Field.weight (b.toNat, 7, 0) = b.toNat := by
  have hb := b.isLt
  rw [Field.weight_fits hb, pow_zero, mul_one]

theorem Field.weight_port (p : PortId) : Field.weight (p.val, 9, 8) = p.val * 2 ^ 8 := Field.weight_fits (p.isLt.trans_eq (by norm_num))

theorem generationDetail_eq (g : Byte) : generationDetail g = BitVec.ofNat 16 g.toNat := by
  rw [generationDetail, pack_eq, sum_weight_cons, List.map_nil, List.sum_nil, Field.weight_byte, add_zero]

theorem openDetail_eq (g : Byte) (p : PortId) : openDetail g p = BitVec.ofNat 16 (g.toNat + 2 ^ 8 * p.val) := by
  rw [openDetail, pack_eq, sum_weight_cons, sum_weight_cons, List.map_nil, List.sum_nil, Field.weight_byte, Field.weight_port, add_zero, Nat.mul_comm]

theorem offerDetail_eq (g : Byte) (p : PortId) (a b : Bool) : offerDetail g p a b =
    BitVec.ofNat 16 (g.toNat + 2 ^ 8 * p.val + (if a = true then 2 ^ 10 else 0) + if b = true then 2 ^ 11 else 0) := by
  rw [offerDetail, pack_eq, sum_weight_cons, sum_weight_cons, sum_weight_cons, sum_weight_cons, List.map_nil, List.sum_nil, Field.weight_byte,
    Field.weight_port, Field.weight_flag, Field.weight_flag, add_zero, Nat.mul_comm, ← Nat.add_assoc, ← Nat.add_assoc]

theorem peerClosedDetail_eq (g : Byte) (a : Bool) : peerClosedDetail g a = BitVec.ofNat 16 (g.toNat + if a = true then 2 ^ 8 else 0) := by
  rw [peerClosedDetail, pack_eq, sum_weight_cons, sum_weight_cons, List.map_nil, List.sum_nil, Field.weight_byte, Field.weight_flag, add_zero]

theorem freedDetail_eq (g : Byte) (cause : FreedCause) :
    freedDetail g cause = BitVec.ofNat 16 (g.toNat + 2 ^ 8 * (1 + [FreedCause.close, .drain, .finish].idxOf cause)) := by
  have hcode : cause.code = 1 + [FreedCause.close, .drain, .finish].idxOf cause := by cases cause <;> rfl
  have hlt : cause.code < 2 ^ (9 + 1 - 8) := by cases cause <;> decide
  rw [freedDetail, pack_eq, sum_weight_cons, sum_weight_cons, List.map_nil, List.sum_nil, Field.weight_byte, Field.weight_fits hlt, hcode, add_zero, Nat.mul_comm]

theorem commandDoneDetail_eq (kind status : Byte) : commandDoneDetail kind status = BitVec.ofNat 16 (kind.toNat + 2 ^ 8 * status.toNat) := by
  have hstatus := status.isLt
  rw [commandDoneDetail, pack_eq, sum_weight_cons, sum_weight_cons, List.map_nil, List.sum_nil, Field.weight_byte, Field.weight_fits (hi := 15) (lo := 8) hstatus,
    add_zero, Nat.mul_comm]

/-- The number of an event kind (Table 8-1). -/
def EventKind.number (k : EventKind) : Nat :=
  1 + [EventKind.offerReceived, .offerDeclined, .offerExpired, .offerWithdrawn, .channelOpen, .peerClosed, .channelFreed,
    .orphaned, .consumerAway, .consumerBack, .hold, .resume, .creditRange, .commandDone].idxOf k

theorem EventKind.code_eq (k : EventKind) : k.code = k.number := by cases k <;> rfl

theorem eventWord0_eq (e : Event) : eventWord0 e = BitVec.ofNat 32 (e.kind.number + 2 ^ 8 * e.qualifier.toNat + 2 ^ 16 * e.channel.toNat) := by
  have hcode : e.kind.code < 2 ^ (7 + 1 - 0) := by cases e.kind <;> decide
  have hqualifier := e.qualifier.isLt
  have hchannel := e.channel.isLt
  rw [eventWord0, pack_eq, sum_weight_cons, sum_weight_cons, sum_weight_cons, List.map_nil, List.sum_nil, Field.weight_fits hcode,
    Field.weight_fits (hi := 15) (lo := 8) hqualifier, Field.weight_fits (hi := 23) (lo := 16) hchannel, EventKind.code_eq, pow_zero, mul_one, add_zero,
    Nat.mul_comm e.qualifier.toNat, Nat.mul_comm e.channel.toNat, Nat.add_assoc]

theorem eventWord1_eq (e : Event) : eventWord1 e = BitVec.ofNat 32 (e.detail.toNat + 2 ^ 16 * e.sequence.toNat) := by
  have hdetail := e.detail.isLt
  have hsequence := e.sequence.isLt
  rw [eventWord1, pack_eq, sum_weight_cons, sum_weight_cons, List.map_nil, List.sum_nil, Field.weight_fits (hi := 15) (lo := 0) hdetail,
    Field.weight_fits (hi := 31) (lo := 16) hsequence, pow_zero, mul_one, add_zero, Nat.mul_comm]

theorem consumerWordBits_eq (x : ConsumerWord) :
    consumerWordBits x = BitVec.ofNat 32 (x.writeIndex.toNat + 2 ^ 16 * x.channel.val + if x.bound = true then 2 ^ 31 else 0) := by
  have hindex := x.writeIndex.isLt
  have hchannel : x.channel.val < 2 ^ (23 + 1 - 16) := x.channel.isLt.trans (by norm_num)
  rw [consumerWordBits, pack_eq, sum_weight_cons, sum_weight_cons, sum_weight_cons, List.map_nil, List.sum_nil, Field.weight_flag, Field.weight_fits hchannel,
    Field.weight_fits (hi := 15) (lo := 0) hindex, pow_zero, mul_one, add_zero, Nat.mul_comm x.channel.val, Nat.add_comm, Nat.add_comm (2 ^ 16 * _)]

theorem producerWordBits_eq (y : ProducerWord) : producerWordBits y =
    BitVec.ofNat 32 (y.lastConfirmed.toNat + 2 ^ 16 * y.channel.val + (if y.hold = true then 2 ^ 30 else 0) + if y.bound = true then 2 ^ 31 else 0) := by
  have hconfirmed := y.lastConfirmed.isLt
  have hchannel : y.channel.val < 2 ^ (23 + 1 - 16) := y.channel.isLt.trans (by norm_num)
  rw [producerWordBits, pack_eq, sum_weight_cons, sum_weight_cons, sum_weight_cons, sum_weight_cons, List.map_nil, List.sum_nil, Field.weight_flag,
    Field.weight_flag, Field.weight_fits hchannel, Field.weight_fits (hi := 15) (lo := 0) hconfirmed, pow_zero, mul_one, add_zero,
    Nat.mul_comm y.channel.val, Nat.add_comm (if y.bound = true then _ else _), Nat.add_comm (if y.hold = true then _ else _), Nat.add_comm (2 ^ 16 * _)]

theorem summaryHeader_eq (low lost : Bool) (tag count write : Byte) : summaryHeader low lost tag count write =
    BitVec.ofNat 32 (1 + (if low = true then 2 else 0) + (if lost = true then 4 else 0) + 2 ^ 8 * tag.toNat + 2 ^ 16 * count.toNat + 2 ^ 24 * write.toNat) := by
  have htag := tag.isLt
  have hcount := count.isLt
  have hwrite := write.isLt
  have hone : Field.weight (1, 0, 0) = 1 := by decide
  have htwo : 2 ^ 2 = 4 := by norm_num
  rw [summaryHeader, pack_eq, sum_weight_cons, sum_weight_cons, sum_weight_cons, sum_weight_cons, sum_weight_cons, sum_weight_cons, List.map_nil, List.sum_nil,
    hone, Field.weight_flag, Field.weight_flag, Field.weight_fits (hi := 15) (lo := 8) htag, Field.weight_fits (hi := 23) (lo := 16) hcount,
    Field.weight_fits (hi := 31) (lo := 24) hwrite, add_zero, Nat.mul_comm tag.toNat, Nat.mul_comm count.toNat, Nat.mul_comm write.toNat,
    ← Nat.add_assoc, ← Nat.add_assoc, ← Nat.add_assoc, ← Nat.add_assoc, pow_one, htwo]

end details

/-! ## The writes of a flush -/

section writes

theorem eventWrites_length (base : Word) (i : Byte) (es : List Event) : (eventWrites base i es).length = 2 * es.length := by
  induction es generalizing i with
  | nil => rfl
  | cons e es ih =>
    simp only [eventWrites, List.length_append, ih, writesFrom_length, List.length_cons, List.length_nil]
    omega

/-- The two words of the event record of the `k`th event (R136). -/
theorem eventWrites_getElem? (base : Word) (i : Byte) (es : List Event) (k : Nat) {e : Event} (h : es[k]? = some e) :
    (eventWrites base i es)[2 * k]? = some ⟨eventAddress base (i + BitVec.ofNat 8 k), eventWord0 e⟩ ∧
      (eventWrites base i es)[2 * k + 1]? = some ⟨eventAddress base (i + BitVec.ofNat 8 k) + 4, eventWord1 e⟩ := by
  induction es generalizing i k with
  | nil => cases h
  | cons x es ih =>
    cases k with
    | zero =>
      cases h
      simp [eventWrites, writesFrom]
    | succ k =>
      have hindex : i + BitVec.ofNat 8 (k + 1) = i + 1 + BitVec.ofNat 8 k := by
        rw [BitVec.add_assoc, Nat.add_comm, BitVec.ofNat_add]
        rfl
      rw [hindex]
      exact ih (i + 1) k h

/-- The address of an event record by its ring index (R129). -/
theorem eventAddress_add (base : Word) (i : Byte) (k : Nat) :
    eventAddress base (i + BitVec.ofNat 8 k) = base + BitVec.ofNat 32 ((i.toNat + k) % 64 * 8) := by
  have hmod : (i + BitVec.ofNat 8 k).toNat % 64 = (i.toNat + k) % 64 := by
    rw [BitVec.toNat_add, BitVec.toNat_ofNat]
    omega
  rw [eventAddress, hmod]

theorem allSlots_length : allSlots.length = 16 := length_ascending 16 0 16

theorem slotWords_length (nu : Nu) : (slotWords nu).length = 32 := by simp [slotWords, allSlots_length]

theorem slotWords_consumer (nu : Nu) (i : SlotId) : (slotWords nu)[i.val]? = some (consumerWordBits (nu.consumerWords.read i)) := by
  have hlt : i.val < (allSlots.map fun i => consumerWordBits (nu.consumerWords.read i)).length := by
    rw [List.length_map, allSlots_length]
    exact i.isLt
  rw [slotWords, List.getElem?_append_left hlt, List.getElem?_map, allSlots, ascending_getElem?_self]
  rfl

theorem slotWords_producer (nu : Nu) (i : SlotId) : (slotWords nu)[16 + i.val]? = some (producerWordBits (nu.producerWords.read i)) := by
  have hlen : (allSlots.map fun i => consumerWordBits (nu.consumerWords.read i)).length = 16 := by rw [List.length_map, allSlots_length]
  rw [slotWords, List.getElem?_append_right (by omega), hlen, Nat.add_sub_cancel_left, List.getElem?_map, allSlots, ascending_getElem?_self]
  rfl

variable {nu : Nu} {low : Bool} {m : Nat}

theorem flushWrites_event {k : Nat} {e : Event} (hk : k < m) (he : nu.backlog[k]? = some e) :
    (flushWrites nu low m)[2 * k]? = some ⟨eventAddress nu.noticeBase (nu.eventWrite + BitVec.ofNat 8 k), eventWord0 e⟩ ∧
      (flushWrites nu low m)[2 * k + 1]? = some ⟨eventAddress nu.noticeBase (nu.eventWrite + BitVec.ofNat 8 k) + 4, eventWord1 e⟩ := by
  have htaken : (nu.backlog.take m)[k]? = some e := by rw [List.getElem?_take_of_lt hk, he]
  have hlt : k < (nu.backlog.take m).length := (List.getElem?_eq_some_iff.mp htaken).1
  have hlen := eventWrites_length nu.noticeBase nu.eventWrite (nu.backlog.take m)
  have hwords := eventWrites_getElem? nu.noticeBase nu.eventWrite _ k htaken
  rw [flushWrites, List.append_assoc, List.getElem?_append_left (by omega), List.getElem?_append_left (by omega)]
  exact hwords

/-- The writes of a flush after its event records (R136). -/
theorem flushWrites_rest (hm : m ≤ nu.backlog.length) (j : Nat) :
    (flushWrites nu low m)[2 * m + j]? = (writesFrom (nu.noticeBase + 516) (slotWords nu) ++
      [⟨nu.noticeBase + 512, summaryHeader low nu.eventsLost (nu.tag + 1) nu.lost (nu.eventWrite + BitVec.ofNat 8 m)⟩])[j]? := by
  have hlen := eventWrites_length nu.noticeBase nu.eventWrite (nu.backlog.take m)
  rw [List.length_take, Nat.min_eq_left hm] at hlen
  rw [flushWrites, List.append_assoc, List.getElem?_append_right (by omega), hlen, Nat.add_sub_cancel_left]

theorem flushWrites_slot (hm : m ≤ nu.backlog.length) {j : Nat} {w : Word} (hj : j < 32) (hw : (slotWords nu)[j]? = some w) :
    (flushWrites nu low m)[2 * m + j]? = some ⟨nu.noticeBase + 516 + BitVec.ofNat 32 (4 * j), w⟩ := by
  rw [flushWrites_rest hm, List.getElem?_append_left (by rw [writesFrom_length, slotWords_length]; exact hj), writesFrom_getElem?, hw]
  rfl

theorem flushWrites_header (hm : m ≤ nu.backlog.length) : (flushWrites nu low m)[2 * m + 32]? =
    some ⟨nu.noticeBase + 512, summaryHeader low nu.eventsLost (nu.tag + 1) nu.lost (nu.eventWrite + BitVec.ofNat 8 m)⟩ := by
  have hlen : (writesFrom (nu.noticeBase + 516) (slotWords nu)).length = 32 := by rw [writesFrom_length, slotWords_length]
  rw [flushWrites_rest hm, List.getElem?_append_right (by omega), hlen]
  rfl

theorem flushWrites_length (hm : m ≤ nu.backlog.length) : (flushWrites nu low m).length = 2 * m + 33 := by
  have hlen := eventWrites_length nu.noticeBase nu.eventWrite (nu.backlog.take m)
  rw [List.length_take, Nat.min_eq_left hm] at hlen
  rw [flushWrites, List.length_append, List.length_append, hlen, writesFrom_length, slotWords_length]
  rfl

end writes

/-! ## The start of a flush -/

/-- The start of a flush on one vector (R135). -/
theorem Coalescer.flushed_eq (c : Coalescer) : (if c.fired then { c with fired := false, pending := 0 } else c) =
    { c with fired := false, pending := if c.fired = true then 0 else c.pending } := by
  obtain ⟨state, target, threshold, delay, pending, timer, fired, due, owed⟩ := c
  cases fired <;> rfl

/-- What the start of a flush leaves of the Notice Unit (R135). -/
theorem Nu.startFlush_eq (nu : Nu) : nu.startFlush = { nu with
    flushRequest := false
    vectors := Table.build fun v => { nu.vectors.read v with
      fired := false, pending := if (nu.vectors.read v).fired = true then 0 else (nu.vectors.read v).pending } } := by
  have hvectors : nu.startFlush.vectors = Table.build fun v => { nu.vectors.read v with
      fired := false, pending := if (nu.vectors.read v).fired = true then 0 else (nu.vectors.read v).pending } := Table.ext fun v => by
    simp only [Nu.startFlush, Nu.mapVectors, Table.read_build, Coalescer.flushed_eq]
  exact congrArg (fun vs => { nu with flushRequest := false, vectors := vs }) hvectors

theorem Nu.mem_firedVectors (nu : Nu) (v : VectorId) : v ∈ nu.firedVectors ↔ (nu.vectors.read v).fired = true := by
  simp [Nu.firedVectors, mem_allVectors]

theorem execFlushJobStart_starts {p : PortId} {s : State} (h : s.mayStart p ∧ (s.nu p).dueVector = none ∧ (s.nu p).flushRequest = true) :
    execFlushJobStart p s = .next ((s.modNu p Nu.startFlush).startJob p
      (.flush (flushCount (s.nu p) (s.piu p).eventRead) ((s.nu p).tag + 1) (s.nu p).firedVectors)
      (flushWrites (s.nu p) (s.pool.level = .low) (flushCount (s.nu p) (s.piu p).eventRead))) := congrArg Host.Outcome.next (if_pos h)

/-- Settles O50: the start, the writes, the details. -/
theorem flushJobStartFixesTheFlush : Obligations.FlushJobStartFixesTheFlush := by
  refine ⟨fun p s hno => ?_, fun p s => ?_, fun nu low m hm => ?_, fun g p a b cause kind status reason => ?_⟩
  · refine congrArg Host.Outcome.next (if_neg fun ⟨hmay, hdue, hrequest⟩ => hno ?_)
    obtain ⟨hidle, hstate⟩ := (State.mayStart_iff s p).mp hmay
    exact ⟨hidle, hstate, Nu.dueVector_eq_none.mp hdue, hrequest⟩
  · intro nu m hidle hstate hcalm hrequest
    refine ⟨_, nu.firedVectors, execFlushJobStart_starts ⟨(State.mayStart_iff s p).mpr ⟨hidle, hstate⟩, Nu.dueVector_eq_none.mpr hcalm, hrequest⟩, ?_,
      nu.mem_firedVectors, ?_, fun q hq => ?_, fun q => ?_, ?_, ?_, ?_⟩
    · simp only [State.startJob, State.modWriter_writer, State.modNu_writer, if_true]
      rfl
    · rw [State.startJob_nu, State.modNu_nu, if_pos rfl, Nu.startFlush_eq]
    · rw [State.startJob_nu, State.modNu_nu, if_neg hq]
    · simp
    · simp
    · simp [State.PoolSame]
    · refine ⟨by simp, by simp, by simp, by simp, by simp, fun q hq => ?_, fun q => by simp⟩
      simp [State.startJob, hq]
  · intro ws kindNumber
    refine ⟨flushWrites_length hm, fun k e hk he => ?_, fun i => ?_, ?_⟩
    · obtain ⟨hfirst, hsecond⟩ := flushWrites_event (low := low) hk he
      rw [eventAddress_add, eventWord0_eq] at hfirst
      rw [eventAddress_add, eventWord1_eq] at hsecond
      exact ⟨hfirst, hsecond⟩
    · intro x y
      have hi := i.isLt
      refine ⟨?_, ?_⟩
      · exact (flushWrites_slot hm (by omega) (slotWords_consumer nu i)).trans (by rw [consumerWordBits_eq])
      · have haddress : nu.noticeBase + 516 + BitVec.ofNat 32 (4 * (16 + i.val)) = nu.noticeBase + 580 + BitVec.ofNat 32 (4 * i.val) := by
          rw [Nat.mul_add, BitVec.ofNat_add, ← BitVec.add_assoc, BitVec.add_assoc nu.noticeBase]
          rfl
        rw [Nat.add_assoc, ← haddress, ← producerWordBits_eq]
        exact flushWrites_slot hm (by omega) (slotWords_producer nu i)
    · exact (flushWrites_header hm).trans (by rw [summaryHeader_eq])
  · exact ⟨generationDetail_eq g, offerDetail_eq g p a b, openDetail_eq g p, peerClosedDetail_eq g a, freedDetail_eq g cause, commandDoneDetail_eq kind status,
      by cases reason <;> cases a <;> rfl, by cases a <;> rfl⟩

/-! ## The completion of a flush and of a signal -/

/-- Step 4 of R136 for one vector. -/
theorem Coalescer.served_eq (c : Coalescer) : c.served =
    if c.state = .armed then { c with state := .signalled, due := true } else if c.state = .signalled then { c with owed := true } else c := by
  cases h : c.state <;> simp [Coalescer.served, h]

theorem Nu.completeFlush_eq (nu : Nu) (m : Nat) (tag : Byte) (vs : List VectorId) : nu.completeFlush m tag vs = { nu with
    backlog := nu.backlog.drop m
    eventWrite := nu.eventWrite + BitVec.ofNat 8 m
    tag := tag
    vectors := Table.build fun v =>
      if v ∉ vs then nu.vectors.read v
      else if (nu.vectors.read v).state = .armed then { nu.vectors.read v with state := .signalled, due := true }
      else if (nu.vectors.read v).state = .signalled then { nu.vectors.read v with owed := true }
      else nu.vectors.read v } := by
  have hvectors : (nu.completeFlush m tag vs).vectors = Table.build fun v => if v ∉ vs then nu.vectors.read v
      else if (nu.vectors.read v).state = .armed then { nu.vectors.read v with state := .signalled, due := true }
      else if (nu.vectors.read v).state = .signalled then { nu.vectors.read v with owed := true }
      else nu.vectors.read v := Table.ext fun v => by
    rw [Nu.completeFlush, Table.read_build, Table.read_build, Coalescer.served_eq]
    by_cases h : v ∈ vs <;> simp [h]
  exact congrArg (fun x => { nu with backlog := nu.backlog.drop m, eventWrite := nu.eventWrite + BitVec.ofNat 8 m, tag := tag, vectors := x }) hvectors

section completion

variable {s : State} {p : PortId}

/-- What a job that changes only the Notice Unit of its ATTACHED port leaves when it completes (R74, R136, R138). -/
theorem completion_of_notice {f : Nu → Nu} :
    ((s.modNu p f).modWriter p fun w => { w with state := .idle }).nu p = f (s.nu p) ∧
      (∀ q, q ≠ p → ((s.modNu p f).modWriter p fun w => { w with state := .idle }).nu q = s.nu q) ∧
      s.PiusSame ((s.modNu p f).modWriter p fun w => { w with state := .idle }) ∧
      ((s.modNu p f).modWriter p fun w => { w with state := .idle }).entries = s.entries ∧
      s.PoolSame ((s.modNu p f).modWriter p fun w => { w with state := .idle }) ∧
      s.WriterBecameIdle ((s.modNu p f).modWriter p fun w => { w with state := .idle }) p := by
  refine ⟨by simp, fun q hq => by simp [hq], fun q => by simp, rfl, ⟨rfl, rfl, rfl⟩, .after ?_⟩
  simp [State.DeviceSame]

end completion

/-- Settles O51. -/
theorem flushCompletionServesTheVectors : Obligations.FlushCompletionServesTheVectors := by
  intro p s m tag vs x k hbusy hstate
  have hattached : s.attached p = true := decide_eq_true hstate
  have hwork : s.completeWork p (.flush m tag vs) = s.modNu p fun nu => nu.completeFlush m tag vs := by simp only [State.completeWork, hattached, if_true]
  have hrun : exec (.flushCompletion ⟨p, (s.writer p).jobs⟩) s =
      .next ((s.modNu p fun nu => nu.completeFlush m tag vs).modWriter p fun w => { w with state := .idle }) := by
    refine (execFlushCompletion_of_last ((Writer.lastWriteOf_current hbusy).trans (if_pos (Nat.le_refl 1)))).trans (congrArg Host.Outcome.next ?_)
    rw [State.completeJob_attached (by rw [hwork, State.modNu_piu]; exact hstate), hwork]
  have hnotice := completion_of_notice (s := s) (p := p) (f := fun nu => nu.completeFlush m tag vs)
  rw [Nu.completeFlush_eq] at hnotice
  exact ⟨_, hrun, hnotice⟩

/-! ## Signal jobs -/

section signal

variable {s : State} {p : PortId} {v : VectorId}

/-- The lowest-numbered due signal is found (R138). -/
theorem Nu.dueVector_eq_some {nu : Nu} (hv : (nu.vectors.read v).due = true) (hlow : ∀ x, x < v → (nu.vectors.read x).due = false) :
    nu.dueVector = some v := find?_ascending_all hv hlow

theorem execSignalJobStart_starts (hmay : s.mayStart p = true) (hdue : (s.nu p).dueVector = some v) :
    execSignalJobStart p s = .next (s.startSignal p v) := by
  simp [execSignalJobStart, hmay, hdue]

/-- No signal job starts without a due signal, a free Port Writer and an ATTACHED port (R74, R76). -/
theorem execSignalJobStart_idle (h : (∀ v, ((s.nu p).vectors.read v).due = false) ∨ (s.writer p).state ≠ .idle ∨ (s.piu p).state ≠ .attached) :
    execSignalJobStart p s = .next s := by
  refine congrArg Host.Outcome.next ?_
  rcases h with h | h
  · rw [Nu.dueVector_eq_none.mpr h]
    exact ite_self _
  · refine if_neg fun hmay => ?_
    obtain ⟨hidle, hstate⟩ := (State.mayStart_iff s p).mp hmay
    exact h.elim (absurd hidle) (absurd hstate)

end signal

/-- Settles O52: the start by target, then the completion. -/
theorem signalJobsGiveTheSignal : Obligations.SignalJobsGiveTheSignal := by
  intro p s
  refine ⟨execSignalJobStart_idle, fun v hidle hstate hdue hlow => ?_, fun v x k hbusy hstate => ?_⟩
  · have hvector := Nu.dueVector_eq_some hdue hlow
    have hstart := execSignalJobStart_starts ((State.mayStart_iff s p).mpr ⟨hidle, hstate⟩) hvector
    refine ⟨congrArg Host.Outcome.next (if_neg ?_), congrArg Host.Outcome.next (if_neg ?_), fun hline => ?_, fun a d hmessage => ?_⟩
    · simp [hvector]
    · simp [hvector]
    · refine hstart.trans (congrArg Host.Outcome.next ?_)
      rw [State.startSignal, hline]
      rfl
    · refine hstart.trans (congrArg Host.Outcome.next ?_)
      rw [State.startSignal, hmessage]
      rfl
  · have hrun : exec (.signalCompletion ⟨p, (s.writer p).jobs⟩) s =
        .next ((s.modNu p fun nu => nu.completeSignal v).modWriter p fun w => { w with state := .idle }) := by
      refine (execSignalCompletion_of_last ((Writer.lastWriteOf_current hbusy).trans (if_pos (Nat.le_refl 1)))).trans (congrArg Host.Outcome.next ?_)
      exact State.completeJob_attached (kind := .signal v) (by rw [State.completeWork, State.modNu_piu]; exact hstate)
    exact ⟨_, hrun, completion_of_notice⟩

end Sys2Proof.Machine

/-! # ATTACH and the retain-armed flag (O53, O56) -/

namespace Sys2Proof.Machine

/-! ## ATTACH -/

section attach

variable {s : State} {p : PortId} {w : Table Word 8}

/-- The Notice Unit after ATTACH: a fresh configuration with vector 0 fired (R142). -/
theorem Nu.attach_eq (nu : Nu) (base : Word) (g : Grant) (line : Bool) : nu.attach base g line = { nu with
    noticeBase := base
    grant := g
    nextSequence := 0
    eventWrite := 0
    tag := 0
    lost := 0
    eventsLost := false
    flushRequest := true
    vectors := Table.build fun v => ⟨if line = true ∧ v = 0 then .armed else .off, if line = true ∧ v = 0 then .line else .noTarget, 1, 64, 0, none,
      decide (v = 0), false, false⟩ } := by
  have hvectors : (nu.attach base g line).vectors = Table.build fun v =>
      ⟨if line = true ∧ v = 0 then .armed else .off, if line = true ∧ v = 0 then .line else .noTarget, 1, 64, 0, none, decide (v = 0), false, false⟩ :=
    Table.ext fun v => by
      simp only [Nu.attach, Nu.fire, Nu.modVector, Table.read_write, Table.read_build]
      by_cases hv : v = 0
      · subst hv
        cases line <;> rfl
      · have hval : (v.val == 0) = false := beq_eq_false_iff_ne.mpr fun h => hv (Fin.ext h)
        simp [Coalescer.fresh, hv, hval]
  exact congrArg (fun vs => { nu with
    noticeBase := base, grant := g, nextSequence := 0, eventWrite := 0, tag := 0, lost := 0, eventsLost := false, flushRequest := true, vectors := vs }) hvectors

theorem attachBody_outstanding (h : s.requestsOutstanding p = true) : attachBody p s = s.refuse p .badState := if_pos h

/-- Tests 2 to 4 of ATTACH (R145). -/
theorem attachBody_badArg (hw : s.args p = w) (hno : ¬ s.requestsOutstanding p = true)
    (h : (w.read 0).toNat % 1024 ≠ 0 ∨ 1 < bits (w.read 1) 15 8 ∨ bits (w.read 1) 7 0 ∉ [1, 2, 4]) : attachBody p s = s.refuse p .badArg := by
  subst hw
  rw [attachBody, if_neg hno]
  by_cases hbase : ((s.args p).read 0).toNat % 1024 ≠ 0 ∨ 1 < bits ((s.args p).read 1) 15 8
  · exact if_pos hbase
  · rw [if_neg hbase]
    have hgrant : grantOf (bits ((s.args p).read 1) 7 0) = none := by
      have hnot := h.resolve_left (mt Or.inl hbase) |>.resolve_left (mt Or.inr hbase)
      refine Option.eq_none_iff_forall_ne_some.mpr fun g hg => hnot ?_
      rcases (grantOf_eq_some_iff _ _).mp hg with ⟨h, _⟩ | ⟨h, _⟩ | ⟨h, _⟩ <;> simp [h]
    rw [hgrant]

theorem attachBody_takes (hw : s.args p = w) (hno : ¬ s.requestsOutstanding p = true) (hbase : (w.read 0).toNat % 1024 = 0)
    (hmode : bits (w.read 1) 15 8 ≤ 1) {g : Grant} (hg : grantOf (bits (w.read 1) 7 0) = some g) :
    attachBody p s = attachTake s p (w.read 0) g (bits (w.read 1) 15 8 = 1) := by
  subst hw
  rw [attachBody, if_neg hno, if_neg (by omega), hg]

end attach

/-- Settles O53: the tests in order, then the change of the port's blocks. -/
theorem attachGivesAFreshConfiguration : Obligations.AttachGivesAFreshConfiguration := by
  intro p n s w base mode line again outstanding hs hstates
  let l := s.latched p (kindOf .attach) n
  have hadmits : admits (s.piu p).state .attach = true := by rcases hstates with h | h | h <;> rw [h] <;> rfl
  have hblocks : ∀ q, (l.port q).flushOwed = (s.port q).flushOwed ∧ (l.port q).requeueOwed = (s.port q).requeueOwed := fun q => by simp [l]
  have houtstanding : l.requestsOutstanding p = true ↔ outstanding := by
    rw [State.requestsOutstanding_iff, (hblocks p).1, (hblocks p).2]
    rfl
  have hargs : l.args p = w := State.args_latch ..
  refine ⟨fun h => exec_refused rfl hs hadmits (attachBody_outstanding (houtstanding.mpr h)),
    fun hno h => exec_refused rfl hs hadmits (attachBody_badArg hargs (mt houtstanding.mp hno) h), fun g hno hbase hmode hg => ?_⟩
  have hbody := (attachBody_takes hargs (mt houtstanding.mp hno) hbase hmode hg).trans (attachTake_eq ..)
  let z := l.modPort p fun b => b.attach base g (mode = 1)
  have hlp : l.piu p = (s.piu p).latch (kindOf .attach) n := by simp [l]
  have hlw : ∀ q, l.writer q = s.writer q := fun q => by simp [l]
  have hln : ∀ q, l.nu q = s.nu q := fun q => by simp [l]
  have hport : ∀ q, z.port q = if q = p then (l.port p).attach base g (mode = 1) else l.port q := fun q => State.modPort_port ..
  have hpiu : ∀ q, z.piu q = if q = p then { (s.piu p).latch (kindOf .attach) n with state := .attached, retainedLast := false, eventRead := 0 }
      else s.piu q := fun q => by
    rw [State.piu, hport]
    by_cases hq : q = p
    · rw [if_pos hq, if_pos hq, ← hlp]
      rfl
    · rw [if_neg hq, if_neg hq]
      exact (State.modPiu_piu ..).trans (if_neg hq)
  have hwriter : ∀ q, z.writer q = if q = p then { s.writer p with state := .idle } else s.writer q := fun q => by
    rw [State.writer, hport]
    by_cases hq : q = p
    · rw [if_pos hq, if_pos hq, ← hlw]
      rfl
    · rw [if_neg hq, if_neg hq, ← hlw]
      rfl
  have hnu : ∀ q, z.nu q = if q = p then (s.nu p).attach base g (mode = 1) else s.nu q := fun q => by
    rw [State.nu, hport]
    by_cases hq : q = p
    · rw [if_pos hq, if_pos hq, ← hln]
      rfl
    · rw [if_neg hq, if_neg hq, ← hln]
      rfl
  have hattached : (z.piu p).state = .attached := by rw [hpiu, if_pos rfl]
  have hkind : (z.piu p).slot.kind = kindOf .attach := by rw [hpiu, if_pos rfl]; rfl
  have hnotify : (z.piu p).slot.notify = n := by rw [hpiu, if_pos rfl]; rfl
  have hagain : flag ((l.piu p).state ≠ .detached) = if again then 1 else 0 := by rw [hlp]; simp [flag, again, Piu.latch]
  rw [hagain, hln] at hbody
  refine ⟨_, exec_completes rfl hs hadmits hbody, ?_, fun q hq => ?_, ?_, fun q hq => ?_, ?_, fun q hq => ?_, by simp [l], by simp [State.PoolSame, l], ?_, ?_,
    fun q hq => ?_, by simp [l], by simp [l], by simp [l], by simp [l], by simp [l]⟩
  · rw [State.complete_piu, if_pos rfl, hpiu, if_pos rfl]
    rfl
  · rw [State.complete_piu, if_neg hq, hpiu, if_neg hq]
  · rw [State.complete_writer, hwriter, if_pos rfl]
  · rw [State.complete_writer, hwriter, if_neg hq]
  · rw [State.complete_nu hattached hkind hnotify, if_pos rfl, hnu, if_pos rfl, Nu.attach_eq]
    simp only [decide_eq_true_eq]
    rfl
  · rw [State.complete_nu hattached hkind hnotify, if_neg hq, hnu, if_neg hq]
  · rw [State.complete_flushOwed, hport, if_pos rfl]
    rfl
  · rw [State.complete_requeueOwed, hport, if_pos rfl]
    rfl
  · rw [State.complete_flushOwed, State.complete_requeueOwed, hport, if_neg hq]
    exact hblocks q

/-! ## The retain-armed flag -/

/-- A command that sets or clears retain-armed (R153). -/
theorem exec_retainArmed {p : PortId} {n : Bool} {s : State} (hs : s.SlotReady p) {i : Instr} {k : Command} (hcmd : slotCommand i = some (p, k, n))
    (hk : kindOf k ≠ kindOf .post) (hadmits : admits (s.piu p).state k = true) {armed : Bool} (hbody : commandBody p k = retainBody armed p) :
    ∃ t, exec i s = .next t ∧
      t.piu p = { s.piu p with retainArmed := armed, slot := (s.piu p).slot.answered (kindOf k) n .done (resultWords 0 0 0 0) } ∧ s.PiusSameBut t p ∧
      s.EventsMade t (noticeDone p n (kindOf k) .done) ∧ s.WordsSame t ∧ t.entries = s.entries ∧ s.PoolSame t ∧ s.DeviceSame t := by
  let z := (s.latched p (kindOf k) n).modPiu p fun u => { u with retainArmed := armed }
  have hresults : Table.fill 4 0 = resultWords 0 0 0 0 := Table.ext (by decide)
  have hz : commandBody p k (s.latched p (kindOf k) n) = z.complete p .done (Table.fill 4 0) := by rw [hbody]; rfl
  have hpiu : ∀ q, z.piu q = if q = p then { (s.piu p).latch (kindOf k) n with retainArmed := armed } else s.piu q := fun q => by
    by_cases hq : q = p <;> simp [z, hq]
  rw [hresults] at hz
  refine ⟨_, exec_completes hcmd hs hadmits hz, ?_, fun q hq => ?_, ?_, fun q => ?_, by simp [z], by simp [State.PoolSame, z], by simp [State.DeviceSame, z]⟩
  · rw [State.complete_piu, if_pos rfl, hpiu, if_pos rfl]
    simp [Piu.latch, CommandSlot.answered, hk]
  · rw [State.complete_piu, if_neg hq, hpiu, if_neg hq]
  · refine State.Told.completed ((State.Told.refl _).modPiu rfl) ?_ ?_ _ _
    · rw [hpiu, if_pos rfl]; rfl
    · rw [hpiu, if_pos rfl]; rfl
  · simp [z]

/-- Settles O56, for the two commands alike. -/
theorem retainArmedFollowsItsCommands : Obligations.RetainArmedFollowsItsCommands := by
  intro p n s hs hstates i k armed hi
  rcases hi with ⟨rfl, rfl, rfl⟩ | ⟨rfl, rfl, rfl⟩
  · exact exec_retainArmed hs rfl (by decide) (by rcases hstates with h | h | h <;> rw [h] <;> rfl) rfl
  · exact exec_retainArmed hs rfl (by decide) (by rcases hstates with h | h | h <;> rw [h] <;> rfl) rfl

end Sys2Proof.Machine

/-! # The end of a quiesce and DETACH (O54) -/

namespace Sys2Proof.Machine

/-! ## The end of a quiesce -/

section quiesce

variable {s : State} {p : PortId}

/-- The slot holds a DETACH that has not completed (R147). -/
abbrev CommandSlot.Waits (slot : CommandSlot) : Prop := slot.busy = true ∧ slot.kind = kindOf .detach

/-- The slot after the end of a quiesce: a DETACH that waits in it completes (R148). -/
def CommandSlot.quiesced (slot : CommandSlot) : CommandSlot := if slot.Waits then slot.completed .done (resultWords 0 0 0 0) else slot

theorem resultWords_zero : Table.fill 4 0 = resultWords 0 0 0 0 := Table.ext (by decide)

theorem State.finishDetach_piu (q : PortId) :
    (s.finishDetach p).piu q = if q = p then { s.piu p with slot := (s.piu p).slot.quiesced } else s.piu q := by
  unfold State.finishDetach CommandSlot.quiesced
  by_cases hwaits : (s.piu p).slot.Waits
  · rw [if_pos hwaits, if_pos hwaits, State.finish, State.complete_piu, resultWords_zero]
    rfl
  · rw [if_neg hwaits, if_neg hwaits]
    split
    · next hq => rw [hq]
    · rfl

theorem State.finishDetach_nu (q : PortId) : (s.finishDetach p).nu q =
    if (s.piu p).slot.Waits then s.nuAfter q (noticeDone p (s.piu p).slot.notify (kindOf .detach) .done q) else s.nu q := by
  unfold State.finishDetach
  by_cases hwaits : (s.piu p).slot.Waits
  · rw [if_pos hwaits, if_pos hwaits, State.finish, State.complete_nuAfter hwaits.2 rfl]
  · rw [if_neg hwaits, if_neg hwaits]

/-- Every vector OFF (R142, R148). -/
theorem Nu.vectorsOff_eq (nu : Nu) : nu.vectorsOff = { nu with vectors := Table.build fun v => (nu.vectors.read v).turnedOff } := rfl

/-- The Port Interface Unit at the end of a quiesce (R148). -/
theorem State.quiesceEnd_piu (mode : DetachMode) (q : PortId) : (s.quiesceEnd p mode).piu q =
    if q = p then { (s.piu p).leave mode with slot := (s.piu p).slot.quiesced } else s.piu q := by
  have hslot : ((s.piu p).leave mode).slot = (s.piu p).slot := by cases mode <;> rfl
  by_cases hq : q = p <;> simp [State.quiesceEnd, State.finishDetach_piu, hq, hslot]

/-- The Notice Unit of another port does not change at the end of a quiesce. -/
theorem State.quiesceEnd_nu_other (mode : DetachMode) {q : PortId} (hq : q ≠ p) : (s.quiesceEnd p mode).nu q = s.nu q := by
  have hnone : ∀ n, noticeDone p n (kindOf .detach) .done q = [] := fun n => if_neg fun h => hq h.2
  rw [State.quiesceEnd, State.oweDetachment_nu, State.finishDetach_nu, hnone]
  split
  · unfold State.nuAfter
    split <;> simp [hq, Nu.handAll]
  · simp [hq]

/-- The Notice Unit of a port that becomes DETACHED: COMMAND_DONE is discarded (R125, R148). -/
theorem State.quiesceEnd_nu_flush : (s.quiesceEnd p .flush).nu p = { (s.nu p).vectorsOff with backlog := [] } := by
  rw [State.quiesceEnd, State.oweDetachment_nu, State.finishDetach_nu]
  split
  · rw [State.nuAfter, if_pos (by simp [Piu.leave])]
    simp [Nu.leave]
  · simp [Nu.leave]

/-- The Notice Unit of a port that becomes RETAINED: COMMAND_DONE joins the backlog (R148). -/
theorem State.quiesceEnd_nu_retain : (s.quiesceEnd p .retain).nu p =
    if (s.piu p).slot.Waits then (s.nu p).vectorsOff.handAll false (noticeDone p (s.piu p).slot.notify (kindOf .detach) .done p) else (s.nu p).vectorsOff := by
  have hslot : ((((s.modPiu p fun u => u.leave .retain).modNu p fun nu => nu.leave .retain).piu p)).slot = (s.piu p).slot := by simp [Piu.leave]
  rw [State.quiesceEnd, State.oweDetachment_nu, State.finishDetach_nu, hslot]
  split
  · rw [State.nuAfter, if_neg (by simp [Piu.leave])]
    simp [Piu.leave, Nu.leave]
  · simp [Nu.leave]

/-- The requests that a detachment leaves on the entries (R148). -/
theorem State.quiesceEnd_flushOwed (mode : DetachMode) (q : PortId) : ((s.quiesceEnd p mode).port q).flushOwed =
    if q = p ∧ mode = .flush then (s.port p).flushOwed ++ s.partyEntries p else (s.port q).flushOwed := by
  have hparty : ((((s.modPiu p fun u => u.leave mode).modNu p fun nu => nu.leave mode).finishDetach p)).partyEntries p = s.partyEntries p := by
    simp only [State.partyEntries, State.finishDetach_use, State.modNu_use, State.modPiu_use]
  unfold State.quiesceEnd State.oweDetachment
  rw [hparty]
  cases mode <;> by_cases hq : q = p <;> simp [hq]

theorem State.quiesceEnd_requeueOwed (mode : DetachMode) (q : PortId) : ((s.quiesceEnd p mode).port q).requeueOwed =
    if q = p ∧ mode = .retain then (s.port p).requeueOwed ++ s.partyEntries p else (s.port q).requeueOwed := by
  have hparty : ((((s.modPiu p fun u => u.leave mode).modNu p fun nu => nu.leave mode).finishDetach p)).partyEntries p = s.partyEntries p := by
    simp only [State.partyEntries, State.finishDetach_use, State.modNu_use, State.modPiu_use]
  unfold State.quiesceEnd State.oweDetachment
  rw [hparty]
  cases mode <;> by_cases hq : q = p <;> simp [hq]

/-- A quiesce that waits (R148). -/
theorem State.settle_waits (h : (s.piu p).resetPin = true ∨ (s.writer p).isBusy = true) : s.settle p = s := if_pos h

/-- The quiesce of a QUIESCING port, or the change of a FAULTED one, ends (R148, R156). -/
theorem State.settle_ends (hpin : (s.piu p).resetPin = false) (hbusy : (s.writer p).isBusy = false)
    (hstate : (s.piu p).state = .quiescing ∨ (s.piu p).state = .faulted) {mode : DetachMode} (hmode : (s.piu p).leaveMode = some mode) :
    s.settle p = s.quiesceEnd p mode := by
  rw [State.settle, if_neg (by simp [hpin, hbusy]), if_pos hstate, hmode]

end quiesce

/-! ## A fault of the port, in one change of its blocks -/

section fault

variable {s : State} {p : PortId}

theorem State.setPort_setPort (a b : Port) : (s.setPort p a).setPort p b = s.setPort p b := by
  rw [State.setPort, State.setPort, Table.write_write]
  rfl

theorem State.modPort_modPort (f g : Port → Port) : (s.modPort p f).modPort p g = s.modPort p fun b => g (f b) := by
  rw [State.modPort, State.modPort, State.setPort_self, State.setPort_setPort]
  rfl

/-- The blocks of a port that faults, with the entries that owe it the fault (R157). -/
def Port.fault (b : Port) (owed : List ChannelId) : Port :=
  { b.depart .faulted with nu := (b.depart .faulted).nu.vectorsOff, requeueOwed := b.requeueOwed ++ owed }

theorem State.faultPort_eq : s.faultPort p = s.modPort p fun b => b.fault (s.faultEntries p) := by
  have hreached : ((s.departAttached p .faulted).modNu p Nu.vectorsOff).faultEntries p = s.faultEntries p := by
    simp only [State.faultEntries, State.modNu_use, State.departAttached_use]
  unfold State.faultPort
  dsimp only
  rw [hreached, State.departAttached_eq, State.modNu, State.modPort_modPort, State.modPort_modPort]
  rfl

/-- Taking a fault and taking a command do not see each other (R158). -/
theorem State.faultPort_latched (k : Byte) (n : Bool) : (s.latched p k n).faultPort p = (s.faultPort p).latched p k n := by
  have hreached : (s.latched p k n).faultEntries p = s.faultEntries p := rfl
  rw [State.faultPort_eq, State.faultPort_eq, hreached, State.latched, State.modPiu, State.latched, State.modPiu, State.modPort_modPort, State.modPort_modPort]
  rfl

end fault

/-! ## DETACH -/

section detach

variable {s : State} {p : PortId} {w : Table Word 8} {mode : DetachMode}

theorem detachBody_badArg (hw : s.args p = w) (h : detachModeOf (bits (w.read 0) 7 0) = none) : detachBody p s = s.refuse p .badArg := by
  subst hw
  rw [detachBody, h]

theorem detachBody_takes (hw : s.args p = w) (h : detachModeOf (bits (w.read 0) 7 0) = some mode) :
    detachBody p s = detachByState (s.takeFault p) p mode := by
  subst hw
  rw [detachBody, h]
  rfl

theorem detachModeOf_none {n : Nat} (h : 1 < n) : detachModeOf n = none :=
  Option.eq_none_iff_forall_ne_some.mpr fun m hm => by
    rcases (detachModeOf_eq_some_iff n m).mp hm with ⟨h0, _⟩ | ⟨h1, _⟩ <;> omega

/-- An ATTACHED port that is QUIESCING: the state in which its quiesce waits or ends (R147). -/
def State.quiescing (s : State) (p : PortId) (mode : DetachMode) : State :=
  (s.modPiu p fun u => { u with leaveMode := some mode }).departAttached p .quiescing

theorem State.quiescing_piu (q : PortId) : (s.quiescing p mode).piu q =
    if q = p then { s.piu p with state := .quiescing, leaveMode := some mode, faultHanded := false } else s.piu q := by
  by_cases hq : q = p <;> simp [State.quiescing, hq]

theorem State.quiescing_writer (q : PortId) : (s.quiescing p mode).writer q = if q = p then (s.writer p).depart else s.writer q := by
  simp [State.quiescing]

theorem State.quiescing_nu (q : PortId) : (s.quiescing p mode).nu q = if q = p then (s.nu p).depart else s.nu q := by
  simp [State.quiescing]

theorem State.quiescing_blocks : (s.quiescing p mode).entries = s.entries ∧ s.PoolSame (s.quiescing p mode) ∧ (s.quiescing p mode).pending = s.pending ∧
    (s.quiescing p mode).resetPin = s.resetPin ∧ (s.quiescing p mode).roundRobin = s.roundRobin ∧ (s.quiescing p mode).onTick = s.onTick ∧
    (s.quiescing p mode).freeIndex = s.freeIndex ∧
    ∀ q, ((s.quiescing p mode).port q).flushOwed = (s.port q).flushOwed ∧ ((s.quiescing p mode).port q).requeueOwed = (s.port q).requeueOwed := by
  simp [State.quiescing, State.PoolSame]

/-- DETACH by port state (R147). -/
theorem detachByState_attached (h : (s.piu p).state = .attached) : detachByState s p mode = (s.quiescing p mode).settle p := by
  simp only [detachByState, h, State.quiescing]

theorem detachByState_retained (h : (s.piu p).state = .retained) : detachByState s p .retain = s.complete p .done (resultWords 0 0 0 0) := by
  simp only [detachByState, h, State.finish, resultWords_zero]

theorem detachByState_ends (h : (s.piu p).state = .faulted ∨ ((s.piu p).state = .retained ∧ mode = .flush)) : detachByState s p mode = s.quiesceEnd p mode := by
  rcases h with h | ⟨h, rfl⟩ <;> simp only [detachByState, h]

/-- The delay timers, fired marks and signals of a port that left ATTACHED (R142). -/
theorem Nu.depart_eq (nu : Nu) : nu.depart = nu.departed fun c => { c with timer := none, fired := false, due := false } := rfl

/-- A Port Writer without a job is STOPPED when its port leaves ATTACHED (R74). -/
theorem Writer.depart_free {w : Writer} (h : ∀ job, w.state ≠ .busy job) : w.depart = { w with state := .stopped } := by
  unfold Writer.depart
  split
  · next hw => rw [← hw]
  · rfl
  · next job hw => exact absurd hw (h job)

theorem Writer.depart_busy {w : Writer} {job : Job} (h : w.state = .busy job) : w.depart = w := by rw [Writer.depart, h]

theorem Writer.isBusy_iff {w : Writer} : w.isBusy = true ↔ ∃ job, w.state = .busy job := by
  unfold Writer.isBusy
  cases w.state <;> simp

end detach

/-- What every DETACH that is decided leaves as it is (R147, R148). -/
structure State.DetachFrame (s t : State) (p : PortId) : Prop where
  pius : s.PiusSameBut t p
  nus : ∀ q, q ≠ p → t.nu q = s.nu q
  writers : ∀ q, q ≠ p → t.writer q = s.writer q
  entries : t.entries = s.entries
  pool : s.PoolSame t
  pending : t.pending = s.pending
  resetPin : t.resetPin = s.resetPin
  roundRobin : t.roundRobin = s.roundRobin
  onTick : t.onTick = s.onTick
  freeIndex : t.freeIndex = s.freeIndex
  owed : ∀ q, q ≠ p → (t.port q).flushOwed = (s.port q).flushOwed ∧ (t.port q).requeueOwed = (s.port q).requeueOwed

section frame

variable {s t : State} {p : PortId} {mode : DetachMode}

theorem State.DetachFrame.latched (s : State) (p : PortId) (k : Byte) (n : Bool) : s.DetachFrame (s.latched p k n) p where
  pius := fun q hq => by simp [hq]
  nus := fun q _ => by simp
  writers := fun q _ => by simp
  entries := rfl
  pool := ⟨rfl, rfl, rfl⟩
  pending := rfl
  resetPin := rfl
  roundRobin := rfl
  onTick := rfl
  freeIndex := rfl
  owed := fun q _ => by simp

theorem State.DetachFrame.quiescing (h : s.DetachFrame t p) : s.DetachFrame (t.quiescing p mode) p := by
  obtain ⟨hentries, ⟨hpool, hhold, hretest⟩, hpending, hpin, hrobin, htick, hfree, howed⟩ := State.quiescing_blocks (s := t) (p := p) (mode := mode)
  obtain ⟨kpool, khold, kretest⟩ := h.pool
  exact {
    pius := fun q hq => by rw [State.quiescing_piu, if_neg hq, h.pius q hq]
    nus := fun q hq => by rw [State.quiescing_nu, if_neg hq, h.nus q hq]
    writers := fun q hq => by rw [State.quiescing_writer, if_neg hq, h.writers q hq]
    entries := hentries.trans h.entries
    pool := ⟨hpool.trans kpool, hhold.trans khold, hretest.trans kretest⟩
    pending := hpending.trans h.pending
    resetPin := hpin.trans h.resetPin
    roundRobin := hrobin.trans h.roundRobin
    onTick := htick.trans h.onTick
    freeIndex := hfree.trans h.freeIndex
    owed := fun q hq => ⟨(howed q).1.trans (h.owed q hq).1, (howed q).2.trans (h.owed q hq).2⟩ }

theorem State.DetachFrame.quiesceEnd (h : s.DetachFrame t p) : s.DetachFrame (t.quiesceEnd p mode) p where
  pius := fun q hq => by rw [State.quiesceEnd_piu, if_neg hq, h.pius q hq]
  nus := fun q hq => by rw [State.quiesceEnd_nu_other mode hq, h.nus q hq]
  writers := fun q hq => by rw [State.quiesceEnd_writer, h.writers q hq]
  entries := (State.quiesceEnd_entries ..).trans h.entries
  pool := by
    obtain ⟨hpool, hhold, hretest⟩ := h.pool
    exact ⟨(State.quiesceEnd_pool ..).trans hpool, (State.quiesceEnd_holdOwed ..).trans hhold, (State.quiesceEnd_retestOwed ..).trans hretest⟩
  pending := (State.quiesceEnd_pending ..).trans h.pending
  resetPin := (State.quiesceEnd_resetPin ..).trans h.resetPin
  roundRobin := (State.quiesceEnd_roundRobin ..).trans h.roundRobin
  onTick := (State.quiesceEnd_onTick ..).trans h.onTick
  freeIndex := (State.quiesceEnd_freeIndex ..).trans h.freeIndex
  owed := fun q hq => by
    rw [State.quiesceEnd_flushOwed, State.quiesceEnd_requeueOwed, if_neg fun h => hq h.1, if_neg fun h => hq h.1]
    exact h.owed q hq

end frame

/-- Settles O54, by the port state and the job in flight. -/
theorem detachQuiescesThePort : Obligations.DetachQuiescesThePort := by
  intro p n s arg attached retained faulted slot hs hstates
  let l := s.latched p (kindOf .detach) n
  have hadmits : admits (s.piu p).state .detach = true := by rcases hstates with h | h | h <;> rw [h] <;> rfl
  have hargs : l.args p = (s.piu p).slot.arguments := State.args_latch ..
  have hlp : l.piu p = (s.piu p).latch (kindOf .detach) n := by simp [l]
  refine ⟨fun h => exec_refused rfl hs hadmits (detachBody_badArg hargs (detachModeOf_none h)), fun mode hmode => ⟨fun hstate hfault hretain => ?_,
    fun hstate hhanded hstopped k t ht => ?_, fun hfault hdecided => ?_⟩⟩
  all_goals
    have hrun : exec (.detach p n) s = .next (detachByState (l.takeFault p) p mode) :=
      (exec_taken rfl hs hadmits).trans (congrArg Host.Outcome.next (detachBody_takes hargs hmode))
  · have htake : l.takeFault p = l := State.takeFault_none (by rw [hlp]; exact hfault)
    rw [htake, hretain, detachByState_retained (by rw [hlp]; exact hstate)] at hrun
    refine ⟨_, hrun, State.Answered.complete (by decide) (fun q => rfl) _ _, ?_, fun q => by simp [l], by simp [l], by simp [State.PoolSame, l],
      by simp [State.DeviceSame, l]⟩
    exact (State.Told.refl l).completed (by rw [hlp]; rfl) (by rw [hlp]; rfl) _ _
  · obtain rfl : t = s.faultPort p := Host.Outcome.next.inj (ht.symm.trans (exec_takesFault hstopped hhanded k))
    have hpiu : (s.faultPort p).piu p = { s.piu p with state := .faulted, faultHanded := false } := by rw [(s.faultPort_blocks p p).1, if_pos rfl]
    have hready : (s.faultPort p).SlotReady p := by
      obtain ⟨⟨hpin, hport⟩, hbusy⟩ := hs
      refine ⟨⟨(State.faultPort_resetPin ..).trans hpin, ?_⟩, ?_⟩
      · rw [hpiu]; exact hport
      · rw [hpiu]; exact hbusy
    have hfaulted : exec (.detach p n) (s.faultPort p) = .next (detachByState (((s.faultPort p).latched p (kindOf .detach) n).takeFault p) p mode) := by
      refine (exec_taken (c := .detach) (n := n) rfl hready (by rw [hpiu]; rfl)).trans (congrArg Host.Outcome.next (detachBody_takes (w := (s.piu p).slot.arguments) ?_ hmode))
      refine (State.args_latch ..).trans ?_
      rw [hpiu]
    have htaken : l.takeFault p = (s.faultPort p).latched p (kindOf .detach) n :=
      (State.takeFault_handed (by rw [hlp]; exact hhanded)).trans (State.faultPort_latched ..)
    have hnone : ((s.faultPort p).latched p (kindOf .detach) n).takeFault p = (s.faultPort p).latched p (kindOf .detach) n :=
      State.takeFault_none (by rw [State.modPiu_piu, if_pos rfl, hpiu]; rfl)
    rw [hrun, htaken, hfaulted, hnone]
  · intro quiet
    have htake : l.takeFault p = l := State.takeFault_none (by rw [hlp]; exact hfault)
    have hlw : ∀ q, l.writer q = s.writer q := fun q => by simp [l]
    have hln : ∀ q, l.nu q = s.nu q := fun q => by simp [l]
    have hlowed : (l.port p).flushOwed = (s.port p).flushOwed ∧ (l.port p).requeueOwed = (s.port p).requeueOwed := by simp [l]
    have hframe : s.DetachFrame l p := .latched ..
    have hqpiu : (l.quiescing p mode).piu p =
        { (s.piu p).latch (kindOf .detach) n with state := .quiescing, leaveMode := some mode } := by
      rw [State.quiescing_piu, if_pos rfl, hlp, ← hfault]
      rfl
    have hpin : ((l.quiescing p mode).piu p).resetPin = false := by rw [hqpiu]; exact hs.1.2
    have hqwriter : (l.quiescing p mode).writer p = (s.writer p).depart := by rw [State.quiescing_writer, if_pos rfl, hlw]
    obtain ⟨_, _, _, _, _, _, _, hqowed⟩ := State.quiescing_blocks (s := l) (p := p) (mode := mode)
    rw [htake] at hrun
    have hbegin : attached → detachByState l p mode = (l.quiescing p mode).settle p := fun h => detachByState_attached (by rw [hlp]; exact h)
    by_cases hwait : attached ∧ ∃ job, (s.writer p).state = .busy job
    · obtain ⟨ha, job, hjob⟩ := hwait
      have hdepart := Writer.depart_busy hjob
      have hsettle := (hbegin ha).trans (State.settle_waits (.inr (by rw [hqwriter, hdepart]; exact Writer.isBusy_iff.mpr ⟨job, hjob⟩)))
      rw [hsettle] at hrun
      obtain ⟨h1, h2, h3, h4, h5, h6, h7, h8, h9, h10, h11⟩ := hframe.quiescing (mode := mode)
      refine ⟨_, hrun, h1, h2, h3, h4, h5, h6, h7, h8, h9, h10, h11, fun _ _ _ => ⟨?_, hqpiu, ?_, ?_, ?_⟩,
        fun hno => absurd hjob ((hno.resolve_left (not_not_intro ha)) job)⟩
      · rw [hqwriter, hdepart]
      · rw [State.quiescing_nu, if_pos rfl, hln, Nu.depart_eq]
      · exact (hqowed p).1.trans hlowed.1
      · exact (hqowed p).2.trans hlowed.2
    · obtain ⟨x, hx, hxframe, ⟨st, lm, hxpiu⟩, hxnu, hxwriter, hxowed, hxparty⟩ : ∃ x : State, detachByState l p mode = x.quiesceEnd p mode ∧
          s.DetachFrame x p ∧ (∃ st lm, x.piu p = { (s.piu p).latch (kindOf .detach) n with state := st, leaveMode := lm }) ∧
          (x.nu p).vectorsOff = quiet ∧ x.writer p = (if attached then { s.writer p with state := .stopped } else s.writer p) ∧
          ((x.port p).flushOwed = (s.port p).flushOwed ∧ (x.port p).requeueOwed = (s.port p).requeueOwed) ∧ ∀ c, x.use c = s.use c := by
        by_cases ha : attached
        · have hfree : ∀ job, (s.writer p).state ≠ .busy job := fun job hjob => hwait ⟨ha, job, hjob⟩
          have hstopped := Writer.depart_free hfree
          refine ⟨l.quiescing p mode, (hbegin ha).trans (State.settle_ends hpin ?_ (.inl ?_) ?_), hframe.quiescing, ⟨_, _, hqpiu⟩, ?_, ?_, ?_, fun c => ?_⟩
          · rw [hqwriter, hstopped]; rfl
          · rw [hqpiu]
          · rw [hqpiu]
          · rw [State.quiescing_nu, if_pos rfl, hln, Nu.depart_vectorsOff]
            exact (if_pos ha).symm
          · rw [hqwriter, hstopped, if_pos ha]
          · exact ⟨(hqowed p).1.trans hlowed.1, (hqowed p).2.trans hlowed.2⟩
          · simp [State.quiescing, l]
        · refine ⟨l, ?_, hframe, ⟨_, _, hlp⟩, ?_, ?_, hlowed, fun c => rfl⟩
          · refine detachByState_ends ?_
            rw [hlp]
            rcases hstates.resolve_left ha with h | h
            · exact .inr ⟨h, (hdecided.resolve_left ha).resolve_left fun hf => by cases h.symm.trans hf⟩
            · exact .inl h
          · rw [hln, Nu.vectorsOff_eq]
            exact (if_neg ha).symm
          · rw [hlw, if_neg ha]
      have hslot : (x.piu p).slot.quiesced = slot := by rw [hxpiu]; rfl
      have hparty : ∀ c, c ∈ x.partyEntries p ↔ ∃ u, s.use c = some u ∧ u.isParty p = true := fun c => by rw [State.mem_partyEntries, hxparty]
      obtain ⟨h1, h2, h3, h4, h5, h6, h7, h8, h9, h10, h11⟩ := hxframe.quiesceEnd (mode := mode)
      rw [hx] at hrun
      refine ⟨_, hrun, h1, h2, h3, h4, h5, h6, h7, h8, h9, h10, h11, fun job ha hjob => absurd ⟨ha, job, hjob⟩ hwait, fun _ => ⟨?_, ?_, ?_⟩⟩
      · rw [State.quiesceEnd_writer, hxwriter]
      · rintro rfl
        refine ⟨?_, ?_, fun c => ?_, ?_⟩
        · rw [State.quiesceEnd_piu, if_pos rfl, hslot, hxpiu]
          rfl
        · rw [State.quiesceEnd_nu_flush, hxnu]
        · rw [State.quiesceEnd_flushOwed, if_pos ⟨rfl, rfl⟩, List.mem_append, hparty, hxowed.1]
        · rw [State.quiesceEnd_requeueOwed, if_neg (by simp), hxowed.2]
      · rintro rfl
        refine ⟨?_, ?_, fun c => ?_, ?_⟩
        · rw [State.quiesceEnd_piu, if_pos rfl, hslot, hxpiu]
          rfl
        · rw [State.quiesceEnd_nu_retain, hxnu, hxpiu]
          exact if_pos ⟨rfl, rfl⟩
        · rw [State.quiesceEnd_requeueOwed, if_pos ⟨rfl, rfl⟩, List.mem_append, hparty, hxowed.2]
        · rw [State.quiesceEnd_flushOwed, if_neg (by simp), hxowed.1]

end Sys2Proof.Machine

/-! # Operations that see only part of a port (O55, O58) -/

namespace Sys2Proof.Machine

/-! ## A port beside itself

The operations on the entries reach a port through events, counts and slot words. They see the port's state, its grant and its Notice Unit, and a change of
the port that keeps what they see can be made before or after them. -/

theorem Table.write_comm {α : Type} {n : Nat} (t : Table α n) {i j : Fin n} (h : i ≠ j) (a b : α) : (t.write i a).write j b = (t.write j b).write i a :=
  Table.ext fun k => by
    by_cases hi : k = i <;> by_cases hj : k = j <;> simp [hi, hj]
    · exact absurd (hi.symm.trans hj) h
    · exact fun hij => absurd hij h
    · exact fun hji => absurd hji.symm h

theorem State.modPort_comm (s : State) {p q : PortId} (h : p ≠ q) (f g : Port → Port) : (s.modPort p f).modPort q g = (s.modPort q g).modPort p f := by
  have hp : (s.modPort q g).port p = s.port p := by rw [State.modPort_port, if_neg h]
  have hq : (s.modPort p f).port q = s.port q := by rw [State.modPort_port, if_neg h.symm]
  have hwrite := Table.write_comm s.ports h (f (s.port p)) (g (s.port q))
  calc (s.modPort p f).modPort q g = (s.modPort p f).setPort q (g (s.port q)) := by rw [State.modPort, hq]
    _ = { s with ports := (s.ports.write p (f (s.port p))).write q (g (s.port q)) } := rfl
    _ = { s with ports := (s.ports.write q (g (s.port q))).write p (f (s.port p)) } := by rw [hwrite]
    _ = (s.modPort q g).setPort p (f (s.port p)) := rfl
    _ = (s.modPort q g).modPort p f := congrArg (fun x => (s.modPort q g).setPort p (f x)) hp.symm

/-- A count toward a vector, in the blocks of its port (R133). -/
def Port.counted (x : Port) (v : VectorId) : Port := if x.piu.state = .attached then { x with nu := x.nu.count v } else x

theorem State.countVector_eq (s : State) (q : PortId) (v : VectorId) : s.countVector q v = s.modPort q fun x => x.counted v := by
  unfold State.countVector
  split
  · next h => exact congrArg (s.setPort q) (if_pos (c := (s.port q).piu.state = .attached) h).symm
  · next h => exact (State.modPort_self (if_neg (c := (s.port q).piu.state = .attached) h)).symm

/-- A change of a Notice Unit that sees neither its vectors nor its flush request. -/
def SeesNoVector (f : Nu → Nu) : Prop :=
  ∀ (nu : Nu) (vs : Table Coalescer 4) (b : Bool), f { nu with vectors := vs, flushRequest := b } = { f nu with vectors := vs, flushRequest := b }

/-- A change `g` of a port in state `st` that can be made before or after events, counts and slot words. -/
structure Port.Aside (st : PortState) (g : Port → Port) : Prop where
  detached : ∀ x, x.piu.state = st → ((g x).piu.state = .detached ↔ x.piu.state = .detached)
  grant : ∀ x, (g x).nu.grant = x.nu.grant
  nu : ∀ (x : Port) (f : Nu → Nu), SeesNoVector f → g { x with nu := f x.nu } = { g x with nu := f (g x).nu }
  counted : ∀ (x : Port) v, x.piu.state = st → g (x.counted v) = (g x).counted v

/-- `a` is `b`, in which port `p` is in state `st`, after the change `g` of that port. -/
structure State.Beside (b : State) (p : PortId) (st : PortState) (g : Port → Port) (a : State) : Prop where
  aside : Port.Aside st g
  state : (b.piu p).state = st
  eq : a = b.modPort p g

section beside

variable {a b : State} {p : PortId} {st : PortState} {g : Port → Port}

theorem State.Beside.entry (h : b.Beside p st g a) (c : ChannelId) : a.entry c = b.entry c := by rw [h.eq]; rfl
theorem State.Beside.use (h : b.Beside p st g a) (c : ChannelId) : a.use c = b.use c := by rw [h.eq]; rfl
theorem State.Beside.pool (h : b.Beside p st g a) : a.pool = b.pool := by rw [h.eq]; rfl
theorem State.Beside.record (h : b.Beside p st g a) (r : RecordId) : a.record r = b.record r := by rw [h.eq]; rfl
theorem State.Beside.useOfRecord (h : b.Beside p st g a) (rec : Record) : a.useOfRecord rec = b.useOfRecord rec := by rw [h.eq]; rfl

theorem State.Beside.port (h : b.Beside p st g a) (q : PortId) : a.port q = if q = p then g (b.port p) else b.port q := by
  rw [h.eq, State.modPort_port]

theorem State.Beside.grant (h : b.Beside p st g a) (q : PortId) : (a.nu q).grant = (b.nu q).grant := by
  rw [State.nu, h.port]
  split
  · next hq => exact hq ▸ h.aside.grant _
  · rfl

theorem State.Beside.detached (h : b.Beside p st g a) (q : PortId) : (a.piu q).state = .detached ↔ (b.piu q).state = .detached := by
  rw [State.piu, h.port]
  split
  · next hq =>
    subst hq
    exact h.aside.detached _ h.state
  · rfl

/-- A step that does not see the port. -/
theorem State.Beside.step (h : b.Beside p st g a) {f : State → State} (hf : f (b.modPort p g) = (f b).modPort p g)
    (hstate : ((f b).piu p).state = (b.piu p).state) : (f b).Beside p st g (f a) :=
  ⟨h.aside, hstate.trans h.state, (congrArg f h.eq).trans hf⟩

theorem State.Beside.modUse (h : b.Beside p st g a) {c : ChannelId} {f : Use → Use} : (b.modUse c f).Beside p st g (a.modUse c f) :=
  h.step (f := fun s => s.modUse c f) rfl rfl

theorem State.Beside.setEntry (h : b.Beside p st g a) {c : ChannelId} {e : Entry} : (b.setEntry c e).Beside p st g (a.setEntry c e) :=
  h.step (f := fun s => s.setEntry c e) rfl rfl

theorem State.Beside.modCounters (h : b.Beside p st g a) {c : ChannelId} {f : Counters → Counters} :
    (b.modCounters c f).Beside p st g (a.modCounters c f) := h.step (f := fun s => s.modCounters c f) rfl rfl

theorem State.Beside.modRecord (h : b.Beside p st g a) {r : RecordId} {f : Record → Record} : (b.modRecord r f).Beside p st g (a.modRecord r f) :=
  h.step (f := fun s => s.modRecord r f) rfl rfl

theorem State.Beside.free (h : b.Beside p st g a) {rs : List RecordId} :
    (b.setPool (b.pool.free rs)).Beside p st g (a.setPool (a.pool.free rs)) := h.step (f := fun s => s.setPool (s.pool.free rs)) rfl rfl

theorem State.Beside.dropRecords (h : b.Beside p st g a) {c : ChannelId} {rs : List RecordId} :
    (b.dropRecords c rs).Beside p st g (a.dropRecords c rs) := h.step (f := fun s => s.dropRecords c rs) rfl rfl

/-- A step on one port that commutes with the change. -/
theorem State.Beside.modPort (h : b.Beside p st g a) {q : PortId} {f : Port → Port} (hf : q = p → g (f (b.port p)) = f (g (b.port p)))
    (hstate : q = p → (f (b.port p)).piu.state = (b.piu p).state) : (b.modPort q f).Beside p st g (a.modPort q f) := by
  refine h.step (f := fun s => s.modPort q f) ?_ ?_
  · by_cases hq : q = p
    · subst hq
      rw [State.modPort_modPort, State.modPort_modPort]
      exact congrArg (b.setPort q) (hf rfl).symm
    · exact State.modPort_comm b (Ne.symm hq) _ _
  · rw [State.piu, State.modPort_port]
    split
    · next hq => subst hq; exact hstate rfl
    · rfl

/-- A change of a Notice Unit that sees neither the vectors nor the flush request. -/
theorem State.Beside.modNu (h : b.Beside p st g a) {q : PortId} {f : Nu → Nu} (hf : SeesNoVector f) : (b.modNu q f).Beside p st g (a.modNu q f) :=
  h.modPort (fun _ => h.aside.nu _ f hf) fun _ => rfl

theorem State.Beside.modConsumerWord (h : b.Beside p st g a) {q : Party} {f : ConsumerWord → ConsumerWord} :
    (b.modConsumerWord q f).Beside p st g (a.modConsumerWord q f) := h.modNu fun _ _ _ => rfl

theorem State.Beside.modProducerWord (h : b.Beside p st g a) {q : Party} {f : ProducerWord → ProducerWord} :
    (b.modProducerWord q f).Beside p st g (a.modProducerWord q f) := h.modNu fun _ _ _ => rfl

theorem State.Beside.countVector (h : b.Beside p st g a) {q : PortId} {v : VectorId} : (b.countVector q v).Beside p st g (a.countVector q v) := by
  rw [State.countVector_eq, State.countVector_eq]
  exact h.modPort (fun _ => h.aside.counted _ v h.state) fun _ => by unfold Port.counted; split <;> rfl

/-- A count toward the vector of a slot. -/
theorem State.Beside.countSlot (h : b.Beside p st g a) (q : Party) :
    (b.countVector q.port (slotVector (b.nu q.port).grant q.slot)).Beside p st g (a.countVector q.port (slotVector (a.nu q.port).grant q.slot)) := by
  rw [h.grant]
  exact h.countVector

theorem SeesNoVector.take (kind : EventKind) (qualifier channel : Byte) (detail : Half) : SeesNoVector fun nu => nu.take kind qualifier channel detail :=
  fun nu vs b => by
    simp only [Nu.take]
    split <;> rfl

theorem State.Beside.event (h : b.Beside p st g a) {q : PortId} {kind : EventKind} {qualifier channel : Byte} {detail : Half} {slot : Option SlotId} :
    (b.event q kind qualifier channel detail slot).Beside p st g (a.event q kind qualifier channel detail slot) := by
  unfold State.event
  by_cases hd : (b.piu q).state = .detached
  · rw [if_pos hd, if_pos ((h.detached q).mpr hd)]
    exact h
  · rw [if_neg hd, if_neg (mt (h.detached q).mp hd), h.grant]
    exact (h.modNu (SeesNoVector.take kind qualifier channel detail)).countVector

theorem State.Beside.tellParty (h : b.Beside p st g a) {q : Option Party} {kind : EventKind} {qualifier : Byte} {c : ChannelId} {detail : Half} :
    (b.tellParty q kind qualifier c detail).Beside p st g (a.tellParty q kind qualifier c detail) := by
  cases q with
  | none => exact h
  | some q => exact h.event

theorem State.Beside.unbindConsumer (h : b.Beside p st g a) {q : Option Party} : (b.unbindConsumer q).Beside p st g (a.unbindConsumer q) := by
  cases q with
  | none => exact h
  | some q => exact h.modConsumerWord (q := q) (f := fun x => { x with bound := false })

theorem State.Beside.unbindProducer (h : b.Beside p st g a) {q : Option Party} : (b.unbindProducer q).Beside p st g (a.unbindProducer q) := by
  cases q with
  | none => exact h
  | some q => exact h.modProducerWord (q := q) (f := fun x => { x with bound := false })

theorem State.Beside.handHold (h : b.Beside p st g a) {q : Option Party} {held : Bool} : (b.handHold q held).Beside p st g (a.handHold q held) := by
  cases q with
  | none => exact h
  | some q => exact h.modProducerWord (q := q) (f := fun x => { x with hold := held })

theorem State.Beside.handWriteIndex (h : b.Beside p st g a) {q : Option Party} {w : Half} :
    (b.handWriteIndex q w).Beside p st g (a.handWriteIndex q w) := by
  cases q with
  | none => exact h
  | some q => exact h.modConsumerWord (q := q) (f := fun x => { x with writeIndex := w })

theorem State.Beside.freeEntry (h : b.Beside p st g a) {c : ChannelId} : (b.freeEntry c).Beside p st g (a.freeEntry c) := by
  unfold State.freeEntry
  rw [h.use, h.entry]
  cases b.use c with
  | none => exact h
  | some u => exact h.unbindProducer.unbindConsumer.setEntry

theorem State.Beside.freeWithNotice (h : b.Beside p st g a) {c : ChannelId} {cause : FreedCause} :
    (b.freeWithNotice c cause).Beside p st g (a.freeWithNotice c cause) := by
  unfold State.freeWithNotice
  rw [h.use, h.entry]
  cases b.use c with
  | none => exact h
  | some u => exact h.tellParty.tellParty.freeEntry

theorem State.Beside.endHold (h : b.Beside p st g a) {c : ChannelId} {expiry : Bool} : (b.endHold c expiry).Beside p st g (a.endHold c expiry) := by
  unfold State.endHold
  rw [h.use]
  cases b.use c with
  | none => exact h
  | some u => exact h.modUse.handHold.tellParty

theorem State.Beside.releaseCheck (h : b.Beside p st g a) {c : ChannelId} : (b.releaseCheck c).Beside p st g (a.releaseCheck c) := by
  unfold State.releaseCheck State.releaseCheckAt
  rw [h.use, h.pool]
  cases b.use c with
  | none => exact h
  | some u =>
    dsimp only
    split
    · exact h.endHold
    · exact h

theorem State.Beside.drainCheck (h : b.Beside p st g a) {c : ChannelId} : (b.drainCheck c).Beside p st g (a.drainCheck c) := by
  unfold State.drainCheck
  rw [h.use]
  cases b.use c with
  | none => exact h
  | some u =>
    dsimp only
    split
    · exact h.freeWithNotice
    · exact h

theorem State.Beside.freeCheck (h : b.Beside p st g a) {c : ChannelId} : (b.freeCheck c).Beside p st g (a.freeCheck c) := by
  unfold State.freeCheck
  rw [h.use]
  cases b.use c with
  | none => exact h
  | some u =>
    dsimp only
    split
    · exact h.freeWithNotice
    · exact h

theorem State.Beside.checkAfterFall (h : b.Beside p st g a) {c : ChannelId} : (b.checkAfterFall c).Beside p st g (a.checkAfterFall c) := by
  unfold State.checkAfterFall
  rw [h.use]
  cases b.use c with
  | none => exact h
  | some u =>
    dsimp only
    cases u.stage with
    | offered o => exact h
    | opened => exact h.releaseCheck
    | closing => exact h.drainCheck
    | ending => exact h.freeCheck
    | orphaned => exact h

theorem State.Beside.landOn (h : b.Beside p st g a) {r : RecordId} {rec : Record} {u : Use} : (b.landOn r rec u).Beside p st g (a.landOn r rec u) := by
  unfold State.landOn
  refine State.Beside.checkAfterFall ?_
  cases u.terms.cls with
  | plain =>
    cases u.consumer with
    | none => exact h.modUse.modCounters.dropRecords.handWriteIndex
    | some q => exact h.modUse.modCounters.dropRecords.handWriteIndex.countSlot q
  | confirmed w =>
    cases u.consumer with
    | none => exact h.modUse.modCounters.modRecord.modUse.handWriteIndex
    | some q => exact h.modUse.modCounters.modRecord.modUse.handWriteIndex.countSlot q

theorem State.Beside.completeLanding (h : b.Beside p st g a) {r : RecordId} : (b.completeLanding r).Beside p st g (a.completeLanding r) := by
  unfold State.completeLanding
  rw [h.record]
  cases b.record r with
  | none => exact h
  | some rec =>
    dsimp only
    rw [h.useOfRecord]
    cases b.useOfRecord rec with
    | none => exact h.free
    | some u =>
      dsimp only
      cases u.stage with
      | offered o => exact h.dropRecords.modUse
      | opened => exact h.landOn
      | closing => exact h.landOn
      | ending => exact State.Beside.freeCheck h.dropRecords.modUse
      | orphaned => exact h.dropRecords.modUse

end beside

/-! ## A port that is QUIESCING instead of ATTACHED

A count reaches a vector on an ATTACHED port only (R133). What a landing does when the port is QUIESCING is what it does when it is ATTACHED, with
the vectors and the flush request of the port put back. -/

/-- The port is QUIESCING, with these vectors and this flush request. -/
def Port.muffle (vs : Table Coalescer 4) (f : Bool) (b : Port) : Port :=
  { b with piu := { b.piu with state := .quiescing }, nu := { b.nu with vectors := vs, flushRequest := f } }

theorem Port.Aside.muffle (vs : Table Coalescer 4) (f : Bool) : Port.Aside .attached (Port.muffle vs f) where
  detached := fun x hx => by simp [Port.muffle, hx]
  grant := fun _ => rfl
  nu := fun x k hk => congrArg (fun nu => ({ x with piu := { x.piu with state := .quiescing }, nu := nu } : Port)) (hk x.nu vs f).symm
  counted := fun x v hx => by
    have hcount : x.counted v = { x with nu := x.nu.count v } := if_pos hx
    have hquiet : (x.muffle vs f).counted v = x.muffle vs f := if_neg (by simp [Port.muffle])
    rw [hcount, hquiet, Port.muffle, Nu.count_eq x.nu v rfl]
    rfl

/-- A port that is QUIESCING, and the same port if it were ATTACHED. -/
theorem State.Beside.ofQuiescing {s : State} {p : PortId} (h : (s.piu p).state = .quiescing) :
    (s.modPiu p fun u => { u with state := .attached }).Beside p .attached (Port.muffle (s.nu p).vectors (s.nu p).flushRequest) s := by
  refine ⟨.muffle _ _, by simp, ?_⟩
  rw [State.modPiu, State.modPort_modPort]
  refine (State.modPort_self ?_).symm
  have hport : s.port p = ⟨s.piu p, s.writer p, s.nu p, (s.port p).flushOwed, (s.port p).requeueOwed⟩ := rfl
  rw [Port.muffle, hport]
  dsimp only
  rw [← h]

/-! ## A port whose Port Writer differs -/

theorem Port.Aside.writer (st : PortState) (f : Writer → Writer) : Port.Aside st fun x => { x with writer := f x.writer } where
  detached := fun _ _ => Iff.rfl
  grant := fun _ => rfl
  nu := fun _ _ _ => rfl
  counted := fun x v _ => by
    unfold Port.counted
    split <;> rfl

theorem State.Beside.ofWriter (s : State) (p : PortId) (f : Writer → Writer) :
    s.Beside p (s.piu p).state (fun x => { x with writer := f x.writer }) (s.modWriter p f) := ⟨.writer _ f, rfl, rfl⟩

end Sys2Proof.Machine

/-! # The end of a quiesce (O55) -/

namespace Sys2Proof.Machine

/-! ## The failure of a landing on an ENDING entry -/

/-- Nothing changes but Port Writers, requests that ports are owed, pins and what a Port Interface Unit holds beside its state. -/
structure State.SameTables (s t : State) : Prop where
  entry : ∀ d, t.entry d = s.entry d
  nu : ∀ q, t.nu q = s.nu q
  pool : s.PoolSame t
  state : ∀ q, (t.piu q).state = (s.piu q).state

/-- What the failure of a landing on an ENDING entry leaves: the record is freed, and the entry as well when nothing is left on it (R49, R50). -/
structure State.LandingDropped (s t : State) (r : RecordId) (rec : Record) (u : Use) : Prop where
  pool : s.PoolFreed t [r]
  freed : u.queue.erase r = [] ∧ u.fill = false → s.BecameFree t rec.channel u ∧
    s.EventsMade t (freedNotices u rec.channel (freedDetail (s.entry rec.channel).generation .finish))
  stays : ¬ (u.queue.erase r = [] ∧ u.fill = false) → s.EntriesSameBut t rec.channel ∧ (∀ q, t.nu q = s.nu q) ∧ t.entry rec.channel =
    { s.entry rec.channel with use := some { u with queue := u.queue.erase r, held := u.held - segmentCount rec.length } }

section landing

variable {s s' t t' : State} {p : PortId} {r : RecordId} {rec : Record} {u : Use} {kind : FaultKind} {mode : DetachMode}

/-- Events are those of the Notice Units and the port states alone. -/
theorem State.EventsMade.sameNus {ns : PortId → List Notice} (h : s.EventsMade t ns) (hs : ∀ q, s.nu q = s'.nu q)
    (hstate : ∀ q, (s.piu q).state = (s'.piu q).state) (ht : ∀ q, t'.nu q = t.nu q) : s'.EventsMade t' ns := fun q => by
  have hafter : s.nuAfter q (ns q) = s'.nuAfter q (ns q) := by rw [State.nuAfter, State.nuAfter, hs, hstate]
  rw [ht, ← hafter]
  exact h q

/-- An entry that became FREE is FREE after a step that leaves the entries and the slot words. -/
theorem State.BecameFree.followed {c : ChannelId} (h : s.BecameFree t c u) (hentry : ∀ d, t'.entry d = t.entry d) (hwords : t.WordsSame t') :
    s.BecameFree t' c u := by
  obtain ⟨hfree, hothers, hset⟩ := h
  exact ⟨(hentry c).trans hfree, fun d hd => (hentry d).trans (hothers d hd), State.WordsSet.congr hset (.refl _) hwords⟩

theorem State.LandingDropped.congr (h : s.LandingDropped t r rec u) (hs : s'.SameTables s) (ht : t.SameTables t') : s'.LandingDropped t' r rec u where
  pool := h.pool.congr hs.pool ht.pool
  freed := fun hfreed => by
    obtain ⟨hfree, hevents⟩ := h.freed hfreed
    have hwords : ∀ {s t : State}, s.SameTables t → s.WordsSame t := fun h q => ⟨congrArg Nu.consumerWords (h.nu q), congrArg Nu.producerWords (h.nu q)⟩
    rw [hs.entry] at hevents
    exact ⟨(hfree.before (u := u) (congrArg Entry.generation (hs.entry _)) rfl rfl (fun d _ => hs.entry d) (hwords hs)).followed ht.entry (hwords ht),
      hevents.sameNus hs.nu hs.state ht.nu⟩
  stays := fun hmore => by
    obtain ⟨hothers, hnu, hentry⟩ := h.stays hmore
    refine ⟨fun d hd => ((ht.entry d).trans (hothers d hd)).trans (hs.entry d), fun q => ((ht.nu q).trans (hnu q)).trans (hs.nu q), ?_⟩
    rw [ht.entry, hentry, hs.entry]

/-- A failure on an ENDING entry (R49, R50). -/
theorem State.LandingDropped.failLanding (hrec : s.record r = some rec) (hg : (s.entry rec.channel).generation = rec.generation)
    (hu : s.use rec.channel = some u) (hstage : u.stage = .ending) : s.LandingDropped (s.failLanding r) r rec u := by
  rw [State.failLanding_ending hrec hg hu hstage]
  by_cases hfreed : u.queue.erase r = [] ∧ u.fill = false
  · rw [State.dropLanding_frees hu hstage hrec hfreed]
    exact ⟨(State.dropLanding_poolFreed (c := rec.channel)).congr ⟨rfl, rfl, rfl⟩ (by simp [State.PoolSame]),
      fun _ => ⟨State.dropLanding_becameFree hu hrec, (State.dropLanding_told hu hrec).events⟩, fun hmore => absurd hfreed hmore⟩
  · rw [State.dropLanding_stays hu hstage hrec hfreed]
    refine ⟨State.dropLanding_poolFreed, fun h => absurd h hfreed, fun _ => ⟨fun d hd => ?_, fun _ => rfl, ?_⟩⟩
    · rw [State.dropLanding_entry hu hrec, if_neg hd]
    · rw [State.dropLanding_entry hu hrec, if_pos rfl]

/-- A stopped Port Writer with its fault record leaves the tables (R85). -/
theorem State.SameTables.writerFaulted (s : State) (p : PortId) (kind : FaultKind) (address : Word) : s.SameTables (s.writerFaulted p kind address) where
  entry := fun _ => rfl
  nu := fun q => by simp [State.writerFaulted]
  pool := ⟨rfl, rfl, rfl⟩
  state := fun q => by simp [State.writerFaulted]

theorem State.SameTables.refl (s : State) : s.SameTables s := ⟨fun _ => rfl, fun _ => rfl, ⟨rfl, rfl, rfl⟩, fun _ => rfl⟩

/-- A failure on an OPEN or CLOSING entry, in the pool's records (R84). -/
theorem State.failLanding_records (hrec : s.record r = some rec) (hg : (s.entry rec.channel).generation = rec.generation)
    (hu : s.use rec.channel = some u) (hstage : u.stage = .opened ∨ u.stage = .closing) :
    s.failLanding r = { s with pool := { s.pool with records := s.pool.records.write r (some { rec with state := .queued }) } } := by
  have hread : s.pool.records.read r = some rec := hrec
  rw [State.failLanding_queues hrec hg hu hstage, State.modRecord, hread]
  rfl

/-! ## The end of a job on a QUIESCING port -/

/-- A failure on a port that is not ATTACHED ends its quiesce (R87). -/
theorem State.failJob_settles (hstate : (s.piu p).state ≠ .attached) {job : Job} {x : LinkWrite} {xs : List LinkWrite} (hw : job.writes = x :: xs) :
    s.failJob p kind job = ((s.writerFaulted p kind x.address).failWork job.kind).settle p := by
  have hattached : ((s.writerFaulted p kind x.address).failWork job.kind).attached p = false := by
    simp [State.attached, State.writerFaulted, hstate]
  unfold State.failJob
  rw [hw]
  exact if_neg (ne_true_of_eq_false hattached)

/-- A quiesce hands no failure and takes none (R157). -/
theorem State.settle_faultHanded : ((s.settle p).piu p).faultHanded = (s.piu p).faultHanded := by
  unfold State.settle
  split
  · rfl
  · split
    · split
      · rfl
      · next mode _ =>
        rw [State.quiesceEnd_piu, if_pos rfl]
        cases mode <;> rfl
    · rfl

/-- A job that completes on a port that is not ATTACHED stops the Port Writer and ends the quiesce (R87). -/
theorem State.completeJob_settles (hstate : (s.piu p).state ≠ .attached) (kind : JobKind) :
    s.completeJob p kind = ((s.completeWork p kind).modWriter p fun w => { w with state := .stopped }).settle p := by
  have hattached : (s.completeWork p kind).attached p = false := by simp [State.attached, hstate]
  rw [State.completeJob, State.releaseWriter, hattached]
  rfl

/-- A flush that serves no vector (R136). -/
theorem Nu.completeFlush_quiet (nu : Nu) (m : Nat) (tag : Byte) :
    nu.completeFlush m tag [] = { nu with backlog := nu.backlog.drop m, eventWrite := nu.eventWrite + BitVec.ofNat 8 m, tag := tag } := by
  have hvectors : (nu.completeFlush m tag []).vectors = nu.vectors := Table.ext fun v => by simp [Nu.completeFlush]
  exact congrArg (fun x => { nu with backlog := nu.backlog.drop m, eventWrite := nu.eventWrite + BitVec.ofNat 8 m, tag := tag, vectors := x }) hvectors

/-- A quiesce that waits, or has no detach decided, does nothing (R148). -/
theorem exec_quiesceEnd_waits (h : (s.piu p).resetPin = true ∨ (s.writer p).isBusy = true ∨ (s.piu p).leaveMode = none) :
    exec (.quiesceEnd p) s = .next s := by
  refine congrArg Host.Outcome.next ?_
  by_cases hwait : (s.piu p).resetPin = true ∨ (s.writer p).isBusy = true
  · exact State.settle_waits hwait
  · have hmode : (s.piu p).leaveMode = none := by tauto
    rw [State.settle, if_neg hwait, hmode]
    exact ite_id _

end landing

/-- Settles O55: the end of the quiesce by mode, then the end of the last job by its kind. -/
theorem quiesceEndReachesTheStateOfTheDetach : Obligations.QuiesceEndReachesTheStateOfTheDetach := by
  intro p s hstates
  refine ⟨exec_quiesceEnd_waits, fun mode hmode hpin hbusy => ?_, fun job x xs hstate hjob hw hhanded => ?_⟩
  · intro slot waits slot' quiet
    have hrun : exec (.quiesceEnd p) s = .next (s.quiesceEnd p mode) := congrArg Host.Outcome.next (State.settle_ends hpin hbusy hstates hmode)
    refine ⟨_, hrun, ?_, fun q hq => by rw [State.quiesceEnd_piu, if_neg hq], ?_, fun q hq => State.quiesceEnd_nu_other mode hq,
      fun q => State.quiesceEnd_writer .., State.quiesceEnd_entries .., by simp [State.PoolSame], fun c => ?_, fun c => ?_⟩
    · rw [State.quiesceEnd_piu, if_pos rfl]
      cases mode <;> rfl
    · cases mode with
      | flush => exact State.quiesceEnd_nu_flush
      | retain => exact State.quiesceEnd_nu_retain
    · rw [State.quiesceEnd_flushOwed]
      cases mode <;> simp [State.mem_partyEntries]
    · rw [State.quiesceEnd_requeueOwed]
      cases mode <;> simp [State.mem_partyEntries]
  · intro a stopped failed done
    have hquiescing : (s.piu p).state ≠ .attached := by rw [hstate]; decide
    have hfailed : ∀ kind, s.failJob p kind job = (failed kind).settle p := fun kind => State.failJob_settles hquiescing hw
    have hnofault : ∀ kind, ((failed kind).settle p).takeFault p = (failed kind).settle p := fun kind =>
      State.takeFault_none (State.settle_faultHanded.trans (by simp [failed, stopped, hhanded]))
    have hfails : ∀ kind taken, (kind = .busError ∨ (kind = .timeout ∧ job.timeout.RanOut)) →
        exec (if kind = .timeout then .writeTimeout ⟨p, taken⟩ else .linkWriteError ⟨p, (s.writer p).jobs, taken⟩) s =
          exec (.quiesceEnd p) (failed kind) := fun kind taken hkind => by
      rw [exec_linkFailure hkind hjob, hfailed, hnofault]
      exact congrArg Host.Outcome.next (ite_id _)
    have htables : ∀ kind, s.SameTables (stopped kind) := fun kind => .writerFaulted s p kind x.address
    refine ⟨fun taken => hfails .busError taken (.inl rfl), fun taken hout => hfails .timeout taken (.inr ⟨rfl, hout⟩),
      fun kind hother => State.failWork_other hother, fun kind c g r i rec u hkind hrec hg hu => ?_, fun hlast => ?_⟩
    · intro freed d
      have hwork : failed kind = (stopped kind).failLanding r := by simp only [failed, hkind]; rfl
      have hrec' : (stopped kind).record r = some rec := hrec
      have hu' : (stopped kind).use rec.channel = some u := hu
      refine ⟨fun hstage => hwork.trans (State.failLanding_records hrec' hg hu' hstage), fun hstage => ?_⟩
      have hdropped := (State.LandingDropped.failLanding hrec' hg hu' hstage).congr (htables kind) (.refl _)
      rw [hwork]
      exact ⟨fun q => by simp, by simp [State.DeviceSame], hdropped.pool, hdropped.freed, hdropped.stays⟩
    · subst hlast
      have hnotattached : s.attached p = false := decide_eq_false hquiescing
      refine ⟨?_, fun m tag vs hkind => ?_, fun v hkind => ?_, fun c g r i t hkind hrun => ?_⟩
      · exact (execLinkWriteOk_last hjob hw).trans (congrArg Host.Outcome.next (State.completeJob_settles hquiescing job.kind))
      · simp only [done, hkind, State.completeWork, hnotattached, Bool.false_eq_true, if_false, Nu.completeFlush_quiet]
      · simp only [done, hkind]
        rfl
      · let b := s.modPiu p fun u => { u with state := .attached }
        have hbusy : (b.writer p).state = .busy job := by simp [b, hjob]
        have hmuffled : (b.completeLanding r).Beside p .attached (Port.muffle (s.nu p).vectors (s.nu p).flushRequest) (s.completeLanding r) :=
          (State.Beside.ofQuiescing hstate).completeLanding
        have hdone : done = s.completeLanding r := by simp only [done, hkind]; rfl
        have hjobs : (b.writer p).jobs = (s.writer p).jobs := by simp [b]
        have hattached : ((b.completeWork p job.kind).piu p).state = .attached := by simp [b]
        have ht : t = (b.completeLanding r).modWriter p fun w => { w with state := .idle } := by
          have hok := execLinkWriteOk_last hbusy hw
          rw [hjobs, State.completeJob_attached hattached, hkind] at hok
          exact Host.Outcome.next.inj (hrun.symm.trans hok)
        have heq : done = (b.completeLanding r).modPort p (Port.muffle (s.nu p).vectors (s.nu p).flushRequest) := hdone.trans hmuffled.eq
        have hnu : ∀ q, t.nu q = (b.completeLanding r).nu q := fun q => by rw [ht, State.modWriter_nu]
        refine ⟨by rw [heq, ht]; rfl, by rw [heq, ht]; rfl, by rw [heq, ht]; rfl, by rw [heq, ht]; rfl, fun q => by simp [done],
          by simp [State.DeviceSame, done], fun q hq => ?_, ?_⟩
        · rw [heq, hnu, State.nu, State.modPort_port, if_neg hq]
          rfl
        · rw [heq, hnu, State.nu, State.modPort_port, if_pos rfl]
          rfl

end Sys2Proof.Machine

/-! # A FLUSH detachment on an entry (O57) -/

namespace Sys2Proof.Machine

section detachment

variable {s t : State} {p : PortId} {c : ChannelId} {u : Use}

/-- The state in which a detachment runs: the entry owes it no more. -/
abbrev State.detachmentTaken (s : State) (p : PortId) (c : ChannelId) : State := s.modPort p fun b => { b with flushOwed := b.flushOwed.erase c }

theorem State.detachmentTaken_blocks (s : State) (p : PortId) (c : ChannelId) (q : PortId) :
    (s.detachmentTaken p c).piu q = s.piu q ∧ (s.detachmentTaken p c).writer q = s.writer q ∧ (s.detachmentTaken p c).nu q = s.nu q :=
  State.modPort_blocks s p q _ fun _ => ⟨rfl, rfl, rfl⟩

theorem State.Told.detachmentTaken (s : State) (p : PortId) (c : ChannelId) : s.Told (s.detachmentTaken p c) fun _ => [] :=
  (State.Told.refl s).silent (.ofEq fun q => (s.detachmentTaken_blocks p c q).2.2) fun q => congrArg Piu.state (s.detachmentTaken_blocks p c q).1

theorem State.WordsSame.detachmentTaken (s : State) (p : PortId) (c : ChannelId) : s.WordsSame (s.detachmentTaken p c) := fun q => by
  rw [(s.detachmentTaken_blocks p c q).2.2]
  exact ⟨rfl, rfl⟩

/-- An entry that becomes FREE in the state in which a detachment runs becomes FREE (R25). -/
theorem State.BecameFree.detachmentTaken (h : (s.detachmentTaken p c).BecameFree t c u) : s.BecameFree t c u :=
  h.before rfl rfl rfl (fun _ _ => rfl) (.detachmentTaken s p c)

theorem exec_detachmentOnEntry_notOwed (h : c ∉ (s.port p).flushOwed) : exec (.detachmentOnEntry p c) s = .next s :=
  congrArg Host.Outcome.next (if_neg (by simpa using h))

theorem exec_detachmentOnEntry_notReached (h : c ∈ (s.port p).flushOwed) (hu : ∀ u, s.use c = some u → u.isParty p = false) :
    exec (.detachmentOnEntry p c) s = .next (s.detachmentTaken p c) := by
  refine congrArg Host.Outcome.next ((if_pos (by simpa using h)).trans ?_)
  have huse : (s.detachmentTaken p c).use c = s.use c := rfl
  dsimp only
  rw [huse]
  cases hc : s.use c with
  | none => rfl
  | some u => exact if_neg (by rw [hu u hc]; decide)

theorem exec_detachmentOnEntry_reached (h : c ∈ (s.port p).flushOwed) (hu : s.use c = some u) (hparty : u.isParty p = true) :
    exec (.detachmentOnEntry p c) s = .next ((s.detachmentTaken p c).detachOn p c u) := by
  refine congrArg Host.Outcome.next ((if_pos (by simpa using h)).trans ?_)
  have huse : (s.detachmentTaken p c).use c = some u := hu
  dsimp only
  rw [huse]
  exact if_pos hparty

/-! ## The effect by stage and role -/

/-- The offeror withdraws its offer (R41). -/
theorem State.detachOn_withdraws {o : Offer} (hu : s.use c = some u) (hstage : u.stage = .offered o) (ho : o.offeror = p) :
    s.BecameFree (s.detachOn p c u) c u ∧ s.PoolSame (s.detachOn p c u) ∧
      s.Told (s.detachOn p c u) (noticeToPort o.peer .offerWithdrawn c (generationDetail (s.entry c).generation)) := by
  have hdetach : s.detachOn p c u = (s.portEvent o.peer .offerWithdrawn c (generationDetail (s.entry c).generation)).freeEntry c := by
    simp only [State.detachOn, hstage, ho, if_true, State.withdrawOffer]
  rw [hdetach]
  exact ⟨.after (r := s.portEvent o.peer .offerWithdrawn c _) (by simpa using hu) (by simp) rfl rfl (fun d _ => by simp) (fun q => by simp) (fun _ => rfl) (.refl _),
    by simp [State.PoolSame], (State.Told.refl s).portEvent.freeEntry⟩

/-- The peer declines an offer (R40). -/
theorem State.detachOn_declines {o : Offer} (hu : s.use c = some u) (hstage : u.stage = .offered o) (ho : o.offeror ≠ p) :
    s.BecameFree (s.detachOn p c u) c u ∧ s.PoolSame (s.detachOn p c u) ∧
      s.Told (s.detachOn p c u) (noticeTo (u.producer <|> u.consumer) .offerDeclined 0 c (generationDetail (s.entry c).generation)) := by
  have hdetach : s.detachOn p c u = (s.tellParty (u.producer <|> u.consumer) .offerDeclined 0 c (generationDetail (s.entry c).generation)).freeEntry c := by
    simp only [State.detachOn, hstage, ho, if_false, State.declineOffer, hu, Use.offerorParty_eq]
  rw [hdetach]
  exact ⟨.after (r := s.tellParty (u.producer <|> u.consumer) .offerDeclined 0 c _) (by simpa using hu) (by simp) rfl rfl (fun d _ => by simp) (fun q => by simp)
    (fun _ => rfl) (.refl _), by simp [State.PoolSame], (State.Told.refl s).tellParty.freeEntry⟩

/-- The consumer leaves an OPEN entry ORPHANED (R149). -/
theorem State.detachOn_orphans (hu : s.use c = some u) (hstage : u.stage = .opened) (hconsumer : u.consumedBy p = true) :
    (∀ d, (s.detachOn p c u).entry d =
      if d = c then { s.entry c with use := some (u.orphan (u.held - s.pool.heldBy (u.unconfirmed ++ u.queue))) } else s.entry d) ∧
    s.PoolFreed (s.detachOn p c u) (u.unconfirmed ++ u.queue) ∧
    s.Told (s.detachOn p c u) (noticeTo u.producer .orphaned 0 c (generationDetail (s.entry c).generation)) ∧
    s.WordsSet (s.detachOn p c u) u.consumer (fun x => { x with bound := false }) u.producer fun x => { x with hold := false } := by
  have hdetach : s.detachOn p c u = s.orphanEntry c u := by simp only [State.detachOn, hstage, hconsumer, if_true]
  rw [hdetach]
  refine ⟨State.orphanEntry_entry hu, ?_, ?_, fun q i => ?_, fun q i => ?_⟩
  · exact (State.PoolFreed.dropRecords s c _).congr ⟨rfl, rfl, rfl⟩ (by simp [State.orphanEntry, State.PoolSame])
  · exact (State.Told.refl s).dropRecords.modUse.unbindConsumer.leaveOpen.tellParty
  · simp [State.orphanEntry, State.leaveOpen, hu]
  · simp [State.orphanEntry, State.leaveOpen, hu]

/-- The producer leaves an OPEN entry: the drain check after it (R150). -/
theorem State.detachOn_leaves (hu : s.use c = some u) (hstage : u.stage = .opened) (hconsumer : u.consumedBy p = false) :
    s.detachOn p c u = if u.queue = [] ∧ u.unconfirmed = [] ∧ u.fill = false then (s.leaveOpen c .closing).freeWithNotice c .drain
      else s.leaveOpen c .closing := by
  have huse : (s.leaveOpen c .closing).use c = some { u with stage := .closing, hold := none } := by
    rw [← State.entry_use, State.leaveOpen_entry hu, if_pos rfl]
  have hdetach : s.detachOn p c u = (s.leaveOpen c .closing).drainCheck c := by
    simp only [State.detachOn, hstage, hconsumer, Bool.false_eq_true, if_false]
  simp only [hdetach, State.drainCheck, huse, Use.isEmpty, true_and, Bool.and_eq_true, List.isEmpty_iff, Bool.not_eq_true', and_assoc]

/-- The consumer leaves a CLOSING entry, which becomes FREE (R149). -/
theorem State.detachOn_discards (hu : s.use c = some u) (hstage : u.stage = .closing) (hconsumer : u.consumedBy p = true) :
    s.BecameFree (s.detachOn p c u) c u ∧ s.PoolFreed (s.detachOn p c u) (u.unconfirmed ++ u.queue) ∧
      s.Told (s.detachOn p c u) (noticeTo u.producer .peerClosed 0 c (peerClosedDetail (s.entry c).generation false)) := by
  let x := (s.dropRecords c (u.unconfirmed ++ u.queue)).modUse c fun u => { u with queue := [], unconfirmed := [] }
  have hgeneration : (x.entry c).generation = (s.entry c).generation := by simp [x]
  have hdetach : s.detachOn p c u = (x.tellParty u.producer .peerClosed 0 c (peerClosedDetail (s.entry c).generation false)).freeEntry c := by
    rw [← hgeneration]
    simp only [State.detachOn, hstage, hconsumer, if_true]
    rfl
  rw [hdetach]
  refine ⟨.after (r := x.tellParty u.producer .peerClosed 0 c _) (v := { u with
      held := u.held - s.pool.heldBy (u.unconfirmed ++ u.queue), queue := [], unconfirmed := [] }) (by simp [x, hu]) (by simp [x]) rfl rfl
      (fun d hd => by simp [x, hd]) (fun q => by simp [x]) (fun _ => rfl) (.refl _), ?_, ?_⟩
  · exact (State.PoolFreed.dropRecords s c _).congr ⟨rfl, rfl, rfl⟩ (by simp [State.PoolSame, x])
  · exact (State.Told.refl s).dropRecords.modUse.tellParty.freeEntry

/-- The producer leaves a CLOSING entry, and either party an ENDING one, as it is (R149, R150). -/
theorem State.detachOn_stays (h : (u.stage = .closing ∧ u.consumedBy p = false) ∨ u.stage = .ending) : s.detachOn p c u = s := by
  rcases h with ⟨h, hconsumer⟩ | h
  · simp [State.detachOn, h, hconsumer]
  · simp [State.detachOn, h]

/-- The producer leaves an ORPHANED entry, which becomes FREE (R150). -/
theorem State.detachOn_frees (h : u.stage = .orphaned) : s.detachOn p c u = s.freeEntry c := by simp [State.detachOn, h]

end detachment

/-- Settles O57, by the stage of the entry and the role of the port. -/
theorem detachmentReachesTheEntry : Obligations.DetachmentReachesTheEntry := by
  intro p c s
  refine ⟨exec_detachmentOnEntry_notOwed, exec_detachmentOnEntry_notReached, fun u howed hu hparty => ?_⟩
  intro g rs released
  let x := s.detachmentTaken p c
  have hux : x.use c = some u := hu
  have hblocks := s.detachmentTaken_blocks p c
  have htold : s.Told x fun _ => [] := .detachmentTaken s p c
  have hwords : s.WordsSame x := .detachmentTaken s p c
  have hnowed : ∀ q, q ≠ p → x.port q = s.port q := fun q hq => by simp [x, hq]
  refine ⟨x.detachOn p c u, exec_detachmentOnEntry_reached howed hu hparty, by simp [x], by simp [x], ?_, fun q => ?_, fun o hstage ho => ?_,
    fun o hstage ho => ?_, fun hstage hconsumer => ?_, fun hstage hconsumer hbusy => ?_, fun hstage hconsumer hempty => ?_,
    fun hstage hconsumer => ?_, fun hstays => ?_, fun hstage => ?_⟩
  · refine ⟨by simp [x], by simp [x], by simp [x], by simp [x], by simp [x], fun q => ?_, fun q hq => ?_⟩
    · rw [State.detachOn_writer, (hblocks q).2.1]
    · simp [hnowed q hq]
  · rw [State.detachOn_piu, (hblocks q).1]
  · obtain ⟨hfree, hpool, hevents⟩ := State.detachOn_withdraws hux hstage ho
    exact ⟨hfree.detachmentTaken, hpool, (htold.trans hevents).events⟩
  · obtain ⟨hfree, hpool, hevents⟩ := State.detachOn_declines hux hstage ho
    exact ⟨hfree.detachmentTaken, hpool, (htold.trans hevents).events⟩
  · obtain ⟨hentry, hpool, hevents, hset⟩ := State.detachOn_orphans hux hstage hconsumer
    exact ⟨(hentry c).trans (if_pos rfl), fun d hd => (hentry d).trans (if_neg hd), hpool, (htold.trans hevents).events, hset.congr hwords (.refl _)⟩
  · rw [State.detachOn_leaves hux hstage hconsumer, if_neg hbusy]
    have hentry := State.leaveOpen_entry hux .closing
    exact ⟨(hentry c).trans (if_pos rfl), fun d hd => (hentry d).trans (if_neg hd), by simp [State.PoolSame, x], htold.leaveOpen.events,
      (State.leaveOpen_wordsSet hux .closing).congr hwords (.refl _)⟩
  · rw [State.detachOn_leaves hux hstage hconsumer, if_pos hempty]
    have hentry := State.leaveOpen_entry hux .closing
    have huse : (x.leaveOpen c .closing).use c = some { u with stage := .closing, hold := none } := by rw [← State.entry_use, hentry, if_pos rfl]
    have hgeneration : ((x.leaveOpen c .closing).entry c).generation = g := by rw [hentry, if_pos rfl]; rfl
    have ⟨hfree, hothers, hconsumers, hproducers⟩ := State.BecameFree.freeWithNotice huse .drain
    have ⟨hkept, hreleased⟩ := (State.leaveOpen_wordsSet hux .closing).congr hwords (.refl _)
    have hevents := htold.leaveOpen.trans (.freeWithNotice huse .drain)
    rw [hgeneration] at hfree hevents
    refine ⟨hfree, fun d hd => ?_, by simp [State.PoolSame, x], hevents.events, fun q i => ?_, fun q i => ?_⟩
    · rw [hothers d hd, hentry, if_neg hd]
      rfl
    · rw [hconsumers q i, hkept q i]
      rfl
    · rw [hproducers q i, hreleased q i]
      by_cases hq : u.producer = some ⟨q, i⟩ <;> simp [hq]
  · obtain ⟨hfree, hpool, hevents⟩ := State.detachOn_discards hux hstage hconsumer
    exact ⟨hfree.detachmentTaken, hpool, (htold.trans hevents).events⟩
  · rw [State.detachOn_stays hstays]
    exact ⟨rfl, ⟨rfl, rfl, rfl⟩, fun q => (hblocks q).2.2⟩
  · rw [State.detachOn_frees hstage]
    exact ⟨.after (r := x) hux rfl rfl rfl (fun _ _ => rfl) hwords (fun _ => rfl) (.refl _), by simp [State.PoolSame, x], htold.freeEntry.events⟩

end Sys2Proof.Machine

/-! # Port resets (O58) -/

namespace Sys2Proof.Machine

/-! ## What a port reset decides -/

/-- The blocks of a port for which a port reset has decided a detach, when its state calls for one: an ATTACHED one has left ATTACHED (R154 to R156). -/
def Port.decided (b : Port) : Port :=
  match b.piu.state with
  | .attached => Port.depart { b with piu := { b.piu with leaveMode := some b.piu.resetMode } } .quiescing
  | .quiescing => { b with piu := { b.piu with leaveMode := some b.piu.resetMode } }
  | .faulted => { b with piu := { b.piu with leaveMode := some b.piu.resetMode } }
  | .retained => b
  | .detached => b

/-- The state in which a port reset ends the work of its port (R154). -/
def State.resetDecided (s : State) (p : PortId) : State := s.modPort p Port.decided

section decided

variable {s : State} {p : PortId} {b : Port}

theorem State.resetByState_eq : s.resetByState p = (s.resetDecided p).resetPortWork p := by
  have hport : ∀ f : Port → Port, f (s.port p) = (s.port p).decided → s.modPort p f = s.resetDecided p := fun f hf => congrArg (s.setPort p) hf
  have hmode : (s.piu p).resetMode = (s.port p).piu.resetMode := rfl
  unfold State.resetByState
  dsimp only
  split
  · next h =>
    rw [State.departAttached_eq, State.modPiu, State.modPort_modPort, hport]
    simp only [Port.decided, show (s.port p).piu.state = .attached from h, hmode]
  · next h =>
    rw [State.modPiu, hport]
    simp only [Port.decided, show (s.port p).piu.state = .quiescing from h, hmode]
  · next h =>
    rw [State.modPiu, hport]
    simp only [Port.decided, show (s.port p).piu.state = .faulted from h, hmode]
  · next h =>
    refine congrArg (State.resetPortWork · p) (State.modPort_self ?_).symm
    simp only [Port.decided, show (s.port p).piu.state = .retained from h]
  · next h =>
    refine congrArg (State.resetPortWork · p) (State.modPort_self ?_).symm
    simp only [Port.decided, show (s.port p).piu.state = .detached from h]

/-- A port reset in which no failure waits to be taken (R154). -/
theorem exec_portReset (hpin : s.resetPin = false) (hport : (s.piu p).resetPin = false) (hfault : (s.piu p).faultHanded = false) :
    exec (.portReset p) s = .next (((s.modPiu p fun u => { u with resetPin := true }).resetDecided p).resetPortWork p) := by
  have htake : (s.modPiu p fun u => { u with resetPin := true }).takeFault p = s.modPiu p fun u => { u with resetPin := true } :=
    State.takeFault_none (by simp [hfault])
  refine congrArg Host.Outcome.next ((if_neg (by simp [hpin])).trans ((if_neg (by simp [hport])).trans ?_))
  rw [State.takePortReset, htake, State.resetByState_eq]

theorem Port.decided_piu (hfault : b.piu.faultHanded = false) : b.decided.piu = { b.piu with
    state := if b.piu.state = .attached then .quiescing else b.piu.state
    leaveMode := if b.piu.state = .attached ∨ b.piu.state = .quiescing ∨ b.piu.state = .faulted then
      some (if b.piu.retainArmed = true then .retain else .flush) else b.piu.leaveMode } := by
  cases h : b.piu.state
  case attached => simp [Port.decided, h, Port.depart, Piu.resetMode, ← hfault]
  case quiescing => simp [Port.decided, h, Piu.resetMode]
  case faulted => simp [Port.decided, h, Piu.resetMode]
  all_goals
    simp only [Port.decided, h, reduceCtorEq, or_self, if_false]
    rw [← h]

theorem Port.decided_writer : b.decided.writer = if b.piu.state = .attached then b.writer.depart else b.writer := by
  unfold Port.decided
  split <;> next h => simp [h, Port.depart]

theorem Port.decided_nu : b.decided.nu = if b.piu.state = .attached then b.nu.depart else b.nu := by
  unfold Port.decided
  split <;> next h => simp [h, Port.depart]

theorem Port.decided_owed : b.decided.flushOwed = b.flushOwed ∧ b.decided.requeueOwed = b.requeueOwed := by
  unfold Port.decided
  split <;> exact ⟨rfl, rfl⟩

/-- What is decided does not depend on whether a job in flight has ended (R74, R88). -/
theorem Port.decided_stopped {job : Job} (h : b.writer.state = .busy job) :
    Port.decided { b with writer := { b.writer with state := .stopped } } = { b.decided with writer := { b.decided.writer with state := .stopped } } := by
  cases hstate : b.piu.state
  case attached =>
    simp only [Port.decided, hstate, Port.depart, Writer.depart_busy h]
    rfl
  all_goals simp only [Port.decided, hstate]

end decided

/-! ## The copy in flight -/

section abandon

variable {s : State} {p : PortId} {r : RecordId} {rec : Record} {u : Use} {c : ChannelId}

/-- The state in which the pool and the entry take the abandonment of a copy: the buffer is unlocked, and some of the payload stands in the segments
(R69). -/
def State.abandoning (s : State) (p : PortId) (rec : Record) : State :=
  ((s.modPiu p fun u => { u with copy := none }).copyPayload p rec
    (min (Config.abandonedCopyBytes s.freeIndex) (64 * segmentCount rec.length))).countFreeValue

theorem State.abandonCopy_none (h : (s.piu p).copy = none) : s.abandonCopy p = s := by simp only [State.abandonCopy, h]

theorem State.abandonCopy_noRecord (h : (s.piu p).copy = some r) (hrec : s.record r = none) :
    s.abandonCopy p = s.modPiu p fun u => { u with copy := none } := by simp only [State.abandonCopy, h, hrec]

theorem State.abandonCopy_stale (h : (s.piu p).copy = some r) (hrec : s.record r = some rec) (hu : s.useOfRecord rec = none) :
    s.abandonCopy p = (s.abandoning p rec).setPool ((s.abandoning p rec).pool.free [r]) := by
  simp only [State.abandonCopy, h, hrec, hu]
  rfl

theorem State.abandonCopy_fill (h : (s.piu p).copy = some r) (hrec : s.record r = some rec) (hu : s.useOfRecord rec = some u) :
    s.abandonCopy p = ((s.abandoning p rec).dropFill rec.channel r).checkAfterFall rec.channel := by
  simp only [State.abandonCopy, h, hrec, hu]
  rfl

theorem State.abandoning_modWriter (f : Writer → Writer) : (s.modWriter p f).abandoning p rec = (s.abandoning p rec).modWriter p f := by
  have hbuffer : ((s.modWriter p f).modPiu p fun u => { u with copy := none }) = (s.modPiu p fun u => { u with copy := none }).modWriter p f := by
    unfold State.modWriter State.modPiu
    rw [State.modPort_modPort, State.modPort_modPort]
  unfold State.abandoning
  rw [hbuffer, State.copyPayload, State.modWriter_piu]
  rfl

/-- Abandonment does not see the Port Writer (R69). -/
theorem State.abandonCopy_modWriter (f : Writer → Writer) : (s.modWriter p f).abandonCopy p = (s.abandonCopy p).modWriter p f := by
  have hsame : ((s.modWriter p f).piu p).copy = (s.piu p).copy := congrArg Piu.copy (State.modWriter_piu ..)
  have hbeside : ∀ rec, (s.abandoning p rec).Beside p _ _ ((s.modWriter p f).abandoning p rec) := fun rec => by
    rw [State.abandoning_modWriter]
    exact .ofWriter _ p f
  cases hcopy : (s.piu p).copy with
  | none => rw [State.abandonCopy_none hcopy, State.abandonCopy_none (hsame.trans hcopy)]
  | some r =>
    cases hrec : s.record r with
    | none =>
      rw [State.abandonCopy_noRecord hcopy hrec, State.abandonCopy_noRecord (s := s.modWriter p f) (hsame.trans hcopy) hrec]
      unfold State.modWriter State.modPiu
      rw [State.modPort_modPort, State.modPort_modPort]
    | some rec =>
      cases hu : s.useOfRecord rec with
      | none =>
        rw [State.abandonCopy_stale hcopy hrec hu, State.abandonCopy_stale (s := s.modWriter p f) (hsame.trans hcopy) hrec hu]
        exact (hbeside rec).free.eq
      | some u =>
        rw [State.abandonCopy_fill hcopy hrec hu, State.abandonCopy_fill (s := s.modWriter p f) (hsame.trans hcopy) hrec hu]
        exact State.Beside.eq (hbeside rec).dropRecords.modUse.checkAfterFall

/-- A free of one record leaves the others. -/
theorem Pool.free_record {pool : Pool} {x : RecordId} (h : r ≠ x) : (pool.free [x]).records.read r = pool.records.read r := by
  obtain ⟨_, _, hrecords, _⟩ := Pool.recoverTest_fields (pool.freeOne x)
  refine (congrArg (Table.read · r) hrecords).trans ?_
  unfold Pool.freeOne
  split
  · rfl
  · simp [h]

/-- The entry before the check that follows an abandonment (R69). -/
theorem State.dropFill_entry (hrec : s.record r = some rec) (hu : s.use c = some u) (d : ChannelId) : (s.dropFill c r).entry d =
    if d = c then { s.entry c with use := some { u with held := u.held - segmentCount rec.length, fill := false } } else s.entry d := by
  by_cases hd : d = c <;> simp [State.dropFill, hd, hu, Pool.heldBy_singleton hrec]

theorem State.dropFill_use_of (hrec : s.record r = some rec) (hu : s.use c = some u) :
    (s.dropFill c r).use c = some { u with held := u.held - segmentCount rec.length, fill := false } := by
  rw [← State.entry_use, State.dropFill_entry hrec hu, if_pos rfl]

/-- The check after a fall of the held count with no fill in flight (R28). -/
theorem State.checkAfterFall_filled (hu : s.use c = some u) (hfill : u.fill = false) :
    s.checkAfterFall c = if (u.stage = .closing ∧ u.queue = [] ∧ u.unconfirmed = []) ∨ (u.stage = .ending ∧ u.queue = []) then
        s.freeWithNotice c (if u.stage = .ending ∧ u.queue = [] then .finish else .drain)
      else if u.stage = .opened ∧ u.hold.isSome = true ∧ u.held ≤ u.terms.releaseMark ∧ s.pool.level = .normal then s.endHold c false else s := by
  cases hstage : u.stage with
  | offered o => simp [State.checkAfterFall, hu, hstage]
  | opened => simp [State.checkAfterFall_opened hu hstage]
  | closing => simp [State.checkAfterFall_closing hu hstage, hfill, and_comm]
  | ending =>
    rw [State.checkAfterFall_ending hu hstage, State.freeCheck_of_use hu hstage]
    by_cases hqueue : u.queue = [] <;> simp [hqueue, hfill]
  | orphaned => simp [State.checkAfterFall, hu, hstage]

/-- The check after a fall leaves the other entries. -/
theorem State.checkAfterFall_entry_ne {d : ChannelId} (hu : s.use c = some u) (hfill : u.fill = false) (hd : d ≠ c) :
    (s.checkAfterFall c).entry d = s.entry d := by
  rw [State.checkAfterFall_filled hu hfill]
  split
  · rw [State.freeWithNotice_entry hu, if_neg hd]
  · split
    · rw [State.endHold_entry hu, if_neg hd]
    · rfl

/-- Abandonment frees the record of the copy (R69). -/
theorem State.abandonCopy_poolFreed (hcopy : (s.piu p).copy = some r) (hrec : s.record r = some rec) :
    (s.abandoning p rec).PoolFreed (s.abandonCopy p) [r] := by
  cases hu : s.useOfRecord rec with
  | none =>
    rw [State.abandonCopy_stale hcopy hrec hu]
    exact .free _ _
  | some u =>
    rw [State.abandonCopy_fill hcopy hrec hu]
    exact (State.PoolFreed.dropRecords (s.abandoning p rec) rec.channel [r]).congr ⟨rfl, rfl, rfl⟩ (by simp [State.PoolSame, State.dropFill])

/-- Abandonment leaves the entries that the record does not belong to. -/
theorem State.abandonCopy_entry_ne (hcopy : (s.piu p).copy = some r) (hrec : s.record r = some rec) (hc : c ≠ rec.channel) :
    (s.abandonCopy p).entry c = s.entry c := by
  cases hu : s.useOfRecord rec with
  | none => rw [State.abandonCopy_stale hcopy hrec hu]; rfl
  | some u =>
    have huse : (s.abandoning p rec).use rec.channel = some u := ((State.useOfRecord_eq_some_iff ..).mp hu).2
    rw [State.abandonCopy_fill hcopy hrec hu, State.checkAfterFall_entry_ne (State.dropFill_use_of (s := s.abandoning p rec) hrec huse) rfl hc]
    simp [State.dropFill, hc, State.abandoning]

/-- Abandonment leaves other records and other entries. -/
theorem State.abandonCopy_apart (h : ∀ x copied, (s.piu p).copy = some x → s.record x = some copied → x ≠ r ∧ copied.channel ≠ c) :
    (s.abandonCopy p).record r = s.record r ∧ (s.abandonCopy p).entry c = s.entry c := by
  cases hcopy : (s.piu p).copy with
  | none => rw [State.abandonCopy_none hcopy]; exact ⟨rfl, rfl⟩
  | some x =>
    cases hrec : s.record x with
    | none => rw [State.abandonCopy_noRecord hcopy hrec]; exact ⟨rfl, rfl⟩
    | some rec =>
      obtain ⟨hr, hc⟩ := h x rec hcopy hrec
      have hpool := (State.abandonCopy_poolFreed hcopy hrec).1
      refine ⟨?_, State.abandonCopy_entry_ne hcopy hrec (Ne.symm hc)⟩
      rw [State.record, hpool]
      exact Pool.free_record (Ne.symm hr)

end abandon

/-! ## The end of the Port Writer's job -/

section job

variable {s : State} {p : PortId} {r : RecordId} {rec : Record} {u : Use} {c : ChannelId}

/-- The Port Writer of a port stops (R88). -/
abbrev State.writerStopped (s : State) (p : PortId) : State := s.modWriter p fun w => { w with state := .stopped }

/-- A port reset with no landing in flight ends a job without effect (R88). -/
theorem State.endJob_other (h : ∀ job c g r j, (s.writer p).state = .busy job → job.kind ≠ .landing c g r j) : s.endJob p = s.writerStopped p := by
  unfold State.endJob
  dsimp only
  split
  · rfl
  · rfl
  · next job hjob => exact State.failWork_other fun c g r j => h job c g r j hjob

/-- A port reset fails a landing in flight (R88). -/
theorem State.endJob_landing {job : Job} {g : Byte} {j : Half} (h : (s.writer p).state = .busy job) (hkind : job.kind = .landing c g r j) :
    s.endJob p = (s.writerStopped p).failLanding r := by
  simp only [State.endJob, h, hkind]
  rfl

/-- The state in which a port reset ends the work of its port. -/
abbrev State.portReset (s : State) (p : PortId) : State := (s.modPiu p fun u => { u with resetPin := true }).resetDecided p

theorem State.portReset_port (q : PortId) : (s.portReset p).port q =
    if q = p then Port.decided { s.port p with piu := { s.piu p with resetPin := true } } else s.port q := by
  rw [State.portReset, State.resetDecided, State.modPiu, State.modPort_modPort, State.modPort_port]
  rfl

/-- The Port Interface Unit of a port that a reset has decided (R153 to R156). -/
theorem State.portReset_piu (hfault : (s.piu p).faultHanded = false) : (s.portReset p).piu p = { s.piu p with
    resetPin := true
    state := if (s.piu p).state = .attached then .quiescing else (s.piu p).state
    leaveMode := if (s.piu p).state = .attached ∨ (s.piu p).state = .quiescing ∨ (s.piu p).state = .faulted then
      some (if (s.piu p).retainArmed = true then .retain else .flush) else (s.piu p).leaveMode } := by
  rw [State.piu, State.portReset_port, if_pos rfl]
  exact Port.decided_piu (b := { s.port p with piu := { s.piu p with resetPin := true } }) hfault

theorem State.portReset_nu (q : PortId) : (s.portReset p).nu q =
    if q = p then (if (s.piu p).state = .attached then (s.nu p).depart else s.nu p) else s.nu q := by
  rw [State.nu, State.portReset_port]
  split
  · exact Port.decided_nu
  · rfl

theorem State.portReset_owed (q : PortId) : ((s.portReset p).port q).flushOwed = (s.port q).flushOwed ∧
    ((s.portReset p).port q).requeueOwed = (s.port q).requeueOwed := by
  rw [State.portReset_port]
  split
  · next hq => exact hq ▸ Port.decided_owed
  · exact ⟨rfl, rfl⟩

/-- The stopped Port Writer of the port, and the other Port Writers (R88). -/
theorem State.portReset_stopped_writer (q : PortId) : ((s.portReset p).writerStopped p).writer q =
    if q = p then { s.writer p with state := .stopped } else s.writer q := by
  have hdepart : ∀ w : Writer, ({ w.depart with state := .stopped } : Writer) = { w with state := .stopped } := fun w => by
    unfold Writer.depart
    split <;> rfl
  rw [State.modWriter_writer]
  split
  · rw [State.writer, State.portReset_port, if_pos rfl, Port.decided_writer]
    split
    · exact hdepart _
    · rfl
  · next hq => rw [State.writer, State.portReset_port, if_neg hq]; rfl

/-- A job in flight is in flight until the reset ends it (R74). -/
theorem State.portReset_writer_busy {job : Job} : ((s.portReset p).writer p).state = .busy job ↔ (s.writer p).state = .busy job := by
  rw [State.writer, State.portReset_port, if_pos rfl, Port.decided_writer]
  split
  · rcases Writer.depart_state (s.writer p) with ⟨job', hjob, hdepart⟩ | ⟨hfree, hstopped⟩
    · exact iff_of_eq (congrArg (fun w : Writer => w.state = .busy job) hdepart)
    · refine iff_of_false (fun h => ?_) fun h => ?_
      · cases hstopped.symm.trans h
      · cases (Writer.isBusy_iff.mpr ⟨job, h⟩).symm.trans hfree
  · rfl

/-- What a port reset decides for a port whose job has ended (R88). -/
theorem State.portReset_stopped {job : Job} (h : (s.writer p).state = .busy job) : (s.writerStopped p).portReset p = (s.portReset p).writerStopped p := by
  unfold State.portReset State.resetDecided State.modPiu State.writerStopped State.modWriter
  simp only [State.modPort_modPort]
  exact congrArg (s.setPort p) (Port.decided_stopped (b := { s.port p with piu := { s.piu p with resetPin := true } }) h)

/-- A port reset of a port whose Port Writer holds no landing: only the copy in flight reaches the tables (R88, R154). -/
theorem exec_portReset_noLanding (hpin : s.resetPin = false) (hport : (s.piu p).resetPin = false) (hfault : (s.piu p).faultHanded = false)
    (hjob : ∀ job c g r j, (s.writer p).state = .busy job → job.kind ≠ .landing c g r j) :
    exec (.portReset p) s = .next ((((s.portReset p).abandonCopy p).writerStopped p).modPiu p Piu.clear) := by
  rw [exec_portReset hpin hport hfault, State.resetPortWork, State.endJob_other]
  intro job c g r j hbusy
  rw [State.abandonCopy_writer] at hbusy
  exact hjob job c g r j (State.portReset_writer_busy.mp hbusy)

end job

/-- Clearing a port changes no table (R154). -/
theorem State.SameTables.clear (s : State) (p : PortId) : s.SameTables (s.modPiu p Piu.clear) where
  entry := fun _ => rfl
  nu := fun q => by simp
  pool := ⟨rfl, rfl, rfl⟩
  state := fun q => by
    rw [State.modPiu_piu]
    split
    · next hq => rw [hq]; rfl
    · rfl

theorem State.SameTables.symm {s t : State} (h : s.SameTables t) : t.SameTables s where
  entry := fun d => (h.entry d).symm
  nu := fun q => (h.nu q).symm
  pool := ⟨h.pool.1.symm, h.pool.2.1.symm, h.pool.2.2.symm⟩
  state := fun q => (h.state q).symm

/-- A fault that was handed over before the reset is taken first (R158). -/
theorem State.takePortReset_handed {s : State} {p : PortId} (hfault : (s.piu p).faultHanded = true) :
    (s.modPiu p fun u => { u with resetPin := true }).takePortReset p = ((s.faultPort p).modPiu p fun u => { u with resetPin := true }).takePortReset p := by
  have hfaulted : (s.modPiu p fun u => { u with resetPin := true }).takeFault p = (s.faultPort p).modPiu p fun u => { u with resetPin := true } := by
    rw [State.takeFault_handed (by simpa using hfault), State.faultPort_eq, State.faultPort_eq]
    unfold State.modPiu
    simp only [State.modPort_modPort]
    rfl
  have hnone : ((s.faultPort p).modPiu p fun u => { u with resetPin := true }).takeFault p = (s.faultPort p).modPiu p fun u => { u with resetPin := true } :=
    State.takeFault_none (by rw [State.modPiu_piu, if_pos rfl, (s.faultPort_blocks p p).1, if_pos rfl])
  rw [State.takePortReset, hfaulted, State.takePortReset, hnone]

/-- Settles O58: the release, the fault before the reset, then the reset without and with a landing in flight. -/
theorem portResetClearsThePort : Obligations.PortResetClearsThePort := by
  intro p s hpin
  refine ⟨fun hport => ?_, fun hport => ?_, fun hport hstate hhanded hstopped k t hrun => ?_, fun hport hfault => ⟨fun hcopy hjob => ?_,
    fun job c g r j rec u t0 hjob hkind hrec hg hu hcopy hrun => ?_⟩⟩
  · exact congrArg Host.Outcome.next ((if_neg (by simp [hpin])).trans (if_pos hport))
  · have hrelease : exec (.portResetRelease p) s = .next ((s.modPiu p fun u => { u with resetPin := false }).settle p) :=
      congrArg Host.Outcome.next ((if_neg (by simp [hpin])).trans (if_pos hport))
    refine ⟨hrelease, fun hstates => hrelease.trans (congrArg Host.Outcome.next ?_)⟩
    rcases hstates with h | h | h <;> simp [State.settle, h]
  · obtain rfl : t = s.faultPort p := Host.Outcome.next.inj (hrun.symm.trans (exec_takesFault hstopped hhanded k))
    have hfaulted : ((s.faultPort p).piu p).resetPin = false := by rw [(s.faultPort_blocks p p).1, if_pos rfl]; exact hport
    have hs : exec (.portReset p) s = .next ((s.modPiu p fun u => { u with resetPin := true }).takePortReset p) :=
      congrArg Host.Outcome.next ((if_neg (by simp [hpin])).trans (if_neg (by simp [hport])))
    have ht : exec (.portReset p) (s.faultPort p) = .next (((s.faultPort p).modPiu p fun u => { u with resetPin := true }).takePortReset p) :=
      congrArg Host.Outcome.next ((if_neg (by simp [hpin])).trans (if_neg (by simp [hfaulted])))
    rw [hs, ht, State.takePortReset_handed hhanded]
  · have hrun := exec_portReset_noLanding hpin hport hfault hjob
    have hpiu := State.portReset_piu hfault
    rw [State.abandonCopy_none (by rw [hpiu]; exact hcopy)] at hrun
    refine ⟨_, hrun, ?_, fun q hq => ?_, ?_, ⟨rfl, rfl, rfl, rfl, rfl, fun q hq => ?_, fun q => ?_⟩, ?_, fun q hq => ?_, rfl, ⟨rfl, rfl, rfl⟩⟩
    · rw [State.modPiu_piu, if_pos rfl, State.modWriter_piu, hpiu]
      rfl
    · rw [State.modPiu_piu, if_neg hq, State.modWriter_piu, State.piu, State.portReset_port, if_neg hq]
      rfl
    · rw [State.modPiu_writer, State.portReset_stopped_writer, if_pos rfl]
    · rw [State.modPiu_writer, State.portReset_stopped_writer, if_neg hq]
    · simpa using State.portReset_owed q
    · rw [State.modPiu_nu, State.modWriter_nu, State.portReset_nu, if_pos rfl]
      rfl
    · rw [State.modPiu_nu, State.modWriter_nu, State.portReset_nu, if_neg hq]
  · intro freed d
    let y := s.portReset p
    let z := (y.abandonCopy p).writerStopped p
    have hend : exec (.portReset p) s = .next ((z.failLanding r).modPiu p Piu.clear) := by
      rw [exec_portReset hpin hport hfault, State.resetPortWork, State.endJob_landing (by
        rw [State.abandonCopy_writer]; exact State.portReset_writer_busy.mpr hjob) hkind]
    have ht0 : t0 = z.modPiu p Piu.clear := by
      have hstopped := exec_portReset_noLanding (s := s.writerStopped p) (p := p) hpin (by simpa using hport) (by simpa using hfault) fun job' _ _ _ _ hbusy => by
        simp at hbusy
      rw [State.portReset_stopped hjob, State.abandonCopy_modWriter] at hstopped
      have htwice : z.writerStopped p = z := State.modPort_modPort ..
      exact (Host.Outcome.next.inj (hrun.symm.trans hstopped)).trans (congrArg (State.modPiu · p Piu.clear) htwice)
    have hapart : z.record r = s.record r ∧ z.entry rec.channel = s.entry rec.channel := State.abandonCopy_apart (s := y) (by
      intro x copied hx hcopied
      rw [State.portReset_piu hfault] at hx
      exact hcopy x copied hx hcopied)
    have hrec' : z.record r = some rec := hapart.1.trans hrec
    have hg' : (z.entry rec.channel).generation = rec.generation := by rw [hapart.2]; exact hg
    have hu' : z.use rec.channel = some u := (congrArg Entry.use hapart.2).trans hu
    subst ht0
    refine ⟨fun hstage => ?_, fun hstage => ⟨_, hend, fun q => ?_, ?_, ?_⟩⟩
    · rw [hend, State.failLanding_records hrec' hg' hu' hstage]
      rfl
    · simp
    · simp [State.DeviceSame]
    · have hdropped := (State.LandingDropped.failLanding hrec' hg' hu' hstage).congr (State.SameTables.clear z p).symm (.clear (z.failLanding r) p)
      have hentry : (z.modPiu p Piu.clear).entry rec.channel = s.entry rec.channel := hapart.2
      obtain ⟨hpool, hfreed, hstays⟩ := hdropped
      rw [hentry] at hfreed hstays
      exact ⟨hpool, hfreed, hstays⟩

end Sys2Proof.Machine

/-! # The copy that a port reset abandons (O59) -/

namespace Sys2Proof.Machine

section unlocked

variable {s : State} {p : PortId}

/-- The port with its buffer unlocked (R56). -/
abbrev State.unlocked (s : State) (p : PortId) : State := s.modPiu p fun x => { x with copy := none }

/-- What a port reset decides does not depend on a copy in flight (R154). -/
theorem State.portReset_unlocked : (s.unlocked p).portReset p = (s.portReset p).unlocked p := by
  have hdecided : ∀ b : Port, Port.decided { b with piu := { b.piu with copy := none } } = { b.decided with piu := { b.decided.piu with copy := none } } := fun b => by
    cases h : b.piu.state
    all_goals simp only [Port.decided, h]
    all_goals rfl
  unfold State.portReset State.resetDecided State.unlocked State.modPiu
  simp only [State.modPort_modPort]
  exact congrArg (s.setPort p) (hdecided { s.port p with piu := { s.piu p with resetPin := true } })

/-- A port reset that finds no copy in flight. -/
theorem exec_portReset_unlocked (hpin : s.resetPin = false) (hport : (s.piu p).resetPin = false) (hfault : (s.piu p).faultHanded = false)
    (hjob : ∀ job c g r j, (s.writer p).state = .busy job → job.kind ≠ .landing c g r j) :
    exec (.portReset p) (s.unlocked p) = .next ((((s.portReset p).unlocked p).writerStopped p).modPiu p Piu.clear) := by
  rw [exec_portReset_noLanding (s := s.unlocked p) hpin (by simpa using hport) (by simpa using hfault) (by simpa using hjob), State.portReset_unlocked,
    State.abandonCopy_none (by simp)]

/-- The end of a port reset changes no Notice Unit and no port state (R154). -/
theorem State.cleared_nu (s : State) (p q : PortId) : ((s.writerStopped p).modPiu p Piu.clear).nu q = s.nu q := by
  rw [State.modPiu_nu, State.modWriter_nu]

theorem State.cleared_state (s : State) (p q : PortId) : (((s.writerStopped p).modPiu p Piu.clear).piu q).state = (s.piu q).state := by
  rw [(State.SameTables.clear _ p).state, State.modWriter_piu]

end unlocked

/-- Settles O59: the pool first, then the entry that the record belongs to, when it does. -/
theorem portResetAbandonsTheCopy : Obligations.PortResetAbandonsTheCopy := by
  intro p s t0 r rec c hpin hport hfault hjob hcopy hrec hwhole hrun
  let y := s.portReset p
  let z := y.abandonCopy p
  obtain rfl : t0 = ((y.unlocked p).writerStopped p).modPiu p Piu.clear :=
    Host.Outcome.next.inj (hrun.symm.trans (exec_portReset_unlocked hpin hport hfault hjob))
  have hycopy : (y.piu p).copy = some r := by rw [State.portReset_piu hfault]; exact hcopy
  have hyrec : y.record r = some rec := hrec
  obtain ⟨hpool, hhold, hretest⟩ := State.abandonCopy_poolFreed hycopy hyrec
  have hzpiu : ∀ q, z.piu q = (y.unlocked p).piu q := fun q => by rw [State.abandonCopy_piu, State.modPiu_piu]
  have hstopped : ∀ q, (z.writerStopped p).piu q = ((y.unlocked p).writerStopped p).piu q := fun q => by
    rw [State.modWriter_piu, State.modWriter_piu, hzpiu]
  have htpiu : ∀ q, ((z.writerStopped p).modPiu p Piu.clear).piu q = (((y.unlocked p).writerStopped p).modPiu p Piu.clear).piu q := fun q => by
    rw [State.modPiu_piu, State.modPiu_piu, hstopped p, hstopped q]
  have hwords : s.WordsSame y := fun q => by
    rw [State.portReset_nu]
    split
    · next hq => rw [hq]; split <;> exact ⟨rfl, rfl⟩
    · exact ⟨rfl, rfl⟩
  refine ⟨_, copyBytes _ rec.chain _ s.pool.segments, exec_portReset_noLanding hpin hport hfault hjob, hpool, hhold, ?_, fun a ha => ?_, ?_, ?_, ?_,
    htpiu, fun q => ⟨?_, ?_, ?_⟩, ?_, ?_, ?_, ?_, fun d hd => ?_, fun hstale => ?_, fun u hu hg => ?_⟩
  · rw [← hpool] at hretest
    exact hretest
  · exact Memory.read_copyBytes_outside _ _ (by rw [hwhole.2]; exact Nat.min_le_right ..) ha
  · rw [htpiu]
    simp [Piu.clear]
  · simp [Piu.clear]
  · rw [State.modPiu_piu, if_pos rfl]
    rfl
  · simp [y]
  · simpa using (State.portReset_owed q).1
  · simpa using (State.portReset_owed q).2
  · simp [State.portReset, State.resetDecided]
  · simp [State.portReset, State.resetDecided]
  · simp [State.portReset, State.resetDecided]
  · simp [State.portReset, State.resetDecided]
  · exact State.abandonCopy_entry_ne hycopy hyrec hd
  · have hnone : y.useOfRecord rec = none := by
      refine Option.eq_none_iff_forall_ne_some.mpr fun u hu => ?_
      obtain ⟨hg, hu'⟩ := (State.useOfRecord_eq_some_iff ..).mp hu
      rcases hstale with h | h
      · cases h.symm.trans hu'
      · exact h hg
    have hz : z = (y.abandoning p rec).setPool ((y.abandoning p rec).pool.free [r]) := State.abandonCopy_stale hycopy hyrec hnone
    have hentry : z.entry c = s.entry c := by rw [hz]; rfl
    have hnu : ∀ q, z.nu q = y.nu q := fun q => by rw [hz]; simp [State.abandoning]
    refine ⟨hentry, fun q => ?_⟩
    rw [State.cleared_nu, State.cleared_nu, State.modPiu_nu]
    exact hnu q
  · intro held released drained ended d
    let x := (y.abandoning p rec).dropFill c r
    let v : Use := { u with held := held, fill := false }
    have hxuse : x.use c = some v := State.dropFill_use_of (s := y.abandoning p rec) hrec hu
    have hxentry : ∀ d, x.entry d = if d = c then { s.entry c with use := some v } else s.entry d :=
      State.dropFill_entry (s := y.abandoning p rec) hrec hu
    have hlevel : x.pool.level = z.pool.level := congrArg Pool.level hpool.symm
    have hz : z = if drained ∨ ended then x.freeWithNotice c (if ended then .finish else .drain) else if released then x.endHold c false else x := by
      refine (State.abandonCopy_fill hycopy hyrec (State.useOfRecord_some hg hu)).trans ((State.checkAfterFall_filled hxuse rfl).trans ?_)
      rw [hlevel]
      rfl
    have htold : (y.unlocked p).Told x fun _ => [] := (State.Told.refl _).others rfl
    have hxwords : s.WordsSame x := fun q => by
      have hnu : x.nu q = y.nu q := by simp [x, State.abandoning]
      rw [hnu]
      exact hwords q
    have hevents : ∀ {ns}, (y.unlocked p).Told z ns →
        (((y.unlocked p).writerStopped p).modPiu p Piu.clear).EventsMade ((z.writerStopped p).modPiu p Piu.clear) ns := fun h =>
      h.events.sameNus (fun q => (State.cleared_nu (y.unlocked p) p q).symm) (fun q => (State.cleared_state (y.unlocked p) p q).symm) (State.cleared_nu z p)
    have hcleared : z.WordsSame ((z.writerStopped p).modPiu p Piu.clear) := fun q => by
      rw [State.cleared_nu]
      exact ⟨rfl, rfl⟩
    refine ⟨fun hfree => ?_, fun hkept => ?_⟩
    · rw [if_pos hfree] at hz
      have hfreed : x.BecameFree z c v := by rw [hz]; exact .freeWithNotice hxuse _
      have hnotices := htold.trans (.freeWithNotice hxuse (if ended then .finish else .drain))
      rw [← hz, hxentry, if_pos rfl] at hnotices
      refine ⟨(hfreed.before (s := s) (u := u) ?_ rfl rfl (fun d hd => ?_) hxwords).followed (fun _ => rfl) hcleared, hevents hnotices⟩
      · rw [hxentry, if_pos rfl]
      · rw [hxentry, if_neg hd]
    · rw [if_neg hkept] at hz
      have hentry : z.entry c = { s.entry c with use := some { v with hold := if released then none else u.hold } } := by
        rw [hz, State.endHoldIf_entry hxuse, if_pos rfl, hxentry, if_pos rfl]
      have hnotices := htold.trans (.endHoldIf (b := released) hxuse false)
      have hset : x.WordsSet z none id (if released then u.producer else none) fun w => { w with hold := false } := by
        rw [hz]
        exact State.endHoldIf_wordsSet hxuse false
      rw [← hz] at hnotices
      exact ⟨hentry, hevents hnotices, hset.congr hxwords hcleared⟩

end Sys2Proof.Machine

/-! # QUERY and READ_COUNTERS (O60) -/

namespace Sys2Proof.Machine

/-! ## The words of the pages -/

section words

/-- A word of two halves: what does not fit the upper half is cut off with the word (R171). -/
theorem pack_halves (a b : Nat) : pack 32 [(a, 15, 0), (b, 31, 16)] = BitVec.ofNat 32 (a % 2 ^ 16 + 2 ^ 16 * b) := by
  have hlow : Field.weight (a, 15, 0) = a % 2 ^ 16 := Nat.mul_one _
  have hhigh : Field.weight (b, 31, 16) = b % 2 ^ 16 * 2 ^ 16 := rfl
  rw [pack_eq, sum_weight_cons, sum_weight_cons, List.map_nil, List.sum_nil, hlow, hhigh]
  refine BitVec.eq_of_toNat_eq ?_
  rw [BitVec.toNat_ofNat, BitVec.toNat_ofNat]
  omega

theorem pack_priority (k : Fin 4) (n : Nat) : pack 32 [(k.val, 7, 0), (n, 31, 16)] = BitVec.ofNat 32 (k.val + 2 ^ 16 * n) := by
  have hlow : Field.weight (k.val, 7, 0) = k.val := (Field.weight_fits (k.isLt.trans (by norm_num))).trans (Nat.mul_one _)
  have hhigh : Field.weight (n, 31, 16) = n % 2 ^ 16 * 2 ^ 16 := rfl
  have hk := k.isLt
  rw [pack_eq, sum_weight_cons, sum_weight_cons, List.map_nil, List.sum_nil, hlow, hhigh]
  refine BitVec.eq_of_toNat_eq ?_
  rw [BitVec.toNat_ofNat, BitVec.toNat_ofNat]
  omega

theorem pack_slots (a b : Nat) : pack 32 [(a, 15, 0), (b, 23, 16)] = BitVec.ofNat 32 (a % 2 ^ 16 + 2 ^ 16 * (b % 2 ^ 8)) := by
  have hlow : Field.weight (a, 15, 0) = a % 2 ^ 16 := Nat.mul_one _
  have hhigh : Field.weight (b, 23, 16) = b % 2 ^ 8 * 2 ^ 16 := rfl
  rw [pack_eq, sum_weight_cons, sum_weight_cons, List.map_nil, List.sum_nil, hlow, hhigh, add_zero, Nat.mul_comm (b % 2 ^ 8)]

theorem pack_window (n : Nat) : pack 32 [(n, 7, 0)] = BitVec.ofNat 32 (n % 2 ^ 8) := by
  have hlow : Field.weight (n, 7, 0) = n % 2 ^ 8 := Nat.mul_one _
  rw [pack_eq, sum_weight_cons, List.map_nil, List.sum_nil, hlow, add_zero]

/-- The party byte as a sum (R173). -/
def partyNumber : Option Party → Nat
  | none => 0
  | some a => 2 ^ 7 + 2 ^ 4 * a.port.val + a.slot.val

theorem partyByte_eq (a : Option Party) : partyByte a = partyNumber a := by
  cases a with
  | none => rfl
  | some a =>
    have hport := a.port.isLt
    have hslot := a.slot.isLt
    have hone : Field.weight (1, 7, 7) = 2 ^ 7 := by decide
    have hmiddle : Field.weight (a.port.val, 5, 4) = a.port.val * 2 ^ 4 := Field.weight_fits (hport.trans_eq (by norm_num))
    have hlow : Field.weight (a.slot.val, 3, 0) = a.slot.val := (Field.weight_fits (hslot.trans_eq (by norm_num))).trans (Nat.mul_one _)
    rw [partyByte, pack_eq, sum_weight_cons, sum_weight_cons, sum_weight_cons, List.map_nil, List.sum_nil, hone, hmiddle, hlow, BitVec.toNat_ofNat, partyNumber]
    omega

theorem partyNumber_lt (a : Option Party) : partyNumber a < 2 ^ (7 + 1 - 0) := by
  cases a with
  | none => decide
  | some a =>
    have hport := a.port.isLt
    have hslot := a.slot.isLt
    rw [partyNumber]
    omega

/-- The offer byte as a sum (R173). -/
def offerNumber : Stage → Nat
  | .offered o => 2 ^ 7 + o.offeror.val + 2 ^ 4 * o.peer.val
  | _ => 0

theorem offerByte_eq (stage : Stage) : offerByte stage = offerNumber stage := by
  cases stage with
  | offered o =>
    have hofferor := o.offeror.isLt
    have hpeer := o.peer.isLt
    have hone : Field.weight (1, 7, 7) = 2 ^ 7 := by decide
    have hlow : Field.weight (o.offeror.val, 1, 0) = o.offeror.val := (Field.weight_fits (hofferor.trans_eq (by norm_num))).trans (Nat.mul_one _)
    have hmiddle : Field.weight (o.peer.val, 5, 4) = o.peer.val * 2 ^ 4 := Field.weight_fits (hpeer.trans_eq (by norm_num))
    rw [offerByte, pack_eq, sum_weight_cons, sum_weight_cons, sum_weight_cons, List.map_nil, List.sum_nil, hone, hmiddle, hlow, BitVec.toNat_ofNat, offerNumber]
    omega
  | opened => rfl
  | closing => rfl
  | ending => rfl
  | orphaned => rfl

theorem offerNumber_lt (stage : Stage) : offerNumber stage < 2 ^ (23 + 1 - 16) := by
  cases stage with
  | offered o =>
    have hofferor := o.offeror.isLt
    have hpeer := o.peer.isLt
    rw [offerNumber]
    omega
  | opened => decide
  | closing => decide
  | ending => decide
  | orphaned => decide

theorem pack_parties (a b : Option Party) (stage : Stage) : pack 32 [(partyByte a, 7, 0), (partyByte b, 15, 8), (offerByte stage, 23, 16)] =
    BitVec.ofNat 32 (partyNumber a + 2 ^ 8 * partyNumber b + 2 ^ 16 * offerNumber stage) := by
  rw [pack_eq, sum_weight_cons, sum_weight_cons, sum_weight_cons, List.map_nil, List.sum_nil, partyByte_eq, partyByte_eq, offerByte_eq,
    Field.weight_fits (partyNumber_lt a), Field.weight_fits (hi := 15) (lo := 8) (partyNumber_lt b), Field.weight_fits (offerNumber_lt stage), pow_zero, mul_one,
    add_zero, Nat.mul_comm (partyNumber b), Nat.mul_comm (offerNumber stage), Nat.add_assoc]

/-- The state code of an entry in use (Table 3-1). -/
def Stage.number : Stage → Nat
  | .offered _ => 1
  | .opened => 2
  | .closing => 3
  | .ending => 4
  | .orphaned => 5

theorem entryCode_eq (u : Use) : entryCode (some u) = u.stage.number := by
  cases h : u.stage <;> simp only [entryCode, h] <;> rfl

theorem Stage.number_lt (stage : Stage) : stage.number < 2 ^ (7 + 1 - 0) := by
  cases stage <;> simp [Stage.number]

theorem ringCode_lt (r : Option Ring) : ringCode r < 2 ^ (20 + 1 - 19) := by
  unfold ringCode
  split
  · decide
  · split <;> decide

theorem pack_state (stage : Stage) (g : Byte) (confirmed held byPool : Bool) (r : Option Ring) (fill : Bool) :
    pack 32 [(stage.number, 7, 0), (g.toNat, 15, 8), (flag confirmed, 16, 16), (flag held, 17, 17), (flag byPool, 18, 18), (ringCode r, 20, 19),
      (flag fill, 21, 21)] =
      BitVec.ofNat 32 (stage.number + 2 ^ 8 * g.toNat + (if confirmed = true then 2 ^ 16 else 0) + (if held = true then 2 ^ 17 else 0) +
        (if byPool = true then 2 ^ 18 else 0) + 2 ^ 19 * ringCode r + if fill = true then 2 ^ 21 else 0) := by
  have hg := g.isLt
  rw [pack_eq, sum_weight_cons, sum_weight_cons, sum_weight_cons, sum_weight_cons, sum_weight_cons, sum_weight_cons, sum_weight_cons, List.map_nil, List.sum_nil,
    Field.weight_fits stage.number_lt, Field.weight_fits (hi := 15) (lo := 8) hg, Field.weight_flag, Field.weight_flag, Field.weight_flag,
    Field.weight_fits (ringCode_lt r), Field.weight_flag, pow_zero, mul_one, add_zero, Nat.mul_comm g.toNat, Nat.mul_comm (ringCode r),
    ← Nat.add_assoc, ← Nat.add_assoc, ← Nat.add_assoc, ← Nat.add_assoc, ← Nat.add_assoc]

theorem resultTable_congr {a b c d a' b' c' d' : Word} (ha : a = a') (hb : b = b') (hc : c = c') (hd : d = d') :
    (#v[a, b, c, d] : Table Word 4) = #v[a', b', c', d'] := by rw [ha, hb, hc, hd]

variable (u : Use)

theorem queryState_eq (g : Byte) : queryState g u = #v[
    BitVec.ofNat 32 (u.stage.number + 2 ^ 8 * g.toNat + (if u.terms.cls.isConfirmed = true then 2 ^ 16 else 0) + (if u.hold ≠ none then 2 ^ 17 else 0) +
      (if u.hold.any (fun h => h.reason = .pool) = true then 2 ^ 18 else 0) + 2 ^ 19 * ringCode u.ring + if u.fill = true then 2 ^ 21 else 0),
    BitVec.ofNat 32 (partyNumber u.producer + 2 ^ 8 * partyNumber u.consumer + 2 ^ 16 * offerNumber u.stage),
    BitVec.ofNat 32 (u.held % 2 ^ 16 + 2 ^ 16 * u.queue.length),
    BitVec.ofNat 32 (u.unconfirmed.length % 2 ^ 16 + 2 ^ 16 * u.nextSequence.toNat)] := by
  have hheld : (if u.hold.isSome = true then 2 ^ 17 else 0) = if u.hold ≠ none then 2 ^ 17 else 0 := if_congr Option.isSome_iff_ne_none rfl rfl
  refine resultTable_congr ?_ (pack_parties ..) (pack_halves ..) (pack_halves ..)
  rw [entryCode_eq, ← hheld]
  exact pack_state ..

theorem queryRing_none (h : u.ring = none) : queryRing u = #v[0, 0, 0, 0] := by
  rw [queryRing, h]
  exact Table.ext (by decide)

theorem queryRing_some {r : Ring} (h : u.ring = some r) : queryRing u = #v[r.base, BitVec.ofNat 32 (r.slotCount % 2 ^ 16 + 2 ^ 16 * (r.slotUnits % 2 ^ 8)),
    BitVec.ofNat 32 (r.writeIndex.toNat + 2 ^ 16 * r.readIndex.toNat), 0] := by
  rw [queryRing, h]
  refine resultTable_congr rfl (pack_slots ..) ((pack_halves ..).trans ?_) rfl
  rw [Nat.mod_eq_of_lt r.writeIndex.isLt]

theorem queryTerms_eq : queryTerms u = #v[
    BitVec.ofNat 32 (u.terms.priority.val + 2 ^ 16 * u.terms.maxLength),
    BitVec.ofNat 32 (u.terms.quota % 2 ^ 16 + 2 ^ 16 * u.terms.holdMark),
    BitVec.ofNat 32 (u.terms.releaseMark % 2 ^ 16 + 2 ^ 16 * u.terms.holdInterval),
    BitVec.ofNat 32 (u.terms.cls.window % 2 ^ 8)] := by
  exact resultTable_congr (pack_priority ..) (pack_halves ..) (pack_halves ..) (pack_window _)

end words

/-! ## The commands -/

section commands

variable {s : State} {p : PortId} {w : Table Word 8} {c : ChannelId} {u : Use} {n page last : Nat}

theorem readEntry_badArg (h : 63 < n ∨ last < page) : readEntry s p n page last = .error .badArg := by
  unfold readEntry
  split
  · rfl
  · next c hc =>
    have hn := (channelOf_eq_some_iff n c).mp hc
    exact if_pos (h.resolve_left (by have := c.isLt; omega))

theorem readEntry_badChannel (hn : n = c.val) (hpage : page ≤ last) (h : ∀ u, s.use c = some u → u.isParty p = false) :
    readEntry s p n page last = .error .badChannel := by
  rw [readEntry, (channelOf_eq_some_iff n c).mpr hn]
  dsimp only
  rw [if_neg (by omega)]
  split
  · rfl
  · next u hu => exact if_neg (by rw [h u hu]; decide)

theorem readEntry_ok (hn : n = c.val) (hpage : page ≤ last) (hu : s.use c = some u) (hparty : u.isParty p = true) :
    readEntry s p n page last = .ok (c, u) := by
  simp only [readEntry, (channelOf_eq_some_iff n c).mpr hn, if_neg (Nat.not_lt.mpr hpage), hu, hparty, if_true]

theorem queryBody_refused (hw : s.args p = w) {st : Status} (h : readEntry s p (channelArg w) (pageArg w) 2 = .error st) :
    queryBody p s = s.refuse p st := by
  subst hw
  rw [queryBody, h]

theorem queryBody_answers (hw : s.args p = w) (h : readEntry s p (channelArg w) (pageArg w) 2 = .ok (c, u)) :
    queryBody p s = s.complete p .done (queryPage (s.entry c).generation u (pageArg w)) := by
  subst hw
  rw [queryBody, h]

theorem readCountersBody_refused (hw : s.args p = w) {st : Status} (h : readEntry s p (channelArg w) (pageArg w) 1 = .error st) :
    readCountersBody p s = s.refuse p st := by
  subst hw
  rw [readCountersBody, h]

theorem readCountersBody_answers (hw : s.args p = w) (h : readEntry s p (channelArg w) (pageArg w) 1 = .ok (c, u)) :
    readCountersBody p s = (if clearArg w then s.modCounters c fun k => k.clearGroup (pageArg w) else s).complete p .done
      ((s.entry c).counters.group (pageArg w)) := by
  subst hw
  rw [readCountersBody, h]

end commands

/-- Settles O60: the tests of the named entry, then the words of the page and the counters of the group. -/
theorem queryAndReadCountersAnswerFromTheEntry : Obligations.QueryAndReadCountersAnswerFromTheEntry := by
  intro p n s w query counters hs hstates
  have hquery : admits (s.piu p).state .query = true := by rcases hstates with h | h | h <;> rw [h] <;> rfl
  have hcounters : admits (s.piu p).state .readCounters = true := by rcases hstates with h | h | h <;> rw [h] <;> rfl
  have hargs : ∀ k, (s.latched p k n).args p = w := fun k => State.args_latch ..
  have refusesQuery : ∀ {st}, readEntry (s.latched p (kindOf .query) n) p (channelArg w) (pageArg w) 2 = .error st → query st := fun h =>
    exec_refused rfl hs hquery (queryBody_refused (hargs _) h)
  have refusesCounters : ∀ {st}, readEntry (s.latched p (kindOf .readCounters) n) p (channelArg w) (pageArg w) 1 = .error st → counters st := fun h =>
    exec_refused rfl hs hcounters (readCountersBody_refused (hargs _) h)
  refine ⟨fun h => refusesQuery (readEntry_badArg h), fun h => refusesCounters (readEntry_badArg h), fun c hc => ⟨fun hno => ⟨fun hpage => ?_, fun hpage => ?_⟩,
    fun u hu hparty => ⟨fun hpage => ?_, fun hpage => ?_⟩⟩⟩
  · exact refusesQuery (readEntry_badChannel hc hpage hno)
  · exact refusesCounters (readEntry_badChannel hc hpage hno)
  · intro t low stageCode ringCode party offer confirmed window page0 page1 page2
    let l := s.latched p (kindOf .query) n
    have hpages : queryPage (s.entry c).generation u (pageArg w) = if pageArg w = 0 then page0 else if pageArg w = 1 then page1 else page2 := by
      have hring : queryRing u = page1 := by
        cases hr : u.ring with
        | none => simpa only [page1, hr] using queryRing_none u hr
        | some x => simpa only [page1, hr] using queryRing_some u hr
      have hstate : queryState (s.entry c).generation u = page0 := by
        have hstage : u.stage.number = stageCode := by cases h : u.stage <;> simp only [stageCode, h, Stage.number]
        have hring : Machine.ringCode u.ring = ringCode := by cases hr : u.ring <;> simp only [ringCode, hr, Machine.ringCode]
        have hparty : ∀ a, partyNumber a = party a := fun a => by cases a <;> rfl
        have hoffer : offerNumber u.stage = offer := by cases h : u.stage <;> simp only [offer, h, offerNumber]
        have hconfirmed : u.terms.cls.isConfirmed = confirmed := rfl
        rw [queryState_eq, hstage, hring, hparty, hparty, hoffer, hconfirmed]
      have hterms : queryTerms u = page2 := by
        have hwindow : u.terms.cls.window % 2 ^ 8 = window := by cases hcls : u.terms.cls <;> simp only [window, t, hcls, ChannelClass.window, Nat.zero_mod]
        rw [queryTerms_eq, hwindow]
      rw [queryPage, hstate, hring, hterms]
    have hrun : exec (.query p n) s = .next (l.complete p .done _) :=
      exec_completes rfl hs hquery (queryBody_answers (hargs _) (readEntry_ok hc hpage (s := l) hu hparty))
    have ⟨hkind, hnotify⟩ := State.latched_slot (s := s) (p := p) (k := kindOf .query) (n := n) fun q => rfl
    refine ⟨_, hrun, hpages ▸ State.Answered.complete (by decide) (fun q => rfl) _ _, (State.Told.refl l).completed hkind hnotify _ _, fun q => by simp [l],
      by simp [l], by simp [State.PoolSame, l], by simp [State.DeviceSame, l]⟩
  · intro k
    let l := s.latched p (kindOf .readCounters) n
    let z := if clearArg w then l.modCounters c fun k => k.clearGroup (pageArg w) else l
    have hgroup : (s.entry c).counters.group (pageArg w) = if pageArg w = 0 then #v[k.postsAccepted, k.refusedHold, k.refusedOther, k.landed]
      else #v[k.replayed, k.holdsEntered, k.renewals, 0] := rfl
    have hrun : exec (.readCounters p n) s = .next (z.complete p .done ((s.entry c).counters.group (pageArg w))) :=
      exec_completes rfl hs hcounters (readCountersBody_answers (hargs _) (readEntry_ok hc hpage (s := l) hu hparty))
    have hpiu : ∀ q, z.piu q = l.piu q := fun q => by unfold z; split <;> rfl
    have hnu : ∀ q, z.nu q = s.nu q := fun q => by unfold z; split <;> simp [l]
    have htold : l.Told z fun _ => [] := by
      unfold z
      split
      · exact (State.Told.refl l).modCounters
      · exact .refl l
    have hentry : ∀ d, z.entry d = if d = c ∧ clearArg w = true then { s.entry c with counters := k.clearGroup (pageArg w) } else s.entry d := fun d => by
      cases hclear : clearArg w <;> by_cases hd : d = c <;> simp [z, hclear, hd, l, k]
    have ⟨hkind, hnotify⟩ := State.latched_slot hpiu
    refine ⟨_, hrun, hgroup ▸ State.Answered.complete (by decide) hpiu _ _, ?_, fun d hd => ?_, htold.completed hkind hnotify _ _, fun q => by simp [hnu],
      ?_, ?_⟩
    · rw [State.complete_entry, hentry]
      cases clearArg w
      · exact if_neg fun h => Bool.false_ne_true h.2
      · refine (if_pos ⟨rfl, rfl⟩).trans ?_
        unfold Counters.clearGroup
        split <;> rfl
    · rw [State.complete_entry, hentry, if_neg fun h => hd h.1]
    · unfold z
      split <;> simp [State.PoolSame, l]
    · unfold z
      split <;> simp [State.DeviceSame, l]

end Sys2Proof.Machine

/-! # The idle step (O2) -/

namespace Sys2Proof.Machine

/-! ## What is overdue -/

section overdue

/-- The instructions that name the members of a fixed list with a property. -/
theorem mem_filter_map {α : Type} {l : List α} (hl : ∀ x, x ∈ l) {holds : α → Bool} {f : α → Instr} {i : Instr} :
    i ∈ (l.filter holds).map f ↔ ∃ x, holds x = true ∧ i = f x := by
  rw [List.mem_map]
  constructor
  · rintro ⟨x, hx, rfl⟩
    exact ⟨x, (List.mem_filter.mp hx).2, rfl⟩
  · rintro ⟨x, hx, rfl⟩
    exact ⟨x, List.mem_filter.mpr ⟨hl x, hx⟩, rfl⟩

variable (s : State) (i : Instr)

/-- The failures handed to the port state machines and not yet taken (R157). -/
def State.faultsOverdue : List Instr := (allPorts.filter fun p => (s.piu p).faultHanded).map fun p => .linkWriteError ⟨p, (s.writer p).jobs, true⟩

/-- The offer timers that expire (R36). -/
def State.offersOverdue : List Instr := (allChannels.filter fun c => (s.use c).any Use.offerDue).map .offerTimerExpiry

/-- The hold timers that expire (R117). -/
def State.holdsOverdue : List Instr := (allChannels.filter fun c => (s.use c).any Use.holdDue).map .holdTimerExpiry

/-- The delay timers that expire (R133). -/
def State.delaysOverdue : List Instr := allPorts.flatMap fun p => (s.nu p).delaysDue.map (.coalescingDelayExpiry p)

/-- The write timeouts that expire (R75). -/
def State.timeoutsOverdue : List Instr := (allPorts.filter fun p => (s.writer p).timeoutDue).map fun p => .writeTimeout ⟨p, true⟩

theorem State.overdue_eq : s.overdue = s.faultsOverdue ++ s.offersOverdue ++ s.holdsOverdue ++ s.delaysOverdue ++ s.timeoutsOverdue := rfl

theorem State.mem_faultsOverdue :
    i ∈ s.faultsOverdue ↔ ∃ p, (s.piu p).faultHanded = true ∧ i = .linkWriteError ⟨p, (s.writer p).jobs, true⟩ :=
  mem_filter_map mem_allPorts

theorem State.mem_offersOverdue :
    i ∈ s.offersOverdue ↔ ∃ c u o, s.use c = some u ∧ u.stage = .offered o ∧ o.timer.RanOut ∧ i = .offerTimerExpiry c := by
  refine (mem_filter_map mem_allChannels).trans (exists_congr fun c => ?_)
  rw [Option.any_eq_true]
  constructor
  · rintro ⟨⟨u, hu, hdue⟩, hi⟩
    obtain ⟨o, hstage, hout⟩ := u.offerDue_iff.mp hdue
    exact ⟨u, o, hu, hstage, hout, hi⟩
  · rintro ⟨u, o, hu, hstage, hout, hi⟩
    exact ⟨⟨u, hu, u.offerDue_iff.mpr ⟨o, hstage, hout⟩⟩, hi⟩

theorem State.mem_holdsOverdue :
    i ∈ s.holdsOverdue ↔ ∃ c u h, s.use c = some u ∧ u.stage = .opened ∧ u.hold = some h ∧ h.timer.RanOut ∧ i = .holdTimerExpiry c := by
  refine (mem_filter_map mem_allChannels).trans (exists_congr fun c => ?_)
  rw [Option.any_eq_true]
  constructor
  · rintro ⟨⟨u, hu, hdue⟩, hi⟩
    obtain ⟨h, hstage, hhold, hout⟩ := u.holdDue_iff.mp hdue
    exact ⟨u, h, hu, hstage, hhold, hout, hi⟩
  · rintro ⟨u, h, hu, hstage, hhold, hout, hi⟩
    exact ⟨⟨u, hu, u.holdDue_iff.mpr ⟨h, hstage, hhold, hout⟩⟩, hi⟩

theorem State.mem_delaysOverdue : i ∈ s.delaysOverdue ↔
    ∃ p v x, ((s.nu p).vectors.read v).timer = some x ∧ ((s.nu p).vectors.read v).fired = false ∧ x.RanOut ∧ i = .coalescingDelayExpiry p v := by
  unfold State.delaysOverdue
  simp only [List.mem_flatMap, mem_allPorts, true_and, List.mem_map, Nu.mem_delaysDue]
  refine exists_congr fun p => exists_congr fun v => ?_
  constructor
  · rintro ⟨⟨x, htimer, hfired, hout⟩, rfl⟩
    exact ⟨x, htimer, hfired, hout, rfl⟩
  · rintro ⟨x, htimer, hfired, hout, rfl⟩
    exact ⟨⟨x, htimer, hfired, hout⟩, rfl⟩

theorem State.mem_timeoutsOverdue : i ∈ s.timeoutsOverdue ↔
    ∃ p job, (s.writer p).state = .busy job ∧ job.timeout.RanOut ∧ i = .writeTimeout ⟨p, true⟩ := by
  refine (mem_filter_map mem_allPorts).trans (exists_congr fun p => ?_)
  rw [Writer.timeoutDue_iff]
  constructor
  · rintro ⟨⟨job, hbusy, hout⟩, hi⟩
    exact ⟨job, hbusy, hout, hi⟩
  · rintro ⟨job, hbusy, hout, hi⟩
    exact ⟨⟨job, hbusy, hout⟩, hi⟩

/-! ## Nothing is overdue twice -/

theorem State.faultsOverdue_nodup : s.faultsOverdue.Nodup :=
  ((nodup_ascending 4).filter _).map fun p q h => by
    injection h with h
    exact congrArg LinkError.port h

theorem State.offersOverdue_nodup : s.offersOverdue.Nodup := ((nodup_ascending 64).filter _).map fun _ _ h => Instr.offerTimerExpiry.inj h
theorem State.holdsOverdue_nodup : s.holdsOverdue.Nodup := ((nodup_ascending 64).filter _).map fun _ _ h => Instr.holdTimerExpiry.inj h

theorem State.delaysOverdue_nodup : s.delaysOverdue.Nodup := by
  refine List.nodup_flatMap.mpr ⟨fun p _ => ((nodup_ascending 4).filter _).map fun _ _ h => (Instr.coalescingDelayExpiry.inj h).2, ?_⟩
  refine (nodup_ascending 4).imp fun {p q} hne i hp hq => ?_
  obtain ⟨v, _, rfl⟩ := List.mem_map.mp hp
  obtain ⟨w, _, h⟩ := List.mem_map.mp hq
  exact hne (Instr.coalescingDelayExpiry.inj h).1.symm

theorem State.timeoutsOverdue_nodup : s.timeoutsOverdue.Nodup :=
  ((nodup_ascending 4).filter _).map fun p q h => by
    injection h with h
    exact congrArg LinkTimeout.port h

/-- No instruction is overdue twice: each list has instructions of its own kind. -/
theorem State.overdue_nodup : s.overdue.Nodup := by
  rw [State.overdue_eq]
  refine List.Nodup.append (List.Nodup.append (List.Nodup.append (List.Nodup.append s.faultsOverdue_nodup s.offersOverdue_nodup fun i h k => ?_)
    s.holdsOverdue_nodup fun i h k => ?_) s.delaysOverdue_nodup fun i h k => ?_) s.timeoutsOverdue_nodup fun i h k => ?_
  all_goals
    simp only [List.mem_append, State.mem_faultsOverdue, State.mem_offersOverdue, State.mem_holdsOverdue, State.mem_delaysOverdue,
      State.mem_timeoutsOverdue] at h k
    grind

end overdue

/-! ## Time goes on -/

section time

variable (f : Timer → Timer)

theorem Stage.mapTimer_eq (stage : Stage) : stage.mapTimer f =
    match stage with
    | .offered o => .offered ⟨o.offeror, o.peer, f o.timer⟩
    | st => st := by cases stage <;> rfl

theorem Writer.mapTimer_eq (w : Writer) : w.mapTimer f = { w with
    state :=
      match w.state with
      | .busy job => .busy ⟨job.kind, job.writes, f job.timeout⟩
      | st => st } := by
  unfold Writer.mapTimer
  cases w.state <;> rfl

theorem Use.mapTimers_eq (u : Use) : u.mapTimers f = { u with
    stage :=
      match u.stage with
      | .offered o => .offered ⟨o.offeror, o.peer, f o.timer⟩
      | st => st
    hold := u.hold.map fun h => ⟨h.reason, f h.timer⟩ } := by
  rw [Use.mapTimers, Stage.mapTimer_eq]

/-- Every running timer of the device, block by block. -/
theorem State.mapTimers_eq (s : State) : s.mapTimers f = { s with
    entries := Table.build fun c => { s.entry c with
      use := (s.use c).map fun u => { u with
        stage :=
          match u.stage with
          | .offered o => .offered ⟨o.offeror, o.peer, f o.timer⟩
          | st => st
        hold := u.hold.map fun h => ⟨h.reason, f h.timer⟩ } }
    ports := Table.build fun p => { s.port p with
      writer := { s.writer p with
        state :=
          match (s.writer p).state with
          | .busy job => .busy ⟨job.kind, job.writes, f job.timeout⟩
          | st => st }
      nu := { s.nu p with
        vectors := Table.build fun v => { (s.nu p).vectors.read v with timer := ((s.nu p).vectors.read v).timer.map f } } } } := by
  have huses : (fun u : Use => u.mapTimers f) = _ := funext (Use.mapTimers_eq f)
  have hwriters : Writer.mapTimer f = _ := funext (Writer.mapTimer_eq f)
  rw [State.mapTimers, huses, hwriters]
  rfl

/-- A tick, or the passing of a tick (R177). -/
def Timer.goOn (onTick : Bool) (x : Timer) : Timer := ⟨x.limit, if onTick = true then some (x.count.getD 0) else x.count.map fun k => k + 1⟩

theorem Timer.goOn_onTick : Timer.goOn true = Timer.pass := rfl
theorem Timer.goOn_between : Timer.goOn false = Timer.tick := rfl

/-- With nothing overdue every timer goes on (R177; log 1). -/
theorem State.passTime_goesOn {s : State} (h : s.overdue = []) : s.passTime = { s.mapTimers (Timer.goOn s.onTick) with onTick := !s.onTick } := by
  rw [State.passTime_calm h]
  cases s.onTick <;> rfl

end time

/-- Settles O2: what is overdue goes onto the queue, or every timer goes on. -/
theorem idleStepLetsTimePass : Obligations.IdleStepLetsTimePass := by
  intro s hpending due goOn
  have hdue : ∀ i, i ∈ s.overdue ↔ due i := fun i => by
    simp only [State.overdue_eq, List.mem_append, State.mem_faultsOverdue, State.mem_offersOverdue, State.mem_holdsOverdue, State.mem_delaysOverdue,
      State.mem_timeoutsOverdue, due, or_assoc]
  have hstep : step s = .next s.passTime := by rw [step, hpending]
  refine ⟨fun ⟨i, hi⟩ => ⟨s.overdue, ?_, s.overdue_nodup, hdue⟩, fun hno => ?_⟩
  · rw [hstep, State.passTime_due (List.ne_nil_of_mem ((hdue i).mpr hi))]
  · have hcalm : s.overdue = [] := List.eq_nil_iff_forall_not_mem.mpr fun i hi => hno i ((hdue i).mp hi)
    rw [hstep, State.passTime_goesOn hcalm, State.mapTimers_eq]
    rfl

end Sys2Proof.Machine
